-- ==== Sys2Proof/Word.lean ====
section
/-! DEFINITION. The words of the Manjolt 7340: the byte of its two kinds of serial link, the 16-bit
window sequence number, the small index types of the fixed resources, and the limits at which its
counters and registers stop. -/

namespace Sys2Proof

/-- One byte of a frame on either kind of link (R203). -/
abbrev Byte := BitVec 8

/-- A window sequence number, counted modulo 65,536 (R90, R203). -/
abbrev Seq := BitVec 16

/-- An acquisition link 0..3 (R107). -/
abbrev LinkId := Fin 4

/-- A metering point 0..15 (R47). -/
abbrev PointId := Fin 16

/-- An account 0..7 (R13). -/
abbrev AccountId := Fin 8

/-- A breaker 0..7 (R71). -/
abbrev BreakerId := Fin 8

/-- A composition map 0..3 (R76, R82). -/
abbrev MapId := Fin 4

/-- A band 0..7 (R153). -/
abbrev BandId := Fin 8

/-- A spare block 0..3 (R130). -/
abbrev SpareId := Fin 4

/-- A set of links, or of maps: bit `i` is set when member `i` belongs to it (R203, R207, R210). -/
abbrev Set4 := BitVec 4

/-- The largest value of a 32-bit count or sequence (R125, R149, R193, R203). -/
def u32Max : Nat := 4294967295

/-- The largest value of an energy register or open partial (R25, R30). -/
def u64Max : Nat := 18446744073709551615

/-- A 32-bit counter rises by 1 and stops at 4,294,967,295 (R125, R149, R152, R193). -/
def countUp (n : Nat) : Nat := if n < u32Max then n + 1 else n

end Sys2Proof
end

