-- ==== Sys2Proof/Machine/Bytes.lean ====
section
/-! DEFINITION. Integers as bytes, least significant byte first, and sets of flags as bits (R203). -/

namespace Sys2Proof.Machine

/-- `width` bytes of `n`, least significant first (R203). -/
def leBytes : Nat → Nat → List Byte
  | 0, _ => []
  | width + 1, n => BitVec.ofNat 8 n :: leBytes width (n / 256)

/-- The number that bytes spell, least significant first (R203). -/
def leNat : List Byte → Nat
  | [] => 0
  | b :: rest => b.toNat + 256 * leNat rest

/-- `width` bytes of an integer in two's complement (R203). -/
def leInt (width : Nat) (i : Int) : List Byte := leBytes width (i % (256 ^ width : Nat)).toNat

/-- The number whose bit `i` is set when the `i`-th member of the list is true (R203). -/
def bitsOf : List Bool → Nat
  | [] => 0
  | b :: rest => (if b then 1 else 0) + 2 * bitsOf rest

/-- One byte. -/
def byteOf (n : Nat) : Byte := BitVec.ofNat 8 n

/-- A flag as one byte: 1 when set, else 0 (R206). -/
def flagByte (b : Bool) : Byte := if b then 1 else 0

/-- Whether bit `i` of a number is set. -/
def bitAt (n i : Nat) : Bool := n / 2 ^ i % 2 == 1

/-- The bytes `at .. at + width - 1` of a list. -/
def field (bytes : List Byte) (start width : Nat) : List Byte := (bytes.drop start).take width

/-- The number at a place of a payload (R203, R206). -/
def natAt (bytes : List Byte) (start width : Nat) : Nat := leNat (field bytes start width)

end Sys2Proof.Machine
end

