-- ==== Sys2Proof/Machine/Crc.lean ====
section
/-! DEFINITION. The two check sequences of R203: CRC-16 of the message link and of the WINDOW header,
CRC-32 of the acquisition-link frames, the interval records and the units of the retained store. -/

namespace Sys2Proof.Machine

/-- One bit of the CRC-16: polynomial 0x1021, most significant bit first (R203). -/
def crc16Bit (c : BitVec 16) : BitVec 16 := if c.msb then (c <<< 1) ^^^ 0x1021#16 else c <<< 1

/-- `n` bits of the CRC-16. -/
def crc16Bits : Nat → BitVec 16 → BitVec 16
  | 0, c => c
  | n + 1, c => crc16Bits n (crc16Bit c)

/-- One byte of the CRC-16. -/
def crc16Byte (c : BitVec 16) (b : Byte) : BitVec 16 := crc16Bits 8 (c ^^^ (b.setWidth 16 <<< 8))

/-- The CRC-16 over bytes in transmission order: initial value 0xFFFF, no final XOR (R203). -/
def crc16 (bytes : List Byte) : BitVec 16 := bytes.foldl crc16Byte 0xFFFF#16

/-- One bit of the CRC-32: polynomial 0x04C11DB7 reflected, least significant bit first (R203). -/
def crc32Bit (c : BitVec 32) : BitVec 32 := if c.getLsbD 0 then (c >>> 1) ^^^ 0xEDB88320#32 else c >>> 1

/-- `n` bits of the CRC-32. -/
def crc32Bits : Nat → BitVec 32 → BitVec 32
  | 0, c => c
  | n + 1, c => crc32Bits n (crc32Bit c)

/-- One byte of the CRC-32. -/
def crc32Byte (c : BitVec 32) (b : Byte) : BitVec 32 := crc32Bits 8 (c ^^^ b.setWidth 32)

/-- The CRC-32 over bytes in transmission order: initial value and final XOR 0xFFFFFFFF (R203). -/
def crc32 (bytes : List Byte) : BitVec 32 := bytes.foldl crc32Byte 0xFFFFFFFF#32 ^^^ 0xFFFFFFFF#32

/-- The CRC-16 as it is sent: two bytes, least significant first (R203). -/
def crc16Bytes (bytes : List Byte) : List Byte := leBytes 2 (crc16 bytes).toNat

/-- The CRC-32 as it is sent: four bytes, least significant first (R203). -/
def crc32Bytes (bytes : List Byte) : List Byte := leBytes 4 (crc32 bytes).toNat

end Sys2Proof.Machine
end

