-- ==== Sys2Proof/Config.lean ====
section
/-! DEFINITION. What is fixed for every Manjolt 7340: the capacities of R196 and the constants that the
rules state as plain numbers. -/

namespace Sys2Proof

/-- The revision of the frame and record layouts that IDENT reports (R196, R207; assumption 1). -/
def Config.layoutRevision : Nat := 1

/-- Record slots of the retained store, numbered 0..4,095 (R130). -/
def Config.slotCount : Nat := 4096

/-- Places of the bad-slot list (R138). -/
def Config.badSlotPlaces : Nat := 64

/-- Places of the record class of the job queue, the running record job included (R132, R133). -/
def Config.recordPlaces : Nat := 16

/-- Attempts that one write target is given (R135). -/
def Config.attemptLimit : Nat := 20

/-- Entries that the change queue holds (R157). -/
def Config.changePlaces : Nat := 8

/-- Frames that the message-link receive buffer holds (R193). -/
def Config.bufferPlaces : Nat := 2

/-- The conversion of mW times µs to mWh, and of mvar times µs to mvarh (R1). -/
def Config.energyUnit : Nat := 3600000000

/-- The duration of a void window, in µs (R16, R100). -/
def Config.voidDuration : Nat := 200000

/-- Lowest and highest window duration after the clamp of R17, in µs. -/
def Config.durationLow : Nat := 150000

/-- See `Config.durationLow` (R17). -/
def Config.durationHigh : Nat := 250000

/-- The largest phasor exponent used; a greater one is clamped to it (R3). -/
def Config.exponentLimit : Nat := 7

/-- The period at which OFFER and ACCEPT are sent, in ms (R113, R116). -/
def Config.sendPeriod : Nat := 20

/-- The silence timer, in ms (R117). -/
def Config.silenceTime : Nat := 600

/-- The break hold, in ms (R119). -/
def Config.breakHoldTime : Nat := 1500

/-- The largest gap between two bytes of a message-link frame, in ms (R191). -/
def Config.byteGap : Nat := 10

/-- The largest payload of a message-link frame (R191, R204). -/
def Config.payloadLimit : Nat := 1024

/-- The largest step of a TIME.SET, in ms, that is a small step (R169). -/
def Config.smallStep : Nat := 2000

/-- The span of patrol steps over which the store alert is judged (R145). -/
def Config.alertSpan : Nat := 1024

/-- The idle that ends a jabber cut, in ms (R109, R110). -/
def Config.jabberIdle : Nat := 1

/-- The bytes at which a frame without an idle gap is cut (R109). -/
def Config.jabberLimit : Nat := 4096

/-- Vendor and part codes that IDENT reports (R207). -/
def Config.vendorCode : Nat := 0x0F01

/-- See `Config.vendorCode` (R207). -/
def Config.partCode : Nat := 0x7340

end Sys2Proof
end

