-- ==== Sys2Proof/Syntax.lean ====
section
/-! DEFINITION. The commands of the Manjolt 7340: one constructor of `Instr` for each row of
spec/opcode_table.json, with the data that arrives with it.

A request row (IDENT to RESET, and UNKNOWN_REQUEST_KIND) is the instant at which the oldest frame of
the receive buffer is taken (R194); its fields are in that frame, so the row carries nothing
(assumption 4). A row for a frame of an acquisition link carries the link and the content of the frame. What the
retained store answers (whether a read-back matches, which units no longer match their CRC) is a matter
of the store's cells and arrives as an operand (assumption 5). -/

namespace Sys2Proof

/-- The frequency class latched from FREQ and carried by OFFER and ACCEPT (R112, R208). -/
inductive FreqClass where
  | hz50
  | hz60
  deriving DecidableEq, Repr

/-- The harmonic profiles, lowest first (R53, R111). -/
inductive Profile where
  | basic
  | extended
  | full
  deriving DecidableEq, Repr

/-- The kind of a channel slot (R108). -/
inductive SlotKind where
  | voltage
  | current
  deriving DecidableEq, Repr

/-- The rate of the message link, in baud (R190). -/
inductive Rate where
  | baud115200
  | baud921600
  deriving DecidableEq, Repr

/-- The levels of the strap pins, as latched at a power-on or pin reset (R176). -/
structure Straps where
  address : Fin 4
  rate : Rate
  freq : FreqClass
  service : Bool
  deriving DecidableEq, Repr

/-- A set of profiles (R108). -/
structure ProfileSet where
  basic : Bool
  extended : Bool
  full : Bool
  deriving DecidableEq, Repr

/-- The content of an OFFER. The channel count is the number of counted slots, `kinds.length`
(R108, R208, R209). -/
structure OfferContent where
  freq : FreqClass
  profiles : ProfileSet
  kinds : List SlotKind
  deriving DecidableEq, Repr

/-- The content of an ACCEPT, and the resolved content of a link (R108, R112). -/
structure AcceptContent where
  freq : FreqClass
  profile : Profile
  kinds : List SlotKind
  deriving DecidableEq, Repr

/-- One phasor block: the low four bits of the exponent byte and two signed mantissas (R3, R208). -/
structure PhasorBlock where
  exponent : BitVec 4
  re : BitVec 16
  im : BitVec 16
  deriving DecidableEq, Repr

/-- The content of a WINDOW frame: the header fields of R208 and the phasor blocks, slot by slot and
within a slot order by order. -/
structure WindowFrame where
  seq : Seq
  duration : BitVec 32
  orders : Nat
  channels : Nat
  inputs : BitVec 16
  blocks : List PhasorBlock
  deriving DecidableEq, Repr

/-- The ten tables of the configuration, in the order of R130. -/
inductive TableId where
  | links
  | points
  | breakers
  | topology
  | composition
  | bands
  | contract
  | health
  | notice
  | patrol
  deriving DecidableEq, Repr

/-- A unit of the retained store (R130). -/
inductive StoreUnit where
  | register (n : AccountId)
  | spare (n : SpareId)
  | config (t : TableId)
  | slot (n : Fin 4096)
  | save
  deriving DecidableEq, Repr

/-- What a write that did not verify leaves in its unit: the content it held before, nothing usable,
or the content written (R131, R135). -/
inductive UnitLeft where
  | untouched
  | torn
  | complete
  deriving DecidableEq, Repr

/-- How one write and its read-back end (R135). -/
inductive AttemptResult where
  | verified
  | mismatch (left : UnitLeft)
  deriving DecidableEq, Repr

/-- The commands of the part: the rows of the opcode table, in its order. -/
inductive Instr where
  /-- POWER_ON_RESET: the strap levels, what a write running at that instant leaves, and the units
  that the load finds decayed. -/
  | powerOnReset (straps : Straps) (left : UnitLeft) (decayed : List StoreUnit)
  /-- PIN_RESET: as `powerOnReset`. -/
  | pinReset (straps : Straps) (left : UnitLeft) (decayed : List StoreUnit)
  | tkSecondsWrap
  | intervalBoundary
  | closeEventBegin
  | pfwAssert
  | pfwDeassert
  /-- MESSAGE_FRAME_RECEIVED: the bytes of the frame as the line brings them. -/
  | messageFrameReceived (bytes : List Byte)
  | framingError
  | byteGapExpiry
  | ident
  | status
  | clear
  | timeSet
  | timeGet
  | tableGet
  | tablePut
  | accountRead
  | windowPeek
  | logInfo
  | logRead
  /-- LOG_READ_JOB_DONE: whether the first and the second record read match their CRC-32. -/
  | logReadJobDone (firstOk secondOk : Bool)
  | linkStatus
  | linkRestart
  | pointStatus
  | pointSubstitute
  | pointRestore
  | preset
  | mode
  | lock
  | unlock
  | erase
  | reset
  | unknownRequestKind
  /-- SOFT_RESET_PROCEED: how the CLEAN write ends, and the units that the load finds decayed. -/
  | softResetProceed (marker : AttemptResult) (decayed : List StoreUnit)
  | noticeTransmit
  | offerFrame (link : LinkId) (content : OfferContent)
  | acceptFrame (link : LinkId) (content : AcceptContent)
  | windowFrame (link : LinkId) (frame : WindowFrame)
  | invalidFrame (link : LinkId)
  /-- DAMAGED_WINDOW: the sequence that the intact header names. -/
  | damagedWindow (link : LinkId) (seq : Seq)
  | jabberCut (link : LinkId)
  | jabberIdleEnd (link : LinkId)
  | offerSendPeriod (link : LinkId)
  | acceptSendPeriod (link : LinkId)
  | linkFrameSend (link : LinkId)
  | silenceTimerExpiry (link : LinkId)
  | breakHoldExpiry (link : LinkId)
  /-- ASSEMBLY_DEADLINE_EXPIRY: the sequence of the record whose deadline is reached. -/
  | assemblyDeadlineExpiry (seq : Seq)
  /-- TAKE_WINDOW: whether the interval accountant applies the window's results within this step, or
  they still stand to be applied when the next event comes (R22, R170). -/
  | takeWindow (applied : Bool)
  /-- WINDOW_BOUNDARY: the boundary falls and the walk tests its first entry; while the walk is in progress,
  its next entry (R159; assumption 43). -/
  | windowBoundary
  | storeJobStart
  | storeWriteAttemptDone (result : AttemptResult)
  | patrolStepDue
  /-- PATROL_READ_DONE: whether the content and the CRC-32 of this read agree. -/
  | patrolReadDone (agrees : Bool)
  /-- LOSS_OF_SUPPLY: what a running store write leaves in its unit. -/
  | lossOfSupply (left : UnitLeft)
  | oscillatorStop
  | strayByte (byte : Byte)
  deriving DecidableEq, Repr

end Sys2Proof
end

