-- ==== Sys2Proof/Machine/State.lean ====
section
/-! DEFINITION. Everything the Manjolt 7340 holds, block by block as the spec's section 3.1 names the
blocks, as plain data: pins and straps, timekeeper and time base, condition unit, acquisition links,
window assembler, point stage, topology resolver, power arithmetic unit, interval accountant, retained
store and its controller, configuration manager, supply monitor and message link controller; and the
queue of commands that wait. `State.reset` is the part after its first power-on, its store unwritten. -/

namespace Sys2Proof.Machine

/-! ## The configuration tables -/

/-- One entry of the LINKS table (R111). -/
structure LinkEntry where
  enabled : Bool
  highest : Profile
  fixedAllowed : Bool
  fixedCount : Nat
  fixedKinds : Vector SlotKind 12
  deriving DecidableEq, Repr

/-- A link and a channel slot of it (R47). -/
structure SlotRef where
  link : LinkId
  slot : Fin 12
  deriving DecidableEq, Repr

/-- The references of one phase of a metering point; `none` is null (R47). -/
structure PhaseRefs where
  voltage : Option SlotRef
  current : Option SlotRef
  invert : Bool
  deriving DecidableEq, Repr

/-- A metering point with a sign (R47, R82). -/
structure Term where
  point : PointId
  negative : Bool
  deriving DecidableEq, Repr

/-- The substitute of a metering point (R47, R61). -/
inductive Substitute where
  | none
  | alternate (point : PointId)
  | derived (terms : List Term)
  deriving DecidableEq, Repr

/-- One entry of the POINTS table (R47). -/
structure PointEntry where
  phases : Vector PhaseRefs 3
  un : Nat
  deadPct : Nat
  livePct : Nat
  importOnly : Bool
  currentFloor : Nat
  apparentFloor : Nat
  substitute : Substitute
  autoSub : Bool
  deriving DecidableEq, Repr

/-- The two means of a finished shadow period and the window that ended it (R23, R64). -/
structure ShadowResult where
  p1Mean : Int
  q1Mean : Int
  seq : Seq
  deriving DecidableEq, Repr

/-- What the configuration manager stores per point beside its entry: the stored mode, SUBSTITUTED or
DIRECT, and the last shadow result (R47, R67). -/
structure PointStored where
  substituted : Bool
  shadowResult : Option ShadowResult
  deriving DecidableEq, Repr

/-- Where a breaker is read: a link and an input pair of it (R71). -/
structure BreakerRef where
  link : LinkId
  pair : Fin 8
  deriving DecidableEq, Repr

/-- The BREAKERS table: eight entries, `none` unused, and the settle limit S (R71). -/
structure BreakersTable where
  entries : Vector (Option BreakerRef) 8
  settle : Nat
  deriving DecidableEq, Repr

/-- A required or reported breaker position (R72, R76). -/
inductive Position where
  | closed
  | opened
  deriving DecidableEq, Repr

/-- One entry of the TOPOLOGY table: the mask is the set of breakers with a required state (R76). -/
structure TopologyEntry where
  valid : Bool
  required : Vector (Option Position) 8
  deriving DecidableEq, Repr

/-- A configured band (R153). -/
structure Band where
  lo : Nat
  hi : Nat
  deriving DecidableEq, Repr

/-- The CONTRACT table: L, k, M, A and N (R154). -/
structure ContractTable where
  minutes : Nat
  ratio : Nat
  holdLimit : Nat
  allowance : Nat
  shadowPeriod : Nat
  deriving DecidableEq, Repr

/-- The HEALTH table: Lh, F and C (R155). -/
structure HealthTable where
  limit : Nat
  fault : Nat
  clear : Nat
  deriving DecidableEq, Repr

/-- How latched flags are cleared (R155, R184, R185). -/
inductive Discipline where
  | follow
  | hold
  deriving DecidableEq, Repr

/-- The NOTICE table: the discipline and, per condition, whether it is masked (R155). -/
structure NoticeTable where
  discipline : Discipline
  masked : Vector Bool 16
  deriving DecidableEq, Repr

/-- The COMPOSITION table: per map and account a term list (R82). -/
abbrev CompositionTable := Vector (Vector (List Term) 8) 4

/-- The configuration working copy: the ten tables (R152). -/
structure Tables where
  links : Vector LinkEntry 4
  points : Vector PointEntry 16
  breakers : BreakersTable
  topology : Vector TopologyEntry 4
  composition : CompositionTable
  bands : Vector (Option Band) 8
  contract : ContractTable
  health : HealthTable
  notice : NoticeTable
  /-- The patrol period P, in ms (R155). -/
  patrol : Nat
  deriving DecidableEq, Repr

/-- The device mode (R152). -/
inductive DeviceMode where
  | metering
  | commissioning
  deriving DecidableEq, Repr

/-! ## Accounts and intervals -/

/-- One energy register with its marks (R25). -/
structure Register where
  value : Nat
  saturated : Bool
  restored : Bool
  invalid : Bool
  deriving DecidableEq, Repr

/-- The ten window counts of an interval (R24, R29). -/
structure WindowCounts where
  total : Nat
  good : Nat
  held : Nat
  missing : Nat
  transfer : Nat
  offFreq : Nat
  partialOrders : Nat
  suspect : Nat
  undefinedTopology : Nat
  substituted : Nat
  deriving DecidableEq, Repr

/-- An open interval (R24). `clamped` says of each partial whether an increment was cut at the limit
(R30), so that the close marks the register. -/
structure Interval where
  partials : Vector Nat 25
  clamped : Vector Bool 25
  startTime : Nat
  timeInvalid : Bool
  outage : Bool
  gapBefore : Bool
  counts : WindowCounts
  maps : Set4
  deriving DecidableEq, Repr

/-- One account at the interval accountant. `interval` is `none` when the account is NONE (R24);
`gapMark` is R178's; `inFlight` is the close in flight of R42, and `blockOwed` its second condition:
the register-block content handed last is not yet verified. -/
structure Account where
  interval : Option Interval
  regs : Vector Register 25
  residues : Vector Nat 24
  gapMark : Bool
  inFlight : Bool
  blockOwed : Bool
  deriving DecidableEq, Repr

/-- The causes of a close (R36). -/
inductive EndCause where
  | boundary
  | timeStep
  | config
  | mode
  | preset
  | reset
  | outage
  deriving DecidableEq, Repr

/-- An interval record (R40); its CRC-32 is formed from its image (R211). -/
structure IntervalRecord where
  seq : Nat
  account : AccountId
  startTime : Nat
  endTime : Nat
  minutes : Nat
  cause : EndCause
  timeInvalid : Bool
  outage : Bool
  gapBefore : Bool
  saturated : Bool
  restored : Bool
  invalid : Bool
  maps : Set4
  counts : WindowCounts
  partials : Vector Nat 25
  snapshot : Vector Nat 25
  deriving DecidableEq, Repr

/-- What opens after a close (R32, R36): nothing, an interval that starts at the boundary, or one that
starts at the count of the opening instant. -/
inductive Reopen where
  | nothing
  | atBoundary
  | atCount
  deriving DecidableEq, Repr

/-- An event that closes every OPEN account, as it waits for record places (R133). `fresh` says that
the next boundary is set afresh with it (R32); `awaited` that a TIME.SET in service waits for it (R194). -/
structure CloseEvent where
  cause : EndCause
  endTime : Nat
  reopen : Reopen
  fresh : Bool
  awaited : Bool
  deriving DecidableEq, Repr

/-- The interval accountant (R24, R31, R34, R133). -/
structure Accountant where
  accounts : Vector Account 8
  nextBoundary : Option Nat
  /-- The first boundary that fell while the supply monitor was not NORMAL (R34). -/
  pendingBoundary : Option Nat
  nextSeq : Nat
  waiting : List CloseEvent
  deriving DecidableEq, Repr

/-! ## The point stage, the topology resolver and the power arithmetic unit -/

/-- The eleven values of a point vector or a contribution (R8, R11). -/
structure PointVector where
  p1 : Int
  q1 : Int
  qh : Int
  pb : Vector Int 8
  deriving DecidableEq, Repr

/-- The direct, substitute or effective status of a point (R54, R61). -/
inductive Status where
  | fresh
  | held
  | missing
  deriving DecidableEq, Repr

/-- Why a point was not delivered (R52). -/
inductive MissReason where
  | noFrame
  | slotRange
  | kind
  deriving DecidableEq, Repr

/-- The mode of a point (R49, R62). -/
inductive PointMode where
  | direct
  | shadow
  | substituted
  deriving DecidableEq, Repr

/-- The health tests that failed (R58). -/
structure FailedTests where
  t1 : Bool
  t2 : Bool
  t3 : Bool
  t4 : Bool
  deriving DecidableEq, Repr

/-- The shadow state of a point (R49, R63). -/
structure Shadow where
  windows : Nat
  period : Nat
  comparisons : Nat
  p1Sum : Int
  q1Sum : Int
  deriving DecidableEq, Repr

/-- The runtime state of one metering point (R49). -/
structure Point where
  orders : Nat
  live : Bool
  lastStatus : Option Status
  missReason : Option MissReason
  hold : Nat
  lastGood : Option PointVector
  health : Nat
  fault : Bool
  failed : FailedTests
  mode : PointMode
  shadow : Option Shadow
  deriving DecidableEq, Repr

/-- The effective state of a breaker (R73). -/
inductive BreakerState where
  | closed
  | opened
  | unknown
  deriving DecidableEq, Repr

/-- The report of a breaker for one window (R72). -/
inductive Report where
  | closed
  | opened
  | disagree
  | noReport
  deriving DecidableEq, Repr

/-- The runtime state of one breaker (R73). -/
structure Breaker where
  state : BreakerState
  settle : Nat
  lastReport : Option Report
  deriving DecidableEq, Repr

/-- The topology resolver (R73, R80). -/
structure Resolver where
  breakers : Vector Breaker 8
  map : MapId
  matched : Bool
  transfer : Bool
  deriving DecidableEq, Repr

/-- A last-contribution record (R12). -/
structure Contribution where
  seq : Seq
  map : MapId
  duration : Nat
  offFreq : Bool
  mode : DeviceMode
  vector : PointVector
  deriving DecidableEq, Repr

/-- The window status and flags of one account for one window (R27, R28), with its contribution. -/
structure AccountWindow where
  vector : PointVector
  status : Status
  transfer : Bool
  offFreq : Bool
  partialOrders : Bool
  suspect : Bool
  undefTopo : Bool
  substituted : Bool
  deriving DecidableEq, Repr

/-! ## The window assembler -/

/-- A frame in an alignment buffer, under its adjusted sequence (R91). -/
structure BufferedFrame where
  seq : Seq
  frame : WindowFrame
  deriving DecidableEq, Repr

/-- An open assembly record (R94). -/
structure AssemblyRecord where
  seq : Seq
  firstArrival : Nat
  duration : Nat
  offFreq : Bool
  expected : Set4
  arrived : Set4
  deadline : Nat
  deriving DecidableEq, Repr

/-- The window in processing: its results for the accounts, `none` once the interval accountant has
applied them or will not apply them (R99, R170). -/
structure Processing where
  seq : Seq
  duration : Nat
  map : MapId
  results : Option (Vector AccountWindow 8)
  deriving DecidableEq, Repr

/-- The window assembler (R89). -/
structure Assembler where
  front : Seq
  buffers : Vector (List BufferedFrame) 4
  records : List AssemblyRecord
  processing : Option Processing
  deriving DecidableEq, Repr

/-! ## The acquisition links -/

/-- The states of a link; UP is negotiated or fixed (R112). -/
inductive LinkState where
  | disabled
  | offering
  | acknowledging
  | up (fixed : Bool)
  | breaking
  deriving DecidableEq, Repr

/-- A frame waiting on a link transmitter (R110). The base of a START is taken when it is sent (R116). -/
inductive LinkTx where
  | offer (content : OfferContent)
  | accept (content : AcceptContent)
  | start
  | again (seq : Seq)
  deriving DecidableEq, Repr

/-- The seven counters of a link (R125). -/
structure LinkCounters where
  framesGood : Nat
  crcErrors : Nat
  repeatsSent : Nat
  late : Nat
  duplicates : Nat
  jabberCuts : Nat
  restarts : Nat
  deriving DecidableEq, Repr

/-- One acquisition link controller (R109, R110, R112). `resolved` and `offset` are present in UP only;
`silence`, `breakHold` and `sendTimer` are the times that remain, `none` when stopped; `sending` is the
frame on the transmitter; `ignoring` is there while the receive pair is ignored after a jabber cut, with the
idle that remains. -/
structure Link where
  state : LinkState
  offerRun : Nat
  offerRunContent : Option OfferContent
  refused : Option OfferContent
  lastOffer : Option OfferContent
  candidate : Option AcceptContent
  acceptRun : Nat
  windowRun : Nat
  windowRunSeq : Option Seq
  resolved : Option AcceptContent
  offset : Option Seq
  windowSinceUp : Bool
  lost : List Seq
  errorRun : Nat
  silence : Option Nat
  breakHold : Option Nat
  sendTimer : Option Nat
  waiting : List LinkTx
  sending : Option (List Byte)
  ignoring : Option Nat
  counters : LinkCounters
  deriving DecidableEq, Repr

/-! ## The retained store -/

/-- The content of a register block or an assigned spare (R130, R41). -/
structure RegContent where
  account : AccountId
  regs : Vector Register 25
  residues : Vector Nat 24
  deriving DecidableEq, Repr

/-- The state of a spare block (R130). -/
inductive SpareState where
  | free
  | assigned (account : AccountId)
  | retired
  deriving DecidableEq, Repr

/-- The store map, carried in the PATROL configuration block (R130). -/
structure StoreMap where
  badSlots : List Nat
  spares : Vector SpareState 4
  logFloor : Nat
  writePosition : Nat
  nextSeq : Nat
  deriving DecidableEq, Repr

/-- The content of a configuration block, less its generation (R130, R152). -/
inductive ConfigContent where
  | links (t : Vector LinkEntry 4)
  | points (t : Vector PointEntry 16) (stored : Vector PointStored 16)
  | breakers (t : BreakersTable)
  | topology (t : Vector TopologyEntry 4)
  | composition (t : CompositionTable)
  | bands (t : Vector (Option Band) 8)
  | contract (t : ContractTable) (mode : DeviceMode) (locked : Bool)
  | health (t : HealthTable)
  | notice (t : NoticeTable)
  | patrol (period : Nat) (map : StoreMap)
  deriving DecidableEq, Repr

/-- A configuration block: its content and the configuration generation at the write (R130). -/
structure ConfigBlock where
  content : ConfigContent
  generation : Nat
  deriving DecidableEq, Repr

/-- The state of one account in a save block (R171). -/
structure SavedAccount where
  interval : Option Interval
  regs : Vector Register 25
  residues : Vector Nat 24
  deriving DecidableEq, Repr

/-- The count and validity of the timekeeper (R168, R171). -/
structure TimeStamp where
  seconds : Nat
  millis : Nat
  valid : Bool
  deriving DecidableEq, Repr

/-- The content of a save block written with marker SAVED (R171). -/
structure SavedState where
  time : TimeStamp
  mode : DeviceMode
  locked : Bool
  generation : Nat
  nextBoundary : Option Nat
  boundaryPending : Bool
  accounts : Vector SavedAccount 8
  records : List IntervalRecord
  deriving DecidableEq, Repr

/-- The save block (R130, R140). -/
inductive SaveBlock where
  | running
  | clean
  | saved (content : SavedState)
  deriving DecidableEq, Repr

/-- The retained store. A unit that holds nothing usable, never written or failing its CRC-32, is
`none`, and a record slot is listed only while it holds an intact record, in rising slot order (R130). -/
structure Store where
  registers : Vector (Option RegContent) 8
  spares : Vector (Option RegContent) 4
  config : Vector (Option ConfigBlock) 10
  slots : List (Nat × IntervalRecord)
  save : Option SaveBlock
  deriving DecidableEq, Repr

/-- The block that an account is kept in (R131, R139). -/
inductive BlockLoc where
  | register (n : AccountId)
  | spare (n : SpareId)
  deriving DecidableEq, Repr

/-- A queued save-block write; the content of a save is formed when the job starts (R140, R171). -/
inductive SaveJob where
  | save
  | running
  | clean
  deriving DecidableEq, Repr

/-- A queued configuration-block write; the store map joins a PATROL block when the job starts (R141). -/
structure ConfigJob where
  content : ConfigContent
  generation : Nat
  deriving DecidableEq, Repr

/-- A queued LOG.READ (R142). -/
structure ReadJob where
  first : Nat
  two : Bool
  deriving DecidableEq, Repr

/-- How a LOG.READ was judged when its job started (R142). -/
inductive ReadVerdict where
  | gone
  | notFound
  | read (first : Nat) (second : Option Nat)
  deriving DecidableEq, Repr

/-- The next unit that the patrol checks (R131, R143). -/
inductive PatrolPos where
  | account (a : AccountId)
  | config (t : TableId)
  | record (seq : Nat)
  deriving DecidableEq, Repr

/-- The job that runs, with its target (R134, R135). `second` of a patrol job says that the unit is
being read again; of a read job, that its first read has been made. -/
inductive Job where
  | save (content : SaveBlock)
  | block (content : RegContent) (target : BlockLoc)
  | record (record : IntervalRecord) (slot : Nat)
  | config (content : ConfigContent) (generation : Nat)
  | read (verdict : ReadVerdict) (second : Bool)
  | patrol (unit : PatrolPos) (second : Bool)
  deriving DecidableEq, Repr

/-- A job with its attempt count: of the running job, the number of the attempt that is being made;
of a preempted job, the attempts made (R134, R135). -/
structure ActiveJob where
  job : Job
  attempt : Nat
  deriving DecidableEq, Repr

/-- The six counters of the retained store controller (R149). -/
structure StoreCounters where
  retries : Nat
  patrolSteps : Nat
  transients : Nat
  repairs : Nat
  recordErrors : Nat
  saveFailures : Nat
  deriving DecidableEq, Repr

/-- The jobs queued from a save block that are not yet verified; the RUNNING write that consumes it
waits for them (R147). -/
structure Consumption where
  blocks : List AccountId
  records : List Nat
  deriving DecidableEq, Repr

/-- The retained store controller (R131, R132). `newestSlot` is the slot of the newest record;
`patrolTimer` the time to the next patrol step; `history` the distances in steps of the last two
persistent mismatches. -/
structure Controller where
  saveQueue : Option SaveJob
  blockQueue : List RegContent
  recordQueue : List IntervalRecord
  configQueue : List ConfigJob
  readQueue : Option ReadJob
  patrolQueued : Bool
  running : Option ActiveJob
  preempted : Option ActiveJob
  map : StoreMap
  oldest : Nat
  newest : Nat
  newestSlot : Nat
  images : Vector RegContent 8
  patrolPos : PatrolPos
  patrolTimer : Nat
  history : List Nat
  alert : Bool
  saveFailed : Bool
  counters : StoreCounters
  consumption : Option Consumption
  halted : Bool
  deriving DecidableEq, Repr

/-! ## The configuration manager -/

/-- What a TABLE.PUT carries: a table and the part of it that the put replaces (R157, R206). -/
inductive TablePart where
  | links (l : LinkId) (e : LinkEntry)
  | points (p : PointId) (e : PointEntry)
  | breaker (b : BreakerId) (e : Option BreakerRef)
  | settle (s : Nat)
  | topology (t : MapId) (e : TopologyEntry)
  | composition (m : MapId) (a : AccountId) (terms : List Term)
  | bands (b : BandId) (e : Option Band)
  | contract (t : ContractTable)
  | health (t : HealthTable)
  | notice (t : NoticeTable)
  | patrol (period : Nat)
  deriving DecidableEq, Repr

/-- The content of an entry of the change queue (R157). -/
inductive Change where
  | table (part : TablePart)
  | preset (account : AccountId) (values : Vector Nat 25)
  | mode (target : DeviceMode)
  | erase
  deriving DecidableEq, Repr

/-- An entry of the change queue (R157). -/
structure ChangeEntry where
  number : Nat
  change : Change
  deriving DecidableEq, Repr

/-- Why a boundary walk stopped (R152, R159). -/
inductive StopReason where
  | inFlight
  | recordPlaces
  | supply
  deriving DecidableEq, Repr

/-- The configuration manager (R152). The SERVICE latch is with the latched straps. `walking` says that a
boundary walk is in progress and stands before the entry at the head of the queue (R159). -/
structure Manager where
  tables : Tables
  stored : Vector PointStored 16
  generation : Nat
  mode : DeviceMode
  locked : Bool
  queue : List ChangeEntry
  nextChange : Nat
  lastApplied : Option Nat
  lastDiscarded : Option Nat
  discards : Nat
  stop : Option (Nat × StopReason)
  walking : Bool
  deriving DecidableEq, Repr

/-! ## Condition unit, supply monitor and message link controller -/

/-- The sixteen conditions (R182). -/
inductive Condition where
  | fatal
  | linkChange
  | linkError
  | windowGap
  | pointFault
  | substitution
  | topologyUndefined
  | breakerUnknown
  | transfer
  | intervalClosed
  | storeAlert
  | storeRepair
  | registerFlag
  | changeRejected
  | timeInvalid
  | supply
  deriving DecidableEq, Repr

/-- The condition unit (R182). The masks and the discipline are the NOTICE table in force. -/
structure ConditionUnit where
  flags : Vector Bool 16
  sources : Vector Bool 16
  rises : Vector Nat 16
  /-- ALERT is driven low (R187). -/
  alert : Bool
  noticePending : Bool
  deriving DecidableEq, Repr

/-- The states of the supply monitor (R169 to R172). -/
inductive SupplyState where
  | normal
  | saving
  | saved
  deriving DecidableEq, Repr

/-- The kind of the last reset (R179). -/
inductive ResetKind where
  | powerOn
  | pin
  | soft
  deriving DecidableEq, Repr

/-- The save-block marker that a start found (R179). -/
inductive MarkerFound where
  | saved
  | clean
  | running
  | unusable
  deriving DecidableEq, Repr

/-- What a start made of the saved intervals (R179). -/
inductive SavedOutcome where
  | continued
  | closed
  | forcedClosed
  deriving DecidableEq, Repr

/-- The start record (R179). -/
structure StartRecord where
  kind : ResetKind
  marker : MarkerFound
  intervals : Option SavedOutcome
  savedGeneration : Nat
  blockGeneration : Nat
  deriving DecidableEq, Repr

/-- The supply monitor (R172, R173, R179). `lastSave` is the outcome of the last save, true when
VERIFIED, with its save time; `saveCalled` that a save was called since the start (R147). -/
structure SupplyMonitor where
  state : SupplyState
  deassertHeld : Bool
  lastSave : Option (Bool × TimeStamp)
  saveCalled : Bool
  start : StartRecord
  deriving DecidableEq, Repr

/-- A frame in the receive buffer: addressed or broadcast, with its kind, tag and payload (R192, R193). -/
structure MsgFrame where
  broadcast : Bool
  kind : Byte
  tag : Byte
  payload : List Byte
  deriving DecidableEq, Repr

/-- Why the request in service waits (R194). -/
inductive ServiceWait where
  | logRead
  | timeSet
  deriving DecidableEq, Repr

/-- The nine counters of the message link controller (R193). -/
structure MsgCounters where
  buffered : Nat
  framing : Nat
  stray : Nat
  lengthErrors : Nat
  crcErrors : Nat
  gaps : Nat
  overflows : Nat
  broadcastsIgnored : Nat
  otherAddress : Nat
  deriving DecidableEq, Repr

/-- The message link controller (R191, R193). `received` is what the receiver has of the frame in
reception, the bytes after the start byte, `none` in HUNTING; `sinceByte` the ms since its last byte;
`inService` the wait of the request in service, the oldest buffered frame; `resetTaken` that a RESET was
taken (R201); `tx` the frames handed to the transmitter, the first in transmission, and `txSent` how much of the first has been sent, in
hundredths of a byte. -/
structure MsgController where
  received : Option (List Byte)
  sinceByte : Nat
  buffer : List MsgFrame
  inService : Option ServiceWait
  resetTaken : Bool
  tx : List (List Byte)
  txSent : Nat
  counters : MsgCounters
  deriving DecidableEq, Repr

/-- The timekeeper and the oscillator-stop detector beside it (R168). -/
structure Timekeeper where
  seconds : Nat
  millis : Nat
  valid : Bool
  stopDetected : Bool
  deriving DecidableEq, Repr

/-! ## The state -/

/-- All of the part. `powered` is the main supply, `pfw` the PFW pin (true: asserted), `straps` the
latched straps, `timeBase` the internal millisecond time base of R104, `pending` the commands that wait,
first in, first out. -/
structure State where
  powered : Bool
  pfw : Bool
  straps : Straps
  tk : Timekeeper
  timeBase : Nat
  cu : ConditionUnit
  links : Vector Link 4
  wa : Assembler
  points : Vector Point 16
  tr : Resolver
  pau : Vector (Option Contribution) 8
  ia : Accountant
  store : Store
  rsc : Controller
  cm : Manager
  sm : SupplyMonitor
  mlc : MsgController
  pending : List Instr
  deriving DecidableEq, Repr

/-- The reasons for which a command stops with a fault. There are none: every command of the part has
an effect in every state (R195 answers what a request may not do, R148 says what HALTED leaves). -/
inductive Fault where
  deriving DecidableEq, Repr

/-- The reasons for which a command is refused by the model. -/
inductive Refusal where
  /-- Raised by an arm of `exec` that has no meaning yet; safe. No arm raises it. -/
  | notModelled (mnemonic : String)
  deriving DecidableEq, Repr

/-! ## Table defaults -/

/-- Slots 0 to 2 VOLTAGE and 3 to 11 CURRENT (R111). -/
def defaultKinds : Vector SlotKind 12 :=
  Vector.ofFn fun i => if i.val < 3 then .voltage else .current

/-- The default entry of the LINKS table (R111). -/
def LinkEntry.default : LinkEntry :=
  { enabled := true, highest := .full, fixedAllowed := false, fixedCount := 6, fixedKinds := defaultKinds }

/-- The default entry of the POINTS table (R47). -/
def PointEntry.default : PointEntry :=
  { phases := Vector.replicate 3 { voltage := none, current := none, invert := false },
    un := 63509, deadPct := 30, livePct := 60, importOnly := false, currentFloor := 1000,
    apparentFloor := 1000000000, substitute := .none, autoSub := false }

/-- The default stored values of a point (R47). -/
def PointStored.default : PointStored := { substituted := false, shadowResult := none }

/-- The default entry `t` of the TOPOLOGY table (R76). -/
def TopologyEntry.default (t : MapId) : TopologyEntry :=
  { valid := t.val == 0, required := Vector.replicate 8 none }

/-- The default CONTRACT table (R154). -/
def ContractTable.default : ContractTable :=
  { minutes := 15, ratio := 410, holdLimit := 5, allowance := 100, shadowPeriod := 50 }

/-- The default HEALTH table (R155). -/
def HealthTable.default : HealthTable := { limit := 64, fault := 48, clear := 8 }

/-- The default NOTICE table (R155, R182). -/
def NoticeTable.default : NoticeTable :=
  { discipline := .follow, masked := Vector.replicate 16 false }

/-- All ten tables at their defaults (R47, R71, R76, R82, R111, R153 to R155). -/
def Tables.default : Tables :=
  { links := Vector.replicate 4 LinkEntry.default
    points := Vector.replicate 16 PointEntry.default
    breakers := { entries := Vector.replicate 8 none, settle := 20 }
    topology := Vector.ofFn TopologyEntry.default
    composition := Vector.replicate 4 (Vector.replicate 8 [])
    bands := Vector.replicate 8 none
    contract := ContractTable.default
    health := HealthTable.default
    notice := NoticeTable.default
    patrol := 200 }

/-! ## Blocks at reset -/

/-- A register at 0 with no mark. -/
def Register.zero : Register := { value := 0, saturated := false, restored := false, invalid := false }

/-- A register at 0 marked INVALID (R147). -/
def Register.invalidZero : Register :=
  { value := 0, saturated := false, restored := false, invalid := true }

/-- All ten counts 0 (R32). -/
def WindowCounts.zero : WindowCounts :=
  { total := 0, good := 0, held := 0, missing := 0, transfer := 0, offFreq := 0, partialOrders := 0,
    suspect := 0, undefinedTopology := 0, substituted := 0 }

/-- The zero vector (R9). -/
def PointVector.zero : PointVector := { p1 := 0, q1 := 0, qh := 0, pb := Vector.replicate 8 0 }

/-- A link that has just been reset, before the links are enabled (R112). -/
def Link.reset : Link :=
  { state := .disabled, offerRun := 0, offerRunContent := none, refused := none, lastOffer := none,
    candidate := none, acceptRun := 0, windowRun := 0, windowRunSeq := none, resolved := none,
    offset := none, windowSinceUp := false, lost := [], errorRun := 0, silence := none,
    breakHold := none, sendTimer := none, waiting := [], sending := none, ignoring := none,
    counters := { framesGood := 0, crcErrors := 0, repeatsSent := 0, late := 0, duplicates := 0,
                  jabberCuts := 0, restarts := 0 } }

/-- The window assembler after reset (R89). -/
def Assembler.reset : Assembler :=
  { front := 0, buffers := Vector.replicate 4 [], records := [], processing := none }

/-- A point after reset, its mode from the stored mode (R49). -/
def Point.reset (stored : PointStored) : Point :=
  { orders := 50, live := false, lastStatus := none, missReason := none, hold := 0, lastGood := none,
    health := 0, fault := false, failed := { t1 := false, t2 := false, t3 := false, t4 := false },
    mode := if stored.substituted then .substituted else .direct, shadow := none }

/-- A breaker after reset (R73). -/
def Breaker.reset : Breaker := { state := .unknown, settle := 0, lastReport := none }

/-- The topology resolver after reset (R73, R80). -/
def Resolver.reset : Resolver :=
  { breakers := Vector.replicate 8 Breaker.reset, map := 0, matched := false, transfer := false }

/-- The condition unit when all its flags have just been cleared (R182). -/
def ConditionUnit.reset : ConditionUnit :=
  { flags := Vector.replicate 16 false, sources := Vector.replicate 16 false,
    rises := Vector.replicate 16 0, alert := false, noticePending := false }

/-- The message link controller after reset (R193). -/
def MsgController.reset : MsgController :=
  { received := none, sinceByte := 0, buffer := [], inService := none, resetTaken := false, tx := [],
    txSent := 0,
    counters := { buffered := 0, framing := 0, stray := 0, lengthErrors := 0, crcErrors := 0, gaps := 0,
                  overflows := 0, broadcastsIgnored := 0, otherAddress := 0 } }

/-- The six store counters at 0 (R149). -/
def StoreCounters.zero : StoreCounters :=
  { retries := 0, patrolSteps := 0, transients := 0, repairs := 0, recordErrors := 0, saveFailures := 0 }

/-- An account with no open interval, the given registers and residues, and no close in flight. -/
def Account.idle (regs : Vector Register 25) (residues : Vector Nat 24) : Account :=
  { interval := none, regs := regs, residues := residues, gapMark := false, inFlight := false,
    blockOwed := false }

/-- The block content of account `a` when neither its block nor a record of it is intact (R147). -/
def RegContent.lost (a : AccountId) : RegContent :=
  { account := a, regs := Vector.replicate 25 Register.invalidZero, residues := Vector.replicate 24 0 }

/-- A store in which no unit has ever been written (R130). -/
def Store.blank : Store :=
  { registers := Vector.replicate 8 none, spares := Vector.replicate 4 none,
    config := Vector.replicate 10 none, slots := [], save := none }

/-- The store map of a store whose PATROL block is not usable and that holds no record (R146). -/
def StoreMap.recovered : StoreMap :=
  { badSlots := [], spares := Vector.replicate 4 .free, logFloor := 1, writePosition := 0, nextSeq := 1 }

/-- The default content of the configuration block of each table (R130, R146, R152). -/
def ConfigContent.default (map : StoreMap) : TableId → ConfigContent
  | .links => .links Tables.default.links
  | .points => .points Tables.default.points (Vector.replicate 16 PointStored.default)
  | .breakers => .breakers Tables.default.breakers
  | .topology => .topology Tables.default.topology
  | .composition => .composition Tables.default.composition
  | .bands => .bands Tables.default.bands
  | .contract => .contract Tables.default.contract .commissioning false
  | .health => .health Tables.default.health
  | .notice => .notice Tables.default.notice
  | .patrol => .patrol Tables.default.patrol map

/-- The ten tables in the order of R130. -/
def TableId.all : List TableId :=
  [.links, .points, .breakers, .topology, .composition, .bands, .contract, .health, .notice, .patrol]

/-- The straps of the reset state: every strap pin low (assumption 2). -/
def Straps.low : Straps := { address := 0, rate := .baud115200, freq := .hz50, service := false }

/-- The link of an enabled default LINKS entry when start-up has enabled it: OFFERING, its first OFFER
due (R112, R113). -/
def Link.started (freq : FreqClass) : Link :=
  { Link.reset with
    state := .offering
    sendTimer := some Config.sendPeriod
    waiting := [.offer { freq := freq, profiles := { basic := true, extended := true, full := true },
                         kinds := [] }] }

/-- The condition unit after the first start: the ten default tables, the eight accounts and no usable
save block give STORE-REPAIR eighteen times, REGISTER-FLAG and TIME-INVALID once each (R151, R174, R182). -/
def ConditionUnit.firstStart : ConditionUnit :=
  { flags := Vector.ofFn fun i => i.val == 11 || i.val == 12 || i.val == 14
    sources := Vector.ofFn fun i => i.val == 12 || i.val == 14
    rises := Vector.ofFn fun i => if i.val == 11 then 18 else if i.val == 12 || i.val == 14 then 1 else 0
    alert := true
    noticePending := true }

/-- The part right after its first power-on reset: main supply up, PFW not asserted, the straps low,
the timekeeper at 0 and INVALID, and a store in which nothing has been written, so that every table has
its defaults, every account is NONE with INVALID registers at 0 and carries a gap mark, the device is in
COMMISSIONING, the links are OFFERING and the writes of R146 and R147 stand in the job queue
(R112, R146, R147, R152, R168, R174 to R180; assumption 2). -/
def State.reset : State :=
  { powered := true
    pfw := false
    straps := Straps.low
    tk := { seconds := 0, millis := 0, valid := false, stopDetected := false }
    timeBase := 0
    cu := ConditionUnit.firstStart
    links := Vector.replicate 4 (Link.started .hz50)
    wa := Assembler.reset
    points := Vector.replicate 16 (Point.reset PointStored.default)
    tr := Resolver.reset
    pau := Vector.replicate 8 none
    ia :=
      { accounts := Vector.replicate 8
          { Account.idle (Vector.replicate 25 Register.invalidZero) (Vector.replicate 24 0) with
            gapMark := true }
        nextBoundary := none, pendingBoundary := none, nextSeq := 1, waiting := [] }
    store := Store.blank
    rsc :=
      { saveQueue := some .running
        blockQueue := List.ofFn RegContent.lost
        recordQueue := []
        configQueue := TableId.all.map fun t => ⟨ConfigContent.default StoreMap.recovered t, 0⟩
        readQueue := none
        patrolQueued := false
        running := none
        preempted := none
        map := StoreMap.recovered
        oldest := 1, newest := 0, newestSlot := 0
        images := Vector.ofFn RegContent.lost
        patrolPos := .account 0
        patrolTimer := 200
        history := [], alert := false, saveFailed := false
        counters := StoreCounters.zero
        consumption := none
        halted := false }
    cm :=
      { tables := Tables.default
        stored := Vector.replicate 16 PointStored.default
        generation := 0, mode := .commissioning, locked := false
        queue := [], nextChange := 1, lastApplied := none, lastDiscarded := none, discards := 0
        stop := none, walking := false }
    sm :=
      { state := .normal, deassertHeld := false, lastSave := none, saveCalled := false
        start := { kind := .powerOn, marker := .unusable, intervals := none, savedGeneration := 0,
                   blockGeneration := 0 } }
    mlc := MsgController.reset
    pending := [] }

end Sys2Proof.Machine
end

