-- ==== Sys2Proof/Machine/Flags.lean ====
section
/-! DEFINITION. The condition unit: rises and falls of the sixteen sources, latching and clearing under
the two disciplines, the ALERT line and the pending notice (chapter 10). -/

namespace Sys2Proof.Machine

/-- The number of a condition (R182). -/
def Condition.idx : Condition → Fin 16
  | .fatal => 0
  | .linkChange => 1
  | .linkError => 2
  | .windowGap => 3
  | .pointFault => 4
  | .substitution => 5
  | .topologyUndefined => 6
  | .breakerUnknown => 7
  | .transfer => 8
  | .intervalClosed => 9
  | .storeAlert => 10
  | .storeRepair => 11
  | .registerFlag => 12
  | .changeRejected => 13
  | .timeInvalid => 14
  | .supply => 15

/-- The numbers of the pulse conditions; the others are level conditions (R182). -/
def isPulse (i : Fin 16) : Bool := [1, 2, 3, 8, 9, 11, 13].contains i.val

/-- ALERT is driven low while some flag is latched and unmasked (R187). -/
def ConditionUnit.alertNow (masked : Vector Bool 16) (cu : ConditionUnit) : Bool :=
  (List.finRange 16).any fun i => cu.flags[i] && !masked[i]

/-- The ALERT output evaluated again, as every change of a flag or mask has it (R187). -/
def ConditionUnit.evaluate (masked : Vector Bool 16) (cu : ConditionUnit) : ConditionUnit :=
  { cu with alert := cu.alertNow masked }

/-- A rise of condition `c`: the flag latches or its rise count rises, up to 255 (R183), and an unmasked
flag that goes from clear to set makes a notice pending (R188). -/
def ConditionUnit.rise (masked : Vector Bool 16) (c : Condition) (cu : ConditionUnit) : ConditionUnit :=
  if cu.flags[c.idx] then
    { cu with rises := cu.rises.set c.idx (min 255 (cu.rises[c.idx] + 1)) }
  else
    ({ cu with
        flags := cu.flags.set c.idx true
        rises := cu.rises.set c.idx 1
        noticePending := cu.noticePending || !masked[c.idx] }).evaluate masked

/-- A fall of level condition `c`: under FOLLOW it clears the flag (R184), under HOLD it changes the
source state alone (R185). -/
def ConditionUnit.fall (t : NoticeTable) (c : Condition) (cu : ConditionUnit) : ConditionUnit :=
  match t.discipline with
  | .follow =>
    ({ cu with
        sources := cu.sources.set c.idx false
        flags := cu.flags.set c.idx false
        rises := cu.rises.set c.idx 0 }).evaluate t.masked
  | .hold => { cu with sources := cu.sources.set c.idx false }

/-- The owner of a level condition gives its source as `level` (R183). -/
def ConditionUnit.give (t : NoticeTable) (c : Condition) (level : Bool) (cu : ConditionUnit) :
    ConditionUnit :=
  if level == cu.sources[c.idx] then cu
  else if level then
    ConditionUnit.rise t.masked c { cu with sources := cu.sources.set c.idx true }
  else cu.fall t c

/-- The set flags `i` with `drop i` are cleared and their rise counts become 0; a flag already clear is
left as it is (R184, R185). -/
def ConditionUnit.clearWhere (masked : Vector Bool 16) (drop : Fin 16 → Bool) (cu : ConditionUnit) :
    ConditionUnit :=
  ({ cu with
      flags := Vector.ofFn fun i => cu.flags[i] && !drop i
      rises := Vector.ofFn fun i => if cu.flags[i] && drop i then 0 else cu.rises[i] }).evaluate masked

/-- Forming the content of a STATUS reply: under FOLLOW every flag shown set is cleared, but FATAL
while its source is true (R184), and a pending notice is withdrawn (R188). -/
def ConditionUnit.statusFormed (t : NoticeTable) (cu : ConditionUnit) : ConditionUnit :=
  let cu := { cu with noticePending := false }
  match t.discipline with
  | .follow => cu.clearWhere t.masked fun i => !(i.val == 0 && cu.sources[i])
  | .hold => cu

/-- A CLEAR taken under HOLD: of the conditions named, pulse flags and level flags whose source state is
false are cleared (R185). -/
def ConditionUnit.clearNamed (masked : Vector Bool 16) (named : Nat) (cu : ConditionUnit) :
    ConditionUnit :=
  cu.clearWhere masked fun i => named.testBit i.val && (isPulse i || !cu.sources[i])

/-- The effects of an applied NOTICE change: from HOLD to FOLLOW every level flag whose source state is
false is cleared; ALERT is evaluated again in every case; no notice is built (R186). -/
def ConditionUnit.noticeChanged (old new : NoticeTable) (cu : ConditionUnit) : ConditionUnit :=
  if old.discipline = .hold ∧ new.discipline = .follow then
    cu.clearWhere new.masked fun i => !isPulse i && !cu.sources[i]
  else cu.evaluate new.masked

/-! ## The sources that the blocks drive -/

/-- One pulse of a pulse condition (R183). -/
def State.pulse (c : Condition) (s : State) : State :=
  { s with cu := s.cu.rise s.cm.tables.notice.masked c }

/-- `n` pulses of a pulse condition. -/
def State.pulses (c : Condition) : Nat → State → State
  | 0, s => s
  | n + 1, s => State.pulses c n (s.pulse c)

/-- A level source as its owner gives it (R183). -/
def State.level (c : Condition) (v : Bool) (s : State) : State :=
  { s with cu := s.cu.give s.cm.tables.notice c v }

/-- Whether a register carries any mark (R25). -/
def Register.marked (r : Register) : Bool := r.saturated || r.restored || r.invalid

/-- The source of REGISTER-FLAG (R25). -/
def Accountant.marked (ia : Accountant) : Bool :=
  ia.accounts.toList.any fun a => a.regs.toList.any Register.marked

/-- The source of BREAKER-UNKNOWN: some used breaker is UNKNOWN (R85). -/
def breakerUnknown (t : BreakersTable) (tr : Resolver) : Bool :=
  (List.finRange 8).any fun b => t.entries[b].isSome && tr.breakers[b].state == .unknown

/-- REGISTER-FLAG given anew by the interval accountant (R25). -/
def State.giveRegisterFlag (s : State) : State := s.level .registerFlag s.ia.marked

/-- POINT-FAULT and SUBSTITUTION given anew by the point stage (R68). -/
def State.givePointLevels (s : State) : State :=
  (s.level .pointFault (s.points.toList.any fun p => p.fault)).level .substitution
    (s.points.toList.any fun p => p.mode != .direct)

/-- BREAKER-UNKNOWN given anew by the topology resolver (R85). -/
def State.giveBreakerUnknown (s : State) : State :=
  s.level .breakerUnknown (breakerUnknown s.cm.tables.breakers s.tr)

/-- TIME-INVALID given anew by the timekeeper (R168). -/
def State.giveTimeInvalid (s : State) : State := s.level .timeInvalid (!s.tk.valid)

/-- SUPPLY given anew by the supply monitor (R173). -/
def State.giveSupply (s : State) : State := s.level .supply (s.sm.state != .normal)

/-- STORE-ALERT given anew by the store controller (R145, R151). -/
def State.giveStoreAlert (s : State) : State := s.level .storeAlert s.rsc.alert

/-- FATAL given anew by the store controller (R148, R151). -/
def State.giveFatal (s : State) : State := s.level .fatal s.rsc.halted

end Sys2Proof.Machine
end

