-- ==== Sys2Proof/Machine/Ops.lean ====
section
/-! DEFINITION. The named updates of the state, and time: how the timekeeper, the internal millisecond
time base and every timer move when time passes (R104, R110, R168). -/

namespace Sys2Proof

/-- Hundredths of a byte that the message link sends in one ms: 10 bits a byte (R190). -/
def Rate.speed : Rate → Nat
  | .baud115200 => 1152
  | .baud921600 => 9216

end Sys2Proof

namespace Sys2Proof.Machine

/-! ## Named updates -/

/-- The state with link `l` changed. -/
def State.updLink (l : LinkId) (f : Link → Link) (s : State) : State :=
  { s with links := s.links.set l (f s.links[l]) }

/-- The state with the window assembler changed. -/
def State.updWa (f : Assembler → Assembler) (s : State) : State := { s with wa := f s.wa }

/-- The state with the interval accountant changed. -/
def State.updIa (f : Accountant → Accountant) (s : State) : State := { s with ia := f s.ia }

/-- The state with account `a` changed. -/
def State.updAccount (a : AccountId) (f : Account → Account) (s : State) : State :=
  s.updIa fun ia => { ia with accounts := ia.accounts.set a (f ia.accounts[a]) }

/-- The state with the retained store changed. -/
def State.updStore (f : Store → Store) (s : State) : State := { s with store := f s.store }

/-- The state with the store controller changed. -/
def State.updRsc (f : Controller → Controller) (s : State) : State := { s with rsc := f s.rsc }

/-- The state with the configuration manager changed. -/
def State.updCm (f : Manager → Manager) (s : State) : State := { s with cm := f s.cm }

/-- The state with the supply monitor changed. -/
def State.updSm (f : SupplyMonitor → SupplyMonitor) (s : State) : State := { s with sm := f s.sm }

/-- The state with the message link controller changed. -/
def State.updMlc (f : MsgController → MsgController) (s : State) : State := { s with mlc := f s.mlc }

/-- A counter of link `l` changed. -/
def State.updCounters (l : LinkId) (f : LinkCounters → LinkCounters) (s : State) : State :=
  s.updLink l fun k => { k with counters := f k.counters }

/-- A counter of the store controller changed. -/
def State.updStoreCounters (f : StoreCounters → StoreCounters) (s : State) : State :=
  s.updRsc fun r => { r with counters := f r.counters }

/-- A counter of the message link controller changed. -/
def State.updMsgCounters (f : MsgCounters → MsgCounters) (s : State) : State :=
  s.updMlc fun m => { m with counters := f m.counters }

/-! ## Time -/

/-- The timekeeper `dt` ms later: milliseconds carry into seconds at 999, and a seconds count that passes
4,294,967,295 becomes 0 with validity INVALID (R168). -/
def Timekeeper.advance (dt : Nat) (t : Timekeeper) : Timekeeper :=
  let total := t.seconds * 1000 + t.millis + dt
  { t with
    seconds := total / 1000 % (u32Max + 1)
    millis := total % 1000
    valid := t.valid && decide (total / 1000 ≤ u32Max) }

/-- The count of the timekeeper in milliseconds. -/
def Timekeeper.ms (t : Timekeeper) : Nat := t.seconds * 1000 + t.millis

/-- The timers of a link `dt` ms later; a timer that reaches 0 has expired and stays at 0 until its expiry
is taken. A frame on the transmitter has left within the millisecond (R110; assumption 3). -/
def Link.advance (dt : Nat) (k : Link) : Link :=
  { k with
    silence := k.silence.map (· - dt)
    breakHold := k.breakHold.map (· - dt)
    sendTimer := k.sendTimer.map (· - dt)
    sending := if dt = 0 then k.sending else none
    ignoring := k.ignoring.map (· - dt) }

/-- The frames still to be sent, and what has been sent of the first, when `sent` hundredths of a byte
have been sent from the first on. -/
def drainTx : List (List Byte) → Nat → List (List Byte) × Nat
  | [], _ => ([], 0)
  | f :: rest, sent =>
    if sent < 100 * f.length then (f :: rest, sent) else drainTx rest (sent - 100 * f.length)

/-- The message link controller `dt` ms later: the transmitter sends on, and the time since the last
received byte grows (R190, R191). -/
def MsgController.advance (rate : Rate) (dt : Nat) (m : MsgController) : MsgController :=
  let d := drainTx m.tx (m.txSent + dt * rate.speed)
  { m with tx := d.1, txSent := d.2, sinceByte := m.sinceByte + dt }

/-- The ms until the first frames of the message-link transmitter, given as a list, have been sent (R190). -/
def State.sendTime (frames : List (List Byte)) (s : State) : Nat :=
  let left := 100 * (frames.map List.length).sum - s.mlc.txSent
  (left + s.straps.rate.speed - 1) / s.straps.rate.speed

/-- The ms until everything handed to the message-link transmitter has been sent. -/
def State.txTime (s : State) : Nat := s.sendTime s.mlc.tx

/-- `dt` milliseconds pass: the timekeeper counts on either supply; on the main supply the time base and
every timer move with it. A seconds count that wraps makes time INVALID, and the next boundary then has
no value (R31, R104, R168; assumption 3). -/
def State.advance (dt : Nat) (s : State) : State :=
  let tk := s.tk.advance dt
  if s.powered then
    let s' : State :=
      { s with
        tk := tk
        timeBase := s.timeBase + dt
        links := Vector.ofFn fun l => (s.links[l]).advance dt
        rsc := { s.rsc with patrolTimer := s.rsc.patrolTimer - dt }
        mlc := s.mlc.advance s.straps.rate dt }
    if s.tk.valid && !tk.valid then
      (s'.updIa fun ia => { ia with nextBoundary := none }).giveTimeInvalid
    else s'
  else { s with tk := tk }

end Sys2Proof.Machine
end

