-- ==== Sys2Proof/Machine/Formats.lean ====
section
/-! DEFINITION. The byte layouts of chapter 12: message-link frames, acquisition-link frames and the
interval record. -/

namespace Sys2Proof

open Machine

/-! ## Codes -/

/-- The code of a frequency class (R208). -/
def FreqClass.code : FreqClass → Nat
  | .hz50 => 0
  | .hz60 => 1

/-- The code of a profile (R208). -/
def Profile.code : Profile → Nat
  | .basic => 0
  | .extended => 1
  | .full => 2

/-- A profile set as bits (R208). -/
def ProfileSet.bits (p : ProfileSet) : Nat := bitsOf [p.basic, p.extended, p.full]

/-- Slot kinds as bits: bit c is set for CURRENT (R208). -/
def kindBits (kinds : List SlotKind) : Nat := bitsOf (kinds.map (· == .current))

/-! ## Acquisition-link frames -/

/-- The payload of an OFFER (R208). -/
def OfferContent.payload (c : OfferContent) : List Byte :=
  [byteOf c.freq.code, byteOf c.profiles.bits, byteOf c.kinds.length] ++ leBytes 2 (kindBits c.kinds)

/-- The payload of an ACCEPT (R208). -/
def AcceptContent.payload (c : AcceptContent) : List Byte :=
  [byteOf c.freq.code, byteOf c.profile.code, byteOf c.kinds.length] ++ leBytes 2 (kindBits c.kinds)

/-- One phasor block (R208). -/
def PhasorBlock.bytes (b : PhasorBlock) : List Byte :=
  byteOf b.exponent.toNat :: (leBytes 2 b.re.toNat ++ leBytes 2 b.im.toNat)

/-- An acquisition-link frame: kind, payload length, payload and CRC-32 (R107, R208). -/
def linkFrame (kind : Nat) (payload : List Byte) : List Byte :=
  let body := byteOf kind :: (leBytes 2 payload.length ++ payload)
  body ++ crc32Bytes body

/-- The covered part of a WINDOW header: the kind byte, the length field and payload offsets 0 to 9
(R108, R208). -/
def WindowFrame.header (f : WindowFrame) : List Byte :=
  leBytes 2 f.seq.toNat ++ leBytes 4 f.duration.toNat ++
    [byteOf f.orders, byteOf f.channels] ++ leBytes 2 f.inputs.toNat

/-- The payload of a WINDOW frame (R208). -/
def WindowFrame.payload (f : WindowFrame) : List Byte :=
  let length := 12 + 5 * f.blocks.length
  f.header ++ crc16Bytes (byteOf 4 :: (leBytes 2 length ++ f.header)) ++ f.blocks.flatMap PhasorBlock.bytes

/-- A WINDOW frame as the unit sends it (R208). -/
def WindowFrame.bytes (f : WindowFrame) : List Byte := linkFrame 4 f.payload

end Sys2Proof

namespace Sys2Proof.Machine

/-- A frame of the part as it is sent; `front` is W, from which a START takes its base W + 2 at that
instant (R116, R208, R209). -/
def LinkTx.bytes (front : Seq) : LinkTx → List Byte
  | .offer c => linkFrame 1 c.payload
  | .accept c => linkFrame 2 c.payload
  | .start => linkFrame 3 (leBytes 2 (front + 2).toNat)
  | .again seq => linkFrame 5 (leBytes 2 seq.toNat)

/-! ## The interval record -/

/-- The code of an end cause (R210). -/
def EndCause.code : EndCause → Nat
  | .boundary => 1
  | .timeStep => 2
  | .config => 3
  | .mode => 4
  | .preset => 5
  | .reset => 6
  | .outage => 7

/-- The ten window counts in the order of R210. -/
def WindowCounts.list (c : WindowCounts) : List Nat :=
  [c.total, c.good, c.held, c.missing, c.transfer, c.offFreq, c.partialOrders, c.suspect,
    c.undefinedTopology, c.substituted]

/-- Offsets 0 to 456 of a record image (R210). -/
def IntervalRecord.fields (r : IntervalRecord) : List Byte :=
  leBytes 4 r.seq ++ leBytes 4 r.startTime ++ leBytes 4 r.endTime ++
    [byteOf r.account.val, byteOf r.minutes, byteOf r.cause.code,
      byteOf (bitsOf [r.timeInvalid, r.outage, r.gapBefore, r.saturated, r.restored, r.invalid]),
      byteOf r.maps.toNat] ++
    r.counts.list.flatMap (leBytes 4) ++ r.partials.toList.flatMap (leBytes 8) ++
    r.snapshot.toList.flatMap (leBytes 8)

/-- The record image of 461 bytes, its CRC-32 at offset 457 (R210, R211). -/
def IntervalRecord.image (r : IntervalRecord) : List Byte := r.fields ++ crc32Bytes r.fields

/-! ## Message-link frames -/

/-- What the CRC-16 of a message-link frame covers: address, kind, tag, length and payload (R191, R204). -/
def msgBody (address kind tag : Byte) (payload : List Byte) : List Byte :=
  [address, kind, tag] ++ leBytes 2 payload.length ++ payload

/-- A message-link frame (R204). -/
def msgBytes (address kind tag : Byte) (payload : List Byte) : List Byte :=
  let body := msgBody address kind tag payload
  0xA5 :: (body ++ crc16Bytes body)

/-- The reasons of a REFUSED reply (R195). -/
inductive Reason where
  | malformed
  | unknown
  | range
  | reference
  | halted
  | locked
  | state
  | queueFull
  | notFound
  | gone
  | corrupt
  deriving DecidableEq, Repr

/-- The reason codes, 1 to 11 in the order of R195's table (R205). -/
def Reason.code : Reason → Nat
  | .malformed => 1
  | .unknown => 2
  | .range => 3
  | .reference => 4
  | .halted => 5
  | .locked => 6
  | .state => 7
  | .queueFull => 8
  | .notFound => 9
  | .gone => 10
  | .corrupt => 11

/-- The kind byte of an ACK (R205). -/
def kindAck : Byte := 0x80

/-- The kind byte of a REFUSED (R205). -/
def kindRefused : Byte := 0x81

/-- The kind byte of a NOTICE (R205). -/
def kindNotice : Byte := 0x82

/-- Latched flags, source states and rise counts as NOTICE and STATUS carry them; the source bits of
the pulse conditions read 0 (R205). -/
def ConditionUnit.flagBytes (cu : ConditionUnit) : List Byte := leBytes 2 (bitsOf cu.flags.toList)

/-- See `ConditionUnit.flagBytes`. -/
def ConditionUnit.sourceBytes (cu : ConditionUnit) : List Byte :=
  leBytes 2 (bitsOf ((List.finRange 16).map fun i => cu.sources[i] && !isPulse i))

/-- See `ConditionUnit.flagBytes`. -/
def ConditionUnit.riseBytes (cu : ConditionUnit) : List Byte := cu.rises.toList.map byteOf

/-- The code of the discipline (R205, R206). -/
def Discipline.code : Discipline → Nat
  | .follow => 0
  | .hold => 1

/-- The content of a NOTICE, formed when its transmission begins (R188, R205). -/
def State.noticePayload (s : State) : List Byte :=
  s.cu.flagBytes ++ s.cu.sourceBytes ++ s.cu.riseBytes ++
    byteOf s.cm.tables.notice.discipline.code :: leBytes 4 s.cm.generation

/-! ## Replies -/

/-- A frame handed to the message-link transmitter; frames leave in the order in which they are handed
(R194). -/
def State.transmit (frame : List Byte) (s : State) : State :=
  s.updMlc fun m => { m with tx := m.tx ++ [frame] }

/-- The end of the service of the oldest buffered frame: its place is freed, and an addressed frame gets
a reply with the latched address and its own tag; a broadcast gets none (R193, R194). -/
def State.finish (kind : Byte) (payload : List Byte) (s : State) : State :=
  match s.mlc.buffer with
  | [] => s
  | f :: rest =>
    let s := s.updMlc fun m => { m with buffer := rest, inService := none }
    if f.broadcast then s else s.transmit (msgBytes (byteOf s.straps.address.val) kind f.tag payload)

/-- The request in service is answered ACK (R195). -/
def State.ack (payload : List Byte) (s : State) : State := s.finish kindAck payload

/-- The request in service is answered REFUSED with a reason and its own kind (R195, R205). -/
def State.refuse (reason : Reason) (s : State) : State :=
  match s.mlc.buffer with
  | [] => s
  | f :: _ => s.finish kindRefused [byteOf reason.code, f.kind]

end Sys2Proof.Machine
end

