-- ==== Sys2Proof/Machine/StoreQueue.lean ====
section
/-! DEFINITION. What the other blocks hand to the retained store controller (R132, R141), the store map,
the places of the record class (R133) and the entry into HALTED (R148). -/

namespace Sys2Proof

/-- The number of a table among the ten, from 0, in the order of R130. -/
def TableId.idx : TableId → Fin 10
  | .links => 0
  | .points => 1
  | .breakers => 2
  | .topology => 3
  | .composition => 4
  | .bands => 5
  | .contract => 6
  | .health => 7
  | .notice => 8
  | .patrol => 9

end Sys2Proof

namespace Sys2Proof.Machine

/-- The table that a content belongs to. -/
def ConfigContent.table : ConfigContent → TableId
  | .links _ => .links
  | .points _ _ => .points
  | .breakers _ => .breakers
  | .topology _ => .topology
  | .composition _ => .composition
  | .bands _ => .bands
  | .contract _ _ _ => .contract
  | .health _ => .health
  | .notice _ => .notice
  | .patrol _ _ => .patrol

/-- The content that the configuration manager hands for the block of table `t`: the whole working copy,
for POINTS with the stored modes and shadow results, for CONTRACT with the stored mode and lock, for PATROL
with the store map (R161). -/
def State.contentOf (s : State) : TableId → ConfigContent
  | .links => .links s.cm.tables.links
  | .points => .points s.cm.tables.points s.cm.stored
  | .breakers => .breakers s.cm.tables.breakers
  | .topology => .topology s.cm.tables.topology
  | .composition => .composition s.cm.tables.composition
  | .bands => .bands s.cm.tables.bands
  | .contract => .contract s.cm.tables.contract s.cm.mode s.cm.locked
  | .health => .health s.cm.tables.health
  | .notice => .notice s.cm.tables.notice
  | .patrol => .patrol s.cm.tables.patrol s.rsc.map

/-- A configuration job joins class 4: a queued job for the same table takes the newer content in its
place (R132). -/
def joinConfig (job : ConfigJob) : List ConfigJob → List ConfigJob
  | [] => [job]
  | j :: rest => if j.content.table = job.content.table then job :: rest else j :: joinConfig job rest

/-- A register-block job joins class 2: a queued job for the same account takes the newer content in its
place (R43, R132). -/
def joinBlock (content : RegContent) : List RegContent → List RegContent
  | [] => [content]
  | c :: rest => if c.account = content.account then content :: rest else c :: joinBlock content rest

/-- The configuration manager hands a write of table `t`'s block, carrying the generation as it stands
(R152, R161). -/
def State.handConfig (t : TableId) (s : State) : State :=
  s.updRsc fun r =>
    { r with configQueue := joinConfig ⟨s.contentOf t, s.cm.generation⟩ r.configQueue }

/-- A register-block write joins the queue. -/
def State.queueBlock (content : RegContent) (s : State) : State :=
  s.updRsc fun r => { r with blockQueue := joinBlock content r.blockQueue }

/-- The interval accountant hands account `a`'s register-block content as it stands: it becomes the block
image, and the account has a close in flight (R41, R42, R44, R45, R139). -/
def State.handBlock (a : AccountId) (s : State) : State :=
  let content : RegContent := ⟨a, s.ia.accounts[a].regs, s.ia.accounts[a].residues⟩
  let s := (s.queueBlock content).updRsc fun r => { r with images := r.images.set a content }
  s.updAccount a fun acc => { acc with inFlight := true, blockOwed := true }

/-- A record write joins class 3; each record is its own job (R41, R132). -/
def State.handRecord (record : IntervalRecord) (s : State) : State :=
  s.updRsc fun r => { r with recordQueue := r.recordQueue ++ [record] }

/-- A save-block write joins class 1 and replaces a queued one (R132, R140). -/
def State.queueSave (job : SaveJob) (s : State) : State :=
  s.updRsc fun r => { r with saveQueue := some job }

/-- The record that an active job writes, if it is a record job. -/
def ActiveJob.record? : Option ActiveJob → List IntervalRecord
  | some ⟨.record r _, _⟩ => [r]
  | _ => []

/-- The records that the record class holds, the running one first (R133, R171). -/
def Controller.records (r : Controller) : List IntervalRecord :=
  ActiveJob.record? r.running ++ ActiveJob.record? r.preempted ++ r.recordQueue

/-- The free places of the record class (R133). -/
def Controller.freePlaces (r : Controller) : Nat := Config.recordPlaces - r.records.length

/-- The block that account `a` is kept in: the spare assigned to it, or register block a (R139, R146). -/
def StoreMap.blockOf (m : StoreMap) (a : AccountId) : BlockLoc :=
  match (List.finRange 4).find? fun i => m.spares[i] == .assigned a with
  | some i => .spare i
  | none => .register a

/-- The first slot from `n` on that is not bad, in ascending order wrapping from 4,095 to 0 (R136, R137). -/
def nextGood (bad : List Nat) : Nat → Nat → Nat
  | 0, n => n
  | fuel + 1, n => if bad.contains n then nextGood bad fuel ((n + 1) % Config.slotCount) else n

/-- The first slot that is not bad from slot `n` on. -/
def StoreMap.goodFrom (m : StoreMap) (n : Nat) : Nat :=
  nextGood m.badSlots (m.badSlots.length + 1) (n % Config.slotCount)

/-- The count of the log (R136). -/
def Controller.logCount (r : Controller) : Nat := r.newest + 1 - r.oldest

/-- The capacity of the log (R136). -/
def Controller.logCapacity (r : Controller) : Nat := Config.slotCount - r.map.badSlots.length

/-- A read job, dropped at the entry into HALTED (R148). -/
def dropRead : Option ActiveJob → Option ActiveJob
  | some ⟨.read _ _, _⟩ => none
  | j => j

/-- The entry into HALTED: a LOG.READ job is dropped and its request refused with HALTED, the window in
processing is abandoned, and FATAL rises (R148, R200). -/
def State.enterHalted (s : State) : State :=
  if s.rsc.halted then s
  else
    let s := s.updRsc fun r =>
      { r with
        halted := true
        readQueue := none
        running := dropRead r.running
        preempted := dropRead r.preempted }
    let s := (s.updWa fun w => { w with processing := none }).giveFatal
    if s.mlc.inService = some .logRead then s.refuse .halted else s

end Sys2Proof.Machine
end

