-- ==== Sys2Proof/Machine/Accounts.lean ====
section
/-! DEFINITION. The interval accountant: opening intervals, closing accounts, the events that close them
and their wait for record places, interval boundaries, and PRESET and ERASE at the accounts
(chapter 2, R133). -/

namespace Sys2Proof.Machine

/-! ## Opening -/

/-- The length of an interval in seconds (R31). -/
def State.intervalSeconds (s : State) : Nat := s.cm.tables.contract.minutes * 60

/-- The next boundary set afresh: the smallest multiple of L × 60 strictly greater than the seconds
count, or none while time is INVALID (R31, R32). -/
def State.freshBoundary (s : State) : State :=
  let step := s.intervalSeconds
  s.updIa fun ia =>
    { ia with
      nextBoundary := if s.tk.valid then some ((s.tk.seconds / step + 1) * step) else none }

/-- A fresh interval; `start` counts only while time is VALID, and a gap mark is consumed (R32, R178). -/
def Interval.fresh (valid : Bool) (start : Nat) (gap : Bool) : Interval :=
  { partials := Vector.replicate 25 0
    clamped := Vector.replicate 25 false
    startTime := if valid then start else 0
    timeInvalid := !valid
    outage := false
    gapBefore := gap
    counts := WindowCounts.zero
    maps := 0 }

/-- Account `a` opens a fresh interval that starts at `start` (R32). -/
def State.openAccount (start : Nat) (a : AccountId) (s : State) : State :=
  s.updAccount a fun acc =>
    { acc with interval := some (Interval.fresh s.tk.valid start acc.gapMark), gapMark := false }

/-- The end time of a close made now: the seconds count, or 0 while time is INVALID (R36, R40). -/
def State.closeTime (s : State) : Nat := if s.tk.valid then s.tk.seconds else 0

/-! ## The close -/

/-- The excess reactive energy of an interval: what RQ1 has above the allowance
floor(API × k / 1024), and 0 when it has nothing above it (R38). -/
def excess (ratio api rq1 : Nat) : Nat := rq1 - api * ratio / 1024

/-- The partials as closed: the excess becomes the XQ partial (R38). -/
def Interval.closing (ratio : Nat) (iv : Interval) : Vector Nat 25 :=
  iv.partials.set 24 (excess ratio iv.partials[0] iv.partials[2])

/-- A register after a close adds a partial: the exact sum, or the limit with the SATURATED mark; a
partial that was cut at the limit marks it too (R39). -/
def Register.add (amount : Nat) (clamped : Bool) (r : Register) : Register :=
  if r.value + amount ≤ u64Max then
    { r with value := r.value + amount, saturated := r.saturated || clamped }
  else { r with value := u64Max, saturated := true }

/-- The 25 registers after a close (R39). -/
def closedRegs (ratio : Nat) (iv : Interval) (regs : Vector Register 25) : Vector Register 25 :=
  Vector.ofFn fun i => (regs[i]).add (iv.closing ratio)[i] iv.clamped[i]

/-- The record of a close (R40). -/
def buildRecord (t : ContractTable) (seq : Nat) (a : AccountId) (cause : EndCause) (endTime : Nat)
    (iv : Interval) (after : Vector Register 25) : IntervalRecord :=
  { seq := seq, account := a, startTime := iv.startTime, endTime := endTime, minutes := t.minutes
    cause := cause, timeInvalid := iv.timeInvalid, outage := iv.outage, gapBefore := iv.gapBefore
    saturated := after.toList.any (·.saturated)
    restored := after.toList.any (·.restored)
    invalid := after.toList.any (·.invalid)
    maps := iv.maps, counts := iv.counts, partials := iv.closing t.ratio
    snapshot := Vector.ofFn fun i => (after[i]).value }

/-- The start time that a reopened interval gets, if one opens. -/
def Reopen.start (count endTime : Nat) : Reopen → Option Nat
  | .nothing => none
  | .atBoundary => some endTime
  | .atCount => some count

/-- A close of account `a`, when it is OPEN: the partials with the excess go into the registers, the
record takes the next record sequence, the account opens a fresh interval or becomes NONE, the
register-block content and the record are handed to the store, and INTERVAL-CLOSED pulses
(R36 to R42). -/
def State.closeAccount (cause : EndCause) (endTime : Nat) (reopen : Reopen) (a : AccountId)
    (s : State) : State :=
  match s.ia.accounts[a].interval with
  | none => s
  | some iv =>
    let t := s.cm.tables.contract
    let after := closedRegs t.ratio iv s.ia.accounts[a].regs
    let record := buildRecord t s.ia.nextSeq a cause endTime iv after
    let s := s.updAccount a fun acc => { acc with interval := none, regs := after }
    let s := s.updIa fun ia => { ia with nextSeq := ia.nextSeq + 1 }
    let s := match reopen.start s.tk.seconds endTime with
      | none => s
      | some start => s.openAccount start a
    (((s.handBlock a).handRecord record).pulse .intervalClosed).giveRegisterFlag

/-- The closes of one event, in ascending account number (R37). -/
def State.closeList (cause : EndCause) (endTime : Nat) (reopen : Reopen) :
    List AccountId → State → State
  | [], s => s
  | a :: rest, s => State.closeList cause endTime reopen rest (s.closeAccount cause endTime reopen a)

/-- Every OPEN account closes (R36). -/
def State.closeAll (cause : EndCause) (endTime : Nat) (reopen : Reopen) (s : State) : State :=
  s.closeList cause endTime reopen (List.finRange 8)

/-! ## Close events -/

/-- The accounts of a list that are OPEN. -/
def State.openAmong (accounts : List AccountId) (s : State) : Nat :=
  (accounts.filter fun a => s.ia.accounts[a].interval.isSome).length

/-- The number of OPEN accounts. -/
def State.openCount (s : State) : Nat := s.openAmong (List.finRange 8)

/-- A close event of `n` accounts would build a record whose sequence is above 4,294,967,295 (R37). -/
def State.seqExhausted (n : Nat) (s : State) : Bool := decide (0 < n ∧ u32Max < s.ia.nextSeq + n - 1)

/-- An event that closes every OPEN account may begin: the supply monitor is NORMAL, the part is not
HALTED, and the record class has the places (R34, R35, R133). -/
def State.canBegin (s : State) : Bool :=
  s.sm.state == .normal && !s.rsc.halted && decide (s.openCount ≤ s.rsc.freePlaces)

/-- The event is made: its closes, and the next boundary afresh where it brings that (R32). -/
def State.runEvent (e : CloseEvent) (s : State) : State :=
  let s := s.closeAll e.cause e.endTime e.reopen
  if e.fresh then s.freshBoundary else s

/-- The event waits behind those that arose before it (R133). -/
def State.waitEvent (e : CloseEvent) (s : State) : State :=
  s.updIa fun ia => { ia with waiting := ia.waiting ++ [e] }

/-- An event arises: it begins at once when it may and no earlier event waits; an exhausted record
sequence takes the part to HALTED, and the event waits (R37, R133, R148). Without the places it waits first, and
the sequence is judged when it would begin (assumption 71). -/
def State.raiseEvent (e : CloseEvent) (s : State) : State :=
  if !s.ia.waiting.isEmpty || !s.canBegin then s.waitEvent e
  else if s.seqExhausted s.openCount then (s.waitEvent e).enterHalted
  else s.runEvent e

/-- The TIME.SET in service is answered once no event that it waits for is left (R169, R194). -/
def State.releaseTimeSet (s : State) : State :=
  if s.mlc.inService = some .timeSet ∧ s.ia.waiting.all (fun e => !e.awaited) then s.ack [] else s

/-- The oldest waiting event begins when it may, and takes the part to HALTED where it would pass the last record
sequence (R37, R133; assumption 71). -/
def State.beginWaiting (s : State) : State :=
  match s.ia.waiting with
  | [] => s
  | e :: rest =>
    if !s.canBegin then s
    else if s.seqExhausted s.openCount then s.enterHalted
    else ((s.updIa fun ia => { ia with waiting := rest }).runEvent e).releaseTimeSet

/-! ## Boundaries -/

/-- The boundary that the count has reached falls. While HALTED it is passed by; while the supply monitor
is not NORMAL the first is held as pending; else the next boundary advances by L × 60 and every OPEN
account closes with cause BOUNDARY (R31, R34, R35). The next boundary advances at once, with closes that wait too
(assumption 66). `awaited` says that a TIME.SET made it fall. -/
def State.boundaryFalls (awaited : Bool) (s : State) : State :=
  match s.ia.nextBoundary with
  | none => s
  | some b =>
    let passed := s.updIa fun ia => { ia with nextBoundary := some (b + s.intervalSeconds) }
    if s.rsc.halted then passed
    else if s.sm.state != .normal then
      s.updIa fun ia => { ia with pendingBoundary := some (ia.pendingBoundary.getD b) }
    else if s.openCount = 0 then passed
    else passed.raiseEvent ⟨.boundary, b, .atBoundary, false, awaited⟩

/-! ## PRESET and ERASE at the accounts -/

/-- A PRESET of account `a`, after its close: the registers take the given values, every mark is cleared,
the residues are 0, and the content is handed to the store (R44). -/
def State.presetAccount (a : AccountId) (values : Vector Nat 25) (s : State) : State :=
  let s := s.updAccount a fun acc =>
    { acc with
      regs := Vector.ofFn fun i =>
        { value := values[i], saturated := false, restored := false, invalid := false }
      residues := Vector.replicate 24 0 }
  (s.handBlock a).giveRegisterFlag

/-- Account `a` under ERASE: registers and residues 0, marks and gap mark clear, its interval discarded
(R45, R178). -/
def Account.erased (acc : Account) : Account :=
  { acc with
    interval := none
    regs := Vector.replicate 25 Register.zero
    residues := Vector.replicate 24 0
    gapMark := false }

/-- The zeroed content of accounts is handed, in ascending number (R45, R150). -/
def State.handBlocks : List AccountId → State → State
  | [], s => s
  | a :: rest, s => State.handBlocks rest (s.handBlock a)

/-- ERASE at the interval accountant (R45). -/
def State.eraseAccounts (s : State) : State :=
  let s := s.updIa fun ia => { ia with accounts := Vector.ofFn fun a => (ia.accounts[a]).erased }
  (s.handBlocks (List.finRange 8)).giveRegisterFlag

end Sys2Proof.Machine
end

