-- ==== Sys2Proof/Machine/Supply.lean ====
section
/-! DEFINITION. The supply monitor: the power-fail warning, the save, and the return to NORMAL
(chapter 9, R34). -/

namespace Sys2Proof.Machine

/-- The supply monitor calls for the save (R170, R171). -/
def State.callSave (s : State) : State :=
  (s.queueSave .save).updSm fun m => { m with saveCalled := true }

/-- The first boundary among waiting close events (R170). -/
def firstBoundary : List CloseEvent → Option Nat
  | [] => none
  | e :: rest => if e.cause = .boundary then some e.endTime else firstBoundary rest

/-- A waiting BOUNDARY event becomes the pending boundary; every other event stays waiting (R170). -/
def Accountant.holdBoundaries (ia : Accountant) : Accountant :=
  match firstBoundary ia.waiting with
  | none => ia
  | some b =>
    { ia with
      waiting := ia.waiting.filter fun e => e.cause != .boundary
      pendingBoundary := some b
      nextBoundary := ia.nextBoundary.map fun _ => b }

/-- The window in processing whose results are not yet applied will not have them applied (R170). -/
def Assembler.dropResults (w : Assembler) : Assembler :=
  { w with processing := w.processing.map fun p => { p with results := none } }

/-- PFW is asserted: from NORMAL the supply monitor enters SAVING and calls for the save; in SAVING or
SAVED the assertion cancels a held deassertion and does nothing else (R170, R172). -/
def State.pfwAsserted (s : State) : State :=
  match s.sm.state with
  | .normal =>
    let s := s.updSm fun m => { m with state := .saving, deassertHeld := false }
    let s := ((s.updIa Accountant.holdBoundaries).updWa Assembler.dropResults).callSave
    s.giveSupply.releaseTimeSet
  | _ => s.updSm fun m => { m with deassertHeld := false }

/-- OUTAGE in every open interval (R34). -/
def Accountant.flagOutage (ia : Accountant) : Accountant :=
  { ia with
    accounts := Vector.ofFn fun a =>
      { ia.accounts[a] with
        interval := ia.accounts[a].interval.map fun iv => { iv with outage := true } } }

/-- The return to NORMAL: OUTAGE in every open interval, the RUNNING write that consumes the save, and,
for a pending boundary, the OUTAGE closes with the next boundary set afresh (R34, R172). Their end time is the
boundary, in INVALID time too (assumption 48), and where they wait behind an earlier event the records carry the
flags of the intervals that stand then (assumption 58). -/
def State.returnToNormal (s : State) : State :=
  let s := s.updSm fun m => { m with state := .normal, deassertHeld := false }
  let s := ((s.updIa Accountant.flagOutage).queueSave .running).giveSupply
  match s.ia.pendingBoundary with
  | none => s
  | some b =>
    let s := (s.updIa fun ia => { ia with pendingBoundary := none }).freshBoundary
    if s.openCount = 0 then s else s.raiseEvent ⟨.outage, b, .atCount, true, false⟩

/-- PFW is deasserted: held in SAVING, and the return to NORMAL from SAVED (R172). -/
def State.pfwDeasserted (s : State) : State :=
  match s.sm.state with
  | .normal => s
  | .saving => s.updSm fun m => { m with deassertHeld := true }
  | .saved => s.returnToNormal

/-- A save is complete, verified or failed: the outcome is recorded; once no later save is called, the
monitor leaves SAVING, to NORMAL when a deassertion is held and else to SAVED (R171, R172). The outcome is shown
while a later save is still queued too (assumption 64). -/
def State.saveComplete (verified : Bool) (time : TimeStamp) (s : State) : State :=
  let s := s.updSm fun m => { m with lastSave := some (verified, time) }
  if s.sm.state = .saving ∧ s.rsc.saveQueue ≠ some .save then
    if s.sm.deassertHeld then s.returnToNormal else s.updSm fun m => { m with state := .saved }
  else s

/-- The saved state, formed when the save job starts (R171). -/
def State.savedState (s : State) : SavedState :=
  { time := { seconds := s.tk.seconds, millis := s.tk.millis, valid := s.tk.valid }
    mode := s.cm.mode
    locked := s.cm.locked
    generation := s.cm.generation
    nextBoundary := s.ia.nextBoundary
    boundaryPending := s.ia.pendingBoundary.isSome
    accounts := Vector.ofFn fun a =>
      { interval := s.ia.accounts[a].interval, regs := s.ia.accounts[a].regs,
        residues := s.ia.accounts[a].residues }
    records := s.rsc.records }

end Sys2Proof.Machine
end

