-- ==== Sys2Proof/Machine/Store.lean ====
section
/-! DEFINITION. The retained store controller at work: units, job start and preemption, write attempts
and their failures, the interval log, reading it, and the patrol (chapter 7). -/

namespace Sys2Proof.Machine

/-! ## Units -/

/-- The record slots with slot `n` holding `r`, in rising slot order. -/
def writeSlot (n : Nat) (r : IntervalRecord) : List (Nat × IntervalRecord) → List (Nat × IntervalRecord)
  | [] => [(n, r)]
  | (m, q) :: rest =>
    if n < m then (n, r) :: (m, q) :: rest
    else if n = m then (n, r) :: rest
    else (m, q) :: writeSlot n r rest

/-- The record slots with slot `n` holding nothing usable. -/
def eraseSlot (n : Nat) (slots : List (Nat × IntervalRecord)) : List (Nat × IntervalRecord) :=
  slots.filter fun p => p.1 != n

/-- The intact record in slot `n`, if it holds one. -/
def readSlot (n : Nat) (slots : List (Nat × IntervalRecord)) : Option IntervalRecord :=
  (slots.find? fun p => p.1 == n).map (·.2)

/-- The canonical form of the record slots: numbers strictly rising and below 4,096. -/
def slotsWf (slots : List (Nat × IntervalRecord)) : Bool :=
  slots.all (fun p => p.1 < Config.slotCount) && decide (slots.Pairwise fun p q => p.1 < q.1)

/-- The slot and the record of sequence `q`, if an intact slot that is not bad holds it (R211); of two such slots
the lower one (assumption 61). -/
def Store.findRecord (st : Store) (bad : List Nat) (q : Nat) : Option (Nat × IntervalRecord) :=
  st.slots.find? fun p => p.2.seq == q && !bad.contains p.1

/-- The store with a block of registers at `loc` holding `content`. -/
def Store.setBlock (loc : BlockLoc) (content : Option RegContent) (st : Store) : Store :=
  match loc with
  | .register n => { st with registers := st.registers.set n content }
  | .spare n => { st with spares := st.spares.set n content }

/-- What the block of registers at `loc` holds. -/
def Store.block (st : Store) : BlockLoc → Option RegContent
  | .register n => st.registers[n]
  | .spare n => st.spares[n]

/-- The store after a write job's content has reached its unit whole. -/
def Store.put (job : Job) (st : Store) : Store :=
  match job with
  | .save b => { st with save := some b }
  | .block c loc => st.setBlock loc (some c)
  | .record r n => { st with slots := writeSlot n r st.slots }
  | .config c g => { st with config := st.config.set c.table.idx (some ⟨c, g⟩) }
  | _ => st

/-- The store after a write job's attempt has left nothing usable in its unit. -/
def Store.tear (job : Job) (st : Store) : Store :=
  match job with
  | .save _ => { st with save := none }
  | .block _ loc => st.setBlock loc none
  | .record _ n => { st with slots := eraseSlot n st.slots }
  | .config c _ => { st with config := st.config.set c.table.idx none }
  | _ => st

/-- The store after an attempt that did not verify, or was interrupted (R131, R135). -/
def Store.leave (left : UnitLeft) (job : Job) (st : Store) : Store :=
  match left with
  | .untouched => st
  | .torn => st.tear job
  | .complete => st.put job

/-- The store with a unit that no longer matches its CRC-32 (R130). -/
def Store.decay (st : Store) : StoreUnit → Store
  | .register n => { st with registers := st.registers.set n none }
  | .spare n => { st with spares := st.spares.set n none }
  | .config t => { st with config := st.config.set t.idx none }
  | .slot n => { st with slots := eraseSlot n.val st.slots }
  | .save => { st with save := none }

/-- The store as the attempt that runs leaves it when it is interrupted (R131, R180). -/
def State.interrupt (left : UnitLeft) (s : State) : State :=
  match s.rsc.running with
  | none => s
  | some j => s.updStore (·.leave left j.job)

/-! ## Starting a job -/

/-- The write retry counter rises (R135, R149). -/
def State.countRetry (s : State) : State :=
  s.updStoreCounters fun c => { c with retries := countUp c.retries }

/-- A job starts its first attempt, or its read, which is counted as attempt 1 (assumption 60). -/
def State.startJob (job : Job) (s : State) : State :=
  s.updRsc fun r => { r with running := some ⟨job, 1⟩ }

/-- Whether a job writes its unit. -/
def Job.isWrite : Job → Bool
  | .read _ _ => false
  | .patrol _ _ => false
  | _ => true

/-- The content of a save-block write when it starts; CLEAN is made as RUNNING while the save-failure
memory is set or an account holds a gap mark (R140, R171). -/
def State.saveContent (s : State) : SaveJob → SaveBlock
  | .save => .saved s.savedState
  | .running => .running
  | .clean =>
    if s.rsc.saveFailed || s.ia.accounts.toList.any (·.gapMark) then .running else .clean

/-- A preempted job resumes with its next attempt or its next read (R134). -/
def State.resume (p : ActiveJob) (s : State) : State :=
  let s := s.updRsc fun r => { r with preempted := none }
  if p.job.isWrite then
    let s := if p.attempt = 0 then s else s.countRetry
    s.updRsc fun r => { r with running := some ⟨p.job, p.attempt + 1⟩ }
  else s.updRsc fun r => { r with running := some p }

/-- The oldest record leaves the log when the log is full (R137, R138). -/
def Controller.makeRoom (r : Controller) : Controller :=
  if r.logCount ≥ r.logCapacity then { r with oldest := r.oldest + 1 } else r

/-- The slot that the next record takes (R136, R137). -/
def Controller.nextSlot (r : Controller) : Nat :=
  if r.newest < r.oldest then r.map.goodFrom r.map.writePosition
  else r.map.goodFrom (r.newestSlot + 1)

/-- A record write starts: it chooses its slot, and a full log loses its oldest record (R137). -/
def State.startRecord (record : IntervalRecord) (s : State) : State :=
  let slot := s.rsc.nextSlot
  (s.updRsc Controller.makeRoom).startJob (.record record slot)

/-- The content of a configuration job as it is written: a PATROL block takes the store map as it stands,
with the next record sequence (R130, R141). -/
def State.startConfig (job : ConfigJob) (s : State) : State :=
  match job.content with
  | .patrol period _ =>
    let map := { s.rsc.map with nextSeq := s.ia.nextSeq }
    (s.updRsc fun r => { r with map := map }).startJob (.config (.patrol period map) job.generation)
  | c => s.startJob (.config c job.generation)

/-- A LOG.READ judged against the log as it stands when its job starts (R142); in a log that is empty the
oldest sequence stays as it is (assumptions 24 and 56). -/
def Controller.judge (r : Controller) (j : ReadJob) : ReadVerdict :=
  if j.first < r.oldest then .gone
  else if r.newest < j.first then .notFound
  else .read j.first (if j.two && decide (j.first + 1 ≤ r.newest) then some (j.first + 1) else none)

/-- The unit has a job queued, running or preempted, so the patrol skips it (R143). -/
def Controller.busy (r : Controller) : PatrolPos → Bool
  | .account a =>
    r.blockQueue.any (·.account == a) ||
      [r.running, r.preempted].any fun
        | some ⟨.block c _, _⟩ => c.account == a
        | _ => false
  | .config t =>
    r.configQueue.any (·.content.table == t) ||
      [r.running, r.preempted].any fun
        | some ⟨.config c _, _⟩ => c.table == t
        | _ => false
  | .record _ => false

/-- The record that the patrol reads next, when the position is at or before record `q`: the position
moves to the oldest record when the log has moved past it (R143). -/
def Controller.patrolRecord (r : Controller) (q : Nat) : List PatrolPos :=
  let q := max q r.oldest
  if q ≤ r.newest then [.record q] else []

/-- The units of the patrol round from the position on, the records standing as their first (R143). -/
def Controller.roundFrom (r : Controller) : PatrolPos → List PatrolPos
  | .account a =>
    (((List.finRange 8).drop a.val).map PatrolPos.account) ++ TableId.all.map PatrolPos.config ++
      r.patrolRecord r.oldest
  | .config t => ((TableId.all.drop t.idx.val).map PatrolPos.config) ++ r.patrolRecord r.oldest
  | .record q => r.patrolRecord q

/-- The position after a unit has been checked; after the last unit the next round begins (R143, R144). -/
def Controller.positionAfter (r : Controller) (u : PatrolPos) : PatrolPos :=
  match u with
  | .record q => if q + 1 ≤ r.newest then .record (q + 1) else .account 0
  | u =>
    match (r.roundFrom u).tail with
    | next :: _ => next
    | [] => .account 0

/-- A patrol read starts at the first unit of the round that has no job; when every remaining unit is
skipped the round ends and nothing is checked (R143), which is so too at a record of a log that has since been
emptied (assumption 57). -/
def State.startPatrol (s : State) : State :=
  let s := s.updRsc fun r => { r with patrolQueued := false }
  match (s.rsc.roundFrom s.rsc.patrolPos).find? fun u => !s.rsc.busy u with
  | none => s.updRsc fun r => { r with patrolPos := .account 0 }
  | some u => (s.updRsc fun r => { r with patrolPos := u }).startJob (.patrol u false)

/-- The arbiter: a queued save-block job first, then a preempted job, then the oldest job of the lowest
class that holds one (R132, R134). -/
def State.startNext (s : State) : State :=
  match s.rsc.saveQueue with
  | some j =>
    let content := s.saveContent j
    (s.updRsc fun r => { r with saveQueue := none }).startJob (.save content)
  | none =>
    match s.rsc.preempted with
    | some p => s.resume p
    | none =>
      match s.rsc.blockQueue with
      | c :: rest =>
        (s.updRsc fun r => { r with blockQueue := rest }).startJob
          (.block c (s.rsc.map.blockOf c.account))
      | [] =>
        match s.rsc.recordQueue with
        | q :: rest => (s.updRsc fun r => { r with recordQueue := rest }).startRecord q
        | [] =>
          match s.rsc.configQueue with
          | j :: rest => (s.updRsc fun r => { r with configQueue := rest }).startConfig j
          | [] =>
            match s.rsc.readQueue with
            | some j =>
              (s.updRsc fun r => { r with readQueue := none }).startJob (.read (s.rsc.judge j) false)
            | none => if s.rsc.patrolQueued then s.startPatrol else s

/-- The save preempts the running job at the end of its attempt or read: the job keeps its attempt count
and its target (R134). -/
def State.preempt (j : ActiveJob) (s : State) : State :=
  s.updRsc fun r => { r with running := none, preempted := some j }

/-- STORE_JOB_START: with no job running the arbiter starts one; between the two reads of a LOG.READ a
queued save preempts it. In HALTED no job starts (R134, R148), nor does a preempted one resume (assumption 54). -/
def execStoreJobStart (s : State) : Host.Outcome State Fault Refusal :=
  if !s.powered || s.rsc.halted then .next s
  else
    match s.rsc.running with
    | none => .next s.startNext
    | some ⟨.read (.read q (some q')) false, n⟩ =>
      if s.rsc.saveQueue.isSome then
        .next (s.preempt ⟨.read (.read q (some q')) true, n⟩).startNext
      else .next s
    | some _ => .next s

/-! ## The end of a write -/

/-- A close in flight of account `a` ends when no record write of it is left and its register-block
content is verified (R42): in HALTED too, by a write that ran at the entry (assumption 69), and with the pending
records that the load queued among the record writes (assumption 70). -/
def State.settleFlight (a : AccountId) (s : State) : State :=
  let acc := s.ia.accounts[a]
  if acc.inFlight && !acc.blockOwed && !s.rsc.records.any (·.account == a) then
    s.updAccount a fun acc => { acc with inFlight := false }
  else s

/-- A job queued from the save block has been verified; after the last one the RUNNING write that
consumes the save is queued, unless a save was called since the start (R147). -/
def State.consume (f : Consumption → Consumption) (s : State) : State :=
  match s.rsc.consumption with
  | none => s
  | some c =>
    let c := f c
    if c.blocks.isEmpty && c.records.isEmpty then
      let s := s.updRsc fun r => { r with consumption := none }
      if s.sm.saveCalled then s else s.queueSave .running
    else s.updRsc fun r => { r with consumption := some c }

/-- No job runs. -/
def State.jobEnds (s : State) : State := s.updRsc fun r => { r with running := none }

/-- The time of a save block's content. -/
def SaveBlock.time? : SaveBlock → Option TimeStamp
  | .saved c => some c.time
  | _ => none

/-- A write job is complete with its write verified (R135): the report to the block that handed it (R42,
R67, R134, R137, R172). -/
def State.verified (job : Job) (s : State) : State :=
  let s := (s.updStore (·.put job)).jobEnds
  match job with
  | .save b =>
    match b.time? with
    | none => s
    | some t => (s.updRsc fun r => { r with saveFailed := false }).saveComplete true t
  | .block c _ =>
    let s := s.updAccount c.account fun acc =>
      { acc with blockOwed := acc.blockOwed && s.rsc.blockQueue.any (·.account == c.account) }
    (s.settleFlight c.account).consume fun k => { k with blocks := k.blocks.filter (· != c.account) }
  | .record q n =>
    let s := s.updRsc fun r =>
      { r with
        oldest := if r.newest < r.oldest then q.seq else r.oldest
        newest := q.seq
        newestSlot := n }
    (s.settleFlight q.account).consume fun k => { k with records := k.records.filter (· != q.seq) }
  | _ => s

/-- The next attempt of a job begins, its attempt count being `n`, or the save preempts it (R134, R135), in
HALTED too (assumption 54). -/
def State.nextAttempt (job : Job) (n : Nat) (s : State) : State :=
  match job, s.rsc.saveQueue with
  | .save _, _ => (s.countRetry).updRsc fun r => { r with running := some ⟨job, n + 1⟩ }
  | _, some _ => s.preempt ⟨job, n⟩
  | _, none =>
    let s := if n = 0 then s else s.countRetry
    s.updRsc fun r => { r with running := some ⟨job, n + 1⟩ }

/-- A record slot failed its 20th attempt: it joins the bad-slot list and the record moves to the next
slot that is not bad, from which a full log's oldest record leaves. With the list full the part enters
HALTED, the record unwritten in its class (R138). -/
def State.slotFailed (record : IntervalRecord) (slot : Nat) (s : State) : State :=
  if s.rsc.map.badSlots.length ≥ Config.badSlotPlaces then
    (s.jobEnds.updRsc fun r => { r with recordQueue := record :: r.recordQueue }).enterHalted
  else
    let s := s.updRsc fun r =>
      { r with map := { r.map with badSlots := r.map.badSlots ++ [slot] } }
    let s := (s.updRsc Controller.makeRoom).handConfig .patrol
    s.nextAttempt (.record record (s.rsc.map.goodFrom (slot + 1))) 0

/-- The spares with the one that account `a` held RETIRED and spare `n` ASSIGNED to it (R139). -/
def StoreMap.assign (n : SpareId) (a : AccountId) (m : StoreMap) : StoreMap :=
  { m with
    spares := Vector.ofFn fun i =>
      if i = n then .assigned a else if m.spares[i] = .assigned a then .retired else m.spares[i] }

/-- An account's block failed its 20th attempt: the account moves to the lowest FREE spare, or the part
enters HALTED (R139). -/
def State.blockFailed (content : RegContent) (s : State) : State :=
  match (List.finRange 4).find? fun i => s.rsc.map.spares[i] == .free with
  | none => s.jobEnds.enterHalted
  | some n =>
    let s := (s.updRsc fun r => { r with map := r.map.assign n content.account }).handConfig .patrol
    s.nextAttempt (.block content (.spare n)) 0

/-- A save-block write failed its 20th attempt: the save block holds no usable content (R140, R149,
R172). -/
def State.saveWriteFailed (b : SaveBlock) (s : State) : State :=
  let s := (s.updStore (·.tear (.save b))).jobEnds.updRsc fun r => { r with saveFailed := true }
  let s := s.updStoreCounters fun c => { c with saveFailures := countUp c.saveFailures }
  match b.time? with
  | none => s
  | some t => s.saveComplete false t

/-- The failure of a write after its 20th attempt, by the kind of its unit (R135). -/
def State.writeFailed (job : Job) (s : State) : State :=
  match job with
  | .save b => s.saveWriteFailed b
  | .block c _ => s.blockFailed c
  | .record q n => s.slotFailed q n
  | .config _ _ => s.jobEnds.enterHalted
  | _ => s

/-- STORE_WRITE_ATTEMPT_DONE: a write and its read-back complete. A match verifies the write; a mismatch
starts the next attempt, up to 20, after which the failure is handled by unit kind (R135). -/
def execStoreWriteAttemptDone (result : AttemptResult) (s : State) :
    Host.Outcome State Fault Refusal :=
  match s.rsc.running with
  | none => .next s
  | some ⟨job, n⟩ =>
    if !s.powered || !job.isWrite then .next s
    else
      match result with
      | .verified => .next (s.verified job)
      | .mismatch left =>
        let s := s.updStore (·.leave left job)
        if n < Config.attemptLimit then .next (s.nextAttempt job n) else .next (s.writeFailed job)

/-! ## Reading the log -/

/-- The persistent record error counter rises (R142, R144, R149). -/
def State.countRecordError (s : State) : State :=
  s.updStoreCounters fun c => { c with recordErrors := countUp c.recordErrors }

/-- Record `q` as it is read: its CRC-32 holds when the slot holds it intact and this read agrees. A
record that fails is held as failing from then on (R142; assumption 5). A sequence that no slot holds fails too
(assumption 62). -/
def State.readRecord (q : Nat) (agrees : Bool) (s : State) : Option IntervalRecord × State :=
  match s.store.findRecord s.rsc.map.badSlots q with
  | none => (none, s)
  | some (n, r) =>
    if agrees then (some r, s)
    else (none, s.updStore fun st => { st with slots := eraseSlot n st.slots })

/-- The ACK payload of LOG.READ (R205). -/
def logPayload (records : List IntervalRecord) : List Byte :=
  byteOf records.length :: records.flatMap IntervalRecord.image

/-- LOG_READ_JOB_DONE: the class-5 read completes and the reply is formed: GONE, NOT-FOUND, CORRUPT, or
one or two records (R142, R200). -/
def execLogReadJobDone (firstOk secondOk : Bool) (s : State) : Host.Outcome State Fault Refusal :=
  match s.rsc.running with
  | some ⟨.read verdict _, _⟩ =>
    if !s.powered then .next s
    else
      let s := s.jobEnds
      match verdict with
      | .gone => .next (s.refuse .gone)
      | .notFound => .next (s.refuse .notFound)
      | .read q second =>
        match s.readRecord q firstOk with
        | (none, s) => .next (s.countRecordError.refuse .corrupt)
        | (some r, s) =>
          match second with
          | none => .next (s.ack (logPayload [r]))
          | some q' =>
            match s.readRecord q' secondOk with
            | (none, s) => .next (s.ack (logPayload [r]))
            | (some r', s) => .next (s.ack (logPayload [r, r']))
  | _ => .next s

/-! ## Patrol -/

/-- The step interval of the patrol: P ms, and half of it, rounded down, under STORE-ALERT (R143). -/
def State.patrolInterval (s : State) : Nat :=
  if s.rsc.alert then s.cm.tables.patrol / 2 else s.cm.tables.patrol

/-- PATROL_STEP_DUE: the step interval has passed and a patrol read joins class 6 unless one is queued.
No step falls due in HALTED or during the wait of a soft reset (R143, R148, R181). -/
def execPatrolStepDue (s : State) : Host.Outcome State Fault Refusal :=
  if !s.powered || s.rsc.halted || s.mlc.resetTaken then .next s
  else
    let s := s.advance s.rsc.patrolTimer
    .next (s.updRsc fun r => { r with patrolTimer := s.patrolInterval, patrolQueued := true })

/-- The unit of a patrol position holds usable content (R130, R144); a record that no slot holds is not intact
(assumption 62). -/
def State.unitIntact (u : PatrolPos) (s : State) : Bool :=
  match u with
  | .account a => (s.store.block (s.rsc.map.blockOf a)).isSome
  | .config t => s.store.config[t.idx].isSome
  | .record q => (s.store.findRecord s.rsc.map.badSlots q).isSome

/-- The unit of a patrol position has been found not to match its CRC-32 twice: it holds nothing usable
(R130, R144; assumption 5). -/
def State.spoil (u : PatrolPos) (s : State) : State :=
  match u with
  | .account a => s.updStore (·.setBlock (s.rsc.map.blockOf a) none)
  | .config t => s.updStore (·.decay (.config t))
  | .record q =>
    match s.store.findRecord s.rsc.map.badSlots q with
    | none => s
    | some (n, _) => s.updStore fun st => { st with slots := eraseSlot n st.slots }

/-- The handling of a persistent mismatch by unit kind (R144). -/
def State.repair (u : PatrolPos) (s : State) : State :=
  let counted := s.updStoreCounters fun c => { c with repairs := countUp c.repairs }
  match u with
  | .account a => (counted.queueBlock s.rsc.images[a]).pulse .storeRepair
  | .config t => (counted.handConfig t).pulse .storeRepair
  | .record _ => s.countRecordError

/-- One patrol step in the history: every distance grows by one, a mismatch enters it at 0, and the last
two are kept (R131, R145). -/
def historyStep (mismatch : Bool) (history : List Nat) : List Nat :=
  let history := history.map (· + 1)
  if mismatch then (0 :: history).take 2 else history

/-- The store alert after a patrol step: set when a mismatch has two earlier ones within the 1,023 steps
before it, cleared when 1,024 steps have passed with none (R145). -/
def alertStep (mismatch : Bool) (history : List Nat) (alert : Bool) : Bool :=
  let earlier := history.map (· + 1)
  if mismatch then
    alert || decide (2 ≤ (earlier.filter (· < Config.alertSpan)).length)
  else alert && earlier.any (· < Config.alertSpan)

/-- A patrol step that read unit `u` ends: it is counted, it enters the history, the alert is judged, and
the position moves on (R143 to R145, R149). -/
def State.stepEnds (u : PatrolPos) (mismatch : Bool) (s : State) : State :=
  let s := s.jobEnds.updRsc fun r =>
    { r with
      counters := { r.counters with patrolSteps := countUp r.counters.patrolSteps }
      history := historyStep mismatch r.history
      alert := alertStep mismatch r.history r.alert
      patrolPos := r.positionAfter u }
  s.giveStoreAlert

/-- PATROL_READ_DONE: one read of the unit completes. Agreement passes; a first mismatch has the unit read
again, at which a queued save preempts the job; agreement then is a transient mismatch, and a second
mismatch is persistent (R134, R144). A read that runs at the entry into HALTED goes on to its end
(assumption 55). -/
def execPatrolReadDone (agrees : Bool) (s : State) : Host.Outcome State Fault Refusal :=
  match s.rsc.running with
  | some ⟨.patrol u second, n⟩ =>
    if !s.powered then .next s
    else if agrees && s.unitIntact u then
      if second then
        .next ((s.updStoreCounters fun c => { c with transients := countUp c.transients }).stepEnds u
          false)
      else .next (s.stepEnds u false)
    else if second then .next ((((s.spoil u).stepEnds u true)).repair u)
    else if s.rsc.saveQueue.isSome then .next (s.preempt ⟨.patrol u true, n⟩)
    else .next (s.updRsc fun r => { r with running := some ⟨.patrol u true, n⟩ })
  | _ => .next s

end Sys2Proof.Machine
end

