-- ==== Sys2Proof/Machine/Links.lean ====
section
/-! DEFINITION. The acquisition link controllers and the arrival side of the window assembler: link
states and their entries, the frames that the unit sends, damaged windows, timers and the transmitter
(chapter 6), alignment buffers and assembly records (chapter 5). -/

namespace Sys2Proof

/-- The profiles that the part offers: the highest profile of the entry and every one below it (R111). -/
def Profile.offered : Profile → ProfileSet
  | .basic => { basic := true, extended := false, full := false }
  | .extended => { basic := true, extended := true, full := false }
  | .full => { basic := true, extended := true, full := true }

/-- The order count H of a profile (R53). -/
def Profile.orders : Profile → Nat
  | .basic => 25
  | .extended => 40
  | .full => 50

/-- The highest profile in both sets (R114). -/
def ProfileSet.resolve (a b : ProfileSet) : Option Profile :=
  if a.full && b.full then some .full
  else if a.extended && b.extended then some .extended
  else if a.basic && b.basic then some .basic
  else none

/-- A channel count in 1..12 (R108). -/
def channelsWf (n : Nat) : Bool := decide (1 ≤ n ∧ n ≤ 12)

/-- An OFFER payload is well formed (R108). -/
def OfferContent.wf (c : OfferContent) : Bool :=
  (c.profiles.basic || c.profiles.extended || c.profiles.full) && channelsWf c.kinds.length

/-- An ACCEPT payload is well formed (R108). -/
def AcceptContent.wf (c : AcceptContent) : Bool := channelsWf c.kinds.length

/-- A WINDOW payload is well formed (R108, R208). -/
def WindowFrame.wf (f : WindowFrame) : Bool :=
  [25, 40, 50].contains f.orders && channelsWf f.channels &&
    f.blocks.length == f.channels * f.orders

end Sys2Proof

namespace Sys2Proof.Machine

/-! ## The window assembler when a link leaves UP -/

/-- The set that holds link `l` alone. -/
def only (l : LinkId) : Set4 := BitVec.twoPow 4 l.val

/-- Link `l` leaves UP: its buffered frames are discarded, it leaves the expected and arrival set of every
open record, and a record whose arrival set is then empty is removed (R101). -/
def Assembler.linkLeaves (l : LinkId) (w : Assembler) : Assembler :=
  { w with
    buffers := w.buffers.set l []
    records := (w.records.map fun r =>
      { r with expected := r.expected &&& ~~~only l, arrived := r.arrived &&& ~~~only l }).filter
        fun r => r.arrived != 0 }

/-! ## Link states -/

/-- Whether a link is UP, in either form (R112). -/
def Link.isUp (k : Link) : Bool :=
  match k.state with
  | .up _ => true
  | _ => false

/-- Leaving UP, for any cause (R119); a link that is not UP is not changed. -/
def State.leaveUp (l : LinkId) (s : State) : State :=
  if (s.links[l]).isUp then
    let s := s.updLink l fun k =>
      { k with resolved := none, offset := none, windowSinceUp := false, lost := [], errorRun := 0 }
    (s.updWa (·.linkLeaves l)).pulse .linkChange
  else s

/-- OFFER and ACCEPT frames, of which the transmitter keeps at most one waiting (R110). -/
def LinkTx.isPeriodic : LinkTx → Bool
  | .offer _ => true
  | .accept _ => true
  | _ => false

/-- An OFFER or ACCEPT made due on entry to a state takes the place of one that waits (R110, R113, R116). -/
def Link.due (t : LinkTx) (k : Link) : Link :=
  { k with
    waiting := k.waiting.filter (fun x => !x.isPeriodic) ++ [t]
    sendTimer := some Config.sendPeriod }

/-- A periodic OFFER or ACCEPT that falls due adds nothing while one still waits (R110). -/
def Link.duePeriodic (t : LinkTx) (k : Link) : Link :=
  { k with
    waiting := if k.waiting.any LinkTx.isPeriodic then k.waiting else k.waiting ++ [t]
    sendTimer := some Config.sendPeriod }

/-- The OFFER that the part sends on link `l`: the latched class and the profiles offered; the part has no
channels to offer (R113, R209). -/
def State.ownOffer (l : LinkId) (s : State) : LinkTx :=
  .offer { freq := s.straps.freq, profiles := (s.cm.tables.links[l]).highest.offered, kinds := [] }

/-- Entering OFFERING: the candidate and the refused content are cleared, the runs zeroed, and OFFER is due at
once. A received OFFER that causes the entry starts the OFFER run (R119). -/
def State.enterOffering (l : LinkId) (cause : Option OfferContent) (s : State) : State :=
  let own := s.ownOffer l
  s.updLink l fun k =>
    ({ k with
        state := .offering
        candidate := none
        refused := none
        acceptRun := 0
        windowRun := 0
        windowRunSeq := none
        offerRun := if cause.isSome then 1 else 0
        offerRunContent := cause
        lastOffer := match cause with
          | some c => some c
          | none => k.lastOffer
        silence := none
        breakHold := none }).due own

/-- The link returns to OFFERING, leaving UP first if it is UP (R116 to R120). -/
def State.toOffering (l : LinkId) (cause : Option OfferContent) (s : State) : State :=
  (s.leaveUp l).enterOffering l cause

/-- Entering DISABLED: UP is left, every waiting frame is discarded, the frame being sent is cut off, and
the timers stop (R110, R117, R120). The runs, the candidate and the refused content stay (assumption 53). -/
def State.enterDisabled (l : LinkId) (s : State) : State :=
  (s.leaveUp l).updLink l fun k =>
    { k with
      state := .disabled, waiting := [], sending := none, silence := none, breakHold := none
      sendTimer := none }

/-- Entering BREAKING, or restarting its hold: as DISABLED on the transmitter, with the restart counter
raised and the break hold of 1,500 ms started (R119). The runs, the candidate and the refused content stay
(assumption 53). -/
def State.enterBreaking (l : LinkId) (s : State) : State :=
  (s.leaveUp l).updLink l fun k =>
    { k with
      state := .breaking, waiting := [], sending := none, silence := none, sendTimer := none
      breakHold := some Config.breakHoldTime
      counters := { k.counters with restarts := countUp k.counters.restarts } }

/-- Entering ACKNOWLEDGING with a candidate: the ACCEPT run is 0, the WINDOW run is cleared, ACCEPT is due
at once and the silence timer starts (R114, R116, R117). -/
def State.enterAcknowledging (l : LinkId) (c : AcceptContent) (s : State) : State :=
  s.updLink l fun k =>
    ({ k with
        state := .acknowledging, candidate := some c, acceptRun := 0, windowRun := 0
        windowRunSeq := none, silence := some Config.silenceTime }).due (.accept c)

/-- Entering UP: content and offset as resolved, the silence timer started, the error run zeroed, the
lost list emptied, and LINK-CHANGE pulsed (R115, R116, R119). -/
def State.enterUp (l : LinkId) (fixed : Bool) (content : AcceptContent) (offset : Seq) (s : State) :
    State :=
  (s.updLink l fun k =>
    { k with
      state := .up fixed, resolved := some content, offset := some offset, candidate := none
      windowSinceUp := false, silence := some Config.silenceTime, errorRun := 0, lost := []
      sendTimer := none }).pulse .linkChange

/-! ## Receiving -/

/-- The receiver of link `l` is evaluated: the link is OFFERING, ACKNOWLEDGING or UP, and the pair is not
being ignored after a jabber cut (R107, R109). -/
def State.receives (l : LinkId) (s : State) : Bool :=
  s.powered && (s.links[l]).ignoring.isNone &&
    match (s.links[l]).state with
    | .disabled => false
    | .breaking => false
    | _ => true

/-- The runs go back to 0 in the states in which they are kept (R107, R109). -/
def Link.resetRuns (k : Link) : Link :=
  match k.state with
  | .offering => { k with offerRun := 0, offerRunContent := none, windowRun := 0, windowRunSeq := none }
  | .acknowledging => { k with acceptRun := 0 }
  | _ => k

/-- An invalid frame, or a cut one: counted by `count`, and the runs go back to 0 (R107, R109). -/
def State.badFrame (count : LinkCounters → LinkCounters) (l : LinkId) (s : State) : State :=
  s.updLink l fun k => { k.resetRuns with counters := count k.counters }

/-- The CRC error counter rises (R107, R125). -/
def LinkCounters.crcError (c : LinkCounters) : LinkCounters :=
  { c with crcErrors := countUp c.crcErrors }

/-- A valid frame: it is counted, and it restarts the silence timer where that runs (R117, R125). -/
def State.goodFrame (l : LinkId) (s : State) : State :=
  s.updLink l fun k =>
    { k with
      silence := match k.state with
        | .acknowledging => some Config.silenceTime
        | .up _ => some Config.silenceTime
        | _ => k.silence
      counters := { k.counters with framesGood := countUp k.counters.framesGood } }

/-- Resolution of the OFFER content of a finished run (R114). -/
def State.resolveOffer (l : LinkId) (c : OfferContent) (s : State) : State :=
  match c.profiles.resolve (s.cm.tables.links[l]).highest.offered with
  | some p =>
    if c.freq = s.straps.freq then s.enterAcknowledging l ⟨s.straps.freq, p, c.kinds⟩
    else (s.updLink l fun k => { k with refused := some c }).pulse .linkError
  | none => (s.updLink l fun k => { k with refused := some c }).pulse .linkError

/-- A valid OFFER in OFFERING (R113). -/
def State.offerInOffering (l : LinkId) (c : OfferContent) (s : State) : State :=
  let k := s.links[l]
  if k.refused = some c then s.updLink l fun k => { k with lastOffer := some c }
  else
    let run := if 0 < k.offerRun ∧ k.offerRunContent = some c then k.offerRun + 1 else 1
    let s := s.updLink l fun k =>
      { k with
        lastOffer := some c, refused := none, offerRunContent := some c
        offerRun := if run = 3 then 0 else run }
    if run = 3 then s.resolveOffer l c else s

/-- OFFER_FRAME: a valid OFFER received from the unit (R113, R116, R118). -/
def execOfferFrame (l : LinkId) (c : OfferContent) (s : State) : Host.Outcome State Fault Refusal :=
  if !s.receives l then .next s
  else if !c.wf then .next (s.badFrame LinkCounters.crcError l)
  else
    let s := s.goodFrame l
    match (s.links[l]).state with
    | .offering => .next (s.offerInOffering l c)
    | .acknowledging =>
      if (s.links[l]).lastOffer = some c then .next s else .next (s.toOffering l (some c))
    | .up _ => .next (s.toOffering l (some c))
    | _ => .next s

/-- A valid ACCEPT in ACKNOWLEDGING: an equal one raises the run, and the third takes the link UP in
negotiated form with START due; a different one returns it to OFFERING (R116). -/
def State.acceptInAcknowledging (l : LinkId) (c : AcceptContent) (s : State) : State :=
  if (s.links[l]).candidate = some c then
    let run := (s.links[l]).acceptRun + 1
    let s := s.updLink l fun k => { k with acceptRun := run }
    if run < 3 then s
    else (s.enterUp l false c 0).updLink l fun k => { k with waiting := k.waiting ++ [.start] }
  else s.toOffering l none

/-- A valid ACCEPT in UP (R118). -/
def State.acceptInUp (l : LinkId) (fixed : Bool) (c : AcceptContent) (s : State) : State :=
  let k := s.links[l]
  if fixed || k.resolved != some c then s.toOffering l none
  else if k.windowSinceUp then s
  else s.updLink l fun k => { k with waiting := k.waiting ++ [.start] }

/-- ACCEPT_FRAME: a valid ACCEPT received from the unit; in OFFERING it is discarded (R113, R116, R118). -/
def execAcceptFrame (l : LinkId) (c : AcceptContent) (s : State) : Host.Outcome State Fault Refusal :=
  if !s.receives l then .next s
  else if !c.wf then .next (s.badFrame LinkCounters.crcError l)
  else
    let s := s.goodFrame l
    match (s.links[l]).state with
    | .acknowledging => .next (s.acceptInAcknowledging l c)
    | .up fixed => .next (s.acceptInUp l fixed c)
    | _ => .next s

/-! ## WINDOW frames -/

/-- The clamp of a duration field, and whether it acted (R17). -/
def clampDuration (d : Nat) : Nat × Bool :=
  if d < Config.durationLow then (Config.durationLow, true)
  else if Config.durationHigh < d then (Config.durationHigh, true)
  else (d, false)

/-- The links that are UP (R94). -/
def State.upSet (s : State) : Set4 :=
  BitVec.ofNat 4 (bitsOf (s.links.toList.map Link.isUp))

/-- The distance of an adjusted sequence from the assembly front (R90). -/
def Assembler.distance (w : Assembler) (s : Seq) : Nat := (s - w.front).toNat

/-- A frame placed in its buffer, in ascending order of adjusted sequence from the front (R91). -/
def insertFrame (front : Seq) (f : BufferedFrame) : List BufferedFrame → List BufferedFrame
  | [] => [f]
  | g :: rest =>
    if (f.seq - front).toNat < (g.seq - front).toNat then f :: g :: rest
    else g :: insertFrame front f rest

/-- A buffered frame enters the record at its sequence, or opens one with its D, OFF-FREQ mark, expected set
and deadline (R94, R95, R104). Records stand in the order in which they opened (assumption 52). -/
def Assembler.enter (l : LinkId) (seq : Seq) (duration : Nat) (up : Set4) (now allowance : Nat)
    (w : Assembler) : Assembler :=
  if w.records.any (·.seq == seq) then
    { w with
      records := w.records.map fun r =>
        if r.seq = seq then { r with arrived := r.arrived ||| only l } else r }
  else
    let d := clampDuration duration
    { w with
      records := w.records ++
        [{ seq := seq, firstArrival := now, duration := d.1, offFreq := d.2, expected := up ||| only l,
           arrived := only l, deadline := now + allowance }] }

/-- A frame in range is placed in its link's buffer; its lost-list entry ends and the error run becomes
0 (R91, R122). -/
def State.bufferFrame (l : LinkId) (seq : Seq) (f : WindowFrame) (s : State) : State :=
  let up := s.upSet
  let s := s.updWa fun w =>
    let b := insertFrame w.front ⟨seq, f⟩ w.buffers[l]
    { w with buffers := w.buffers.set l b }
  let s := s.updWa fun w =>
    w.enter l seq f.duration.toNat up s.timeBase s.cm.tables.contract.allowance
  s.updLink l fun k => { k with lost := k.lost.filter (· != seq), errorRun := 0 }

/-- The arrival of a WINDOW frame at the window assembler: in range, ahead or behind by its distance from
W (R90 to R95). -/
def State.windowArrives (l : LinkId) (f : WindowFrame) (s : State) : State :=
  let seq := f.seq + (s.links[l]).offset.getD 0
  let d := s.wa.distance seq
  if d ≤ 3 then
    if (s.wa.buffers[l]).any (·.seq == seq) then
      s.updCounters l fun c => { c with duplicates := countUp c.duplicates }
    else s.bufferFrame l seq f
  else if d ≤ 32767 then (s.pulse .linkError).enterBreaking l
  else s.updCounters l fun c => { c with late := countUp c.late }

/-- The frame matches the resolved profile of an UP link (R108). -/
def Link.matchesFrame (k : Link) (f : WindowFrame) : Bool :=
  match k.resolved with
  | none => false
  | some r => f.orders == r.profile.orders && f.channels == r.kinds.length

/-- The fixed descriptors of a LINKS entry, as content of the latched class (R115). -/
def LinkEntry.fixedContent (e : LinkEntry) (freq : FreqClass) : AcceptContent :=
  ⟨freq, .basic, e.fixedKinds.toList.take e.fixedCount⟩

/-- A valid WINDOW frame in OFFERING: with fixed format allowed it feeds the WINDOW run, and the third
fitting frame in sequence takes the link UP in fixed format and goes to the window assembler (R115). -/
def State.windowInOffering (l : LinkId) (f : WindowFrame) (s : State) : State :=
  let e := s.cm.tables.links[l]
  let k := s.links[l]
  if !e.fixedAllowed then s
  else if !(f.orders == 25 && f.channels == e.fixedCount) then
    s.updLink l fun k => { k with windowRun := 0, windowRunSeq := none }
  else
    let follows := match k.windowRunSeq with
      | some last => f.seq == last + 1
      | none => false
    let run := if (k.windowRun == 1 || k.windowRun == 2) && follows then k.windowRun + 1 else 1
    let s := s.updLink l fun k => { k with windowRun := run, windowRunSeq := some f.seq }
    if run < 3 then s
    else
      let s := s.enterUp l true (e.fixedContent s.straps.freq) (s.wa.front + 2 - f.seq)
      s.windowArrives l f

/-- WINDOW_FRAME: a valid WINDOW frame, handled by the link state (R115, R116, R118). One that is not well
formed, or on an UP link does not match the resolved profile, is invalid (R108). -/
def execWindowFrame (l : LinkId) (f : WindowFrame) (s : State) : Host.Outcome State Fault Refusal :=
  if !s.receives l then .next s
  else if !f.wf then .next (s.badFrame LinkCounters.crcError l)
  else
    match (s.links[l]).state with
    | .offering => .next ((s.goodFrame l).windowInOffering l f)
    | .up fixed =>
      if (s.links[l]).matchesFrame f then
        let s := (s.goodFrame l).updLink l fun k =>
          { k with windowSinceUp := k.windowSinceUp || !fixed }
        .next (s.windowArrives l f)
      else .next (s.badFrame LinkCounters.crcError l)
    | _ => .next (s.goodFrame l)

/-- INVALID_FRAME: an invalid frame is discarded and counted, and resets the runs (R107). -/
def execInvalidFrame (l : LinkId) (s : State) : Host.Outcome State Fault Refusal :=
  if s.receives l then .next (s.badFrame LinkCounters.crcError l) else .next s

/-- DAMAGED_WINDOW: in UP the frame is counted; a sequence in W..W+3 that is neither in the lost list nor
buffered joins the lost list, and a REPEAT naming the unit's own sequence is due. In OFFERING and
ACKNOWLEDGING it is an invalid frame like any other (R107, R121). -/
def execDamagedWindow (l : LinkId) (seq : Seq) (s : State) : Host.Outcome State Fault Refusal :=
  if !s.receives l then .next s
  else if !(s.links[l]).isUp then .next (s.badFrame LinkCounters.crcError l)
  else
    let s := s.updCounters l LinkCounters.crcError
    let adjusted := seq + (s.links[l]).offset.getD 0
    if s.wa.distance adjusted ≤ 3 ∧ adjusted ∉ (s.links[l]).lost ∧
        (s.wa.buffers[l]).all (fun b => b.seq != adjusted) then
      .next (s.updLink l fun k =>
        { k with lost := k.lost ++ [adjusted], waiting := k.waiting ++ [.again seq] })
    else .next s

/-- JABBER_CUT: the frame is cut and counted, LINK-ERROR pulses, the runs go back to 0, and the receive pair is
ignored until it has been idle for 1 ms (R109). -/
def execJabberCut (l : LinkId) (s : State) : Host.Outcome State Fault Refusal :=
  if !s.receives l then .next s
  else
    let s := s.badFrame (fun c => { c with jabberCuts := countUp c.jabberCuts }) l
    .next ((s.updLink l fun k => { k with ignoring := some Config.jabberIdle }).pulse .linkError)

/-- JABBER_IDLE_END: after a cut the line has been idle for 1 ms of the time base, and the next byte begins a
frame (R109, R110; assumption 18). -/
def execJabberIdleEnd (l : LinkId) (s : State) : Host.Outcome State Fault Refusal :=
  match (s.links[l]).ignoring with
  | none => .next s
  | some left =>
    if s.powered then .next ((s.advance left).updLink l fun k => { k with ignoring := none })
    else .next s

/-! ## Timers and the transmitter -/

/-- OFFER_SEND_PERIOD: the 20 ms period has passed in OFFERING, and OFFER is due again (R110, R113). -/
def execOfferSendPeriod (l : LinkId) (s : State) : Host.Outcome State Fault Refusal :=
  if s.powered && (s.links[l]).state == .offering then
    let s := s.advance ((s.links[l]).sendTimer.getD 0)
    let own := s.ownOffer l
    .next (s.updLink l (·.duePeriodic own))
  else .next s

/-- ACCEPT_SEND_PERIOD: the 20 ms period has passed in ACKNOWLEDGING, and ACCEPT carrying the candidate
is due again (R110, R116). -/
def execAcceptSendPeriod (l : LinkId) (s : State) : Host.Outcome State Fault Refusal :=
  match (s.links[l]).state, (s.links[l]).candidate with
  | .acknowledging, some c =>
    if s.powered then
      .next ((s.advance ((s.links[l]).sendTimer.getD 0)).updLink l (·.duePeriodic (.accept c)))
    else .next s
  | _, _ => .next s

/-- LINK_FRAME_SEND: the transmitter is free and the first waiting frame begins transmission. A START takes
its base W + 2 now, and a REPEAT is counted now (R110, R116, R125). While a frame is being sent the others
wait (R110). -/
def execLinkFrameSend (l : LinkId) (s : State) : Host.Outcome State Fault Refusal :=
  if !s.powered || (s.links[l]).sending.isSome then .next s
  else
    match (s.links[l]).waiting with
    | [] => .next s
    | t :: rest =>
      let front := s.wa.front
      let s := s.updLink l fun k => { k with waiting := rest, sending := some (t.bytes front) }
      match t with
      | .again _ =>
        .next (s.updCounters l fun c => { c with repeatsSent := countUp c.repeatsSent })
      | _ => .next s

/-- SILENCE_TIMER_EXPIRY: 600 ms have passed without a valid frame in ACKNOWLEDGING or UP, and the link
returns to OFFERING, leaving UP first (R117). -/
def execSilenceTimerExpiry (l : LinkId) (s : State) : Host.Outcome State Fault Refusal :=
  match (s.links[l]).silence with
  | none => .next s
  | some left =>
    if s.powered && ((s.links[l]).isUp || (s.links[l]).state == .acknowledging) then
      .next ((s.advance left).toOffering l none)
    else .next s

/-- BREAK_HOLD_EXPIRY: the break hold has passed and the link enters OFFERING (R119). -/
def execBreakHoldExpiry (l : LinkId) (s : State) : Host.Outcome State Fault Refusal :=
  match (s.links[l]).breakHold with
  | none => .next s
  | some left =>
    if s.powered && (s.links[l]).state == .breaking then
      .next ((s.advance left).enterOffering l none)
    else .next s

/-- ASSEMBLY_DEADLINE_EXPIRY: the time base reaches the deadline of the open record at a sequence, and the
record is ready (R96, R104). -/
def execAssemblyDeadlineExpiry (seq : Seq) (s : State) : Host.Outcome State Fault Refusal :=
  match s.wa.records.find? fun r => r.seq == seq with
  | none => .next s
  | some r => if s.powered then .next (s.advance (r.deadline - s.timeBase)) else .next s

end Sys2Proof.Machine
end

