-- ==== Sys2Proof/WellFormed.lean ====
section
/-! DEFINITION. The well-formed commands: what may stand in the operands of a row beyond their types. -/

namespace Sys2Proof

open Machine

/-- The bytes of a message-link frame as R204 lays it out: start byte, a length of at most 1,024, and as
many bytes as it names. Address, kind, tag, payload and check may be any. -/
def wholeFrame (bytes : List Byte) : Bool :=
  bytes.head? == some 0xA5 && decide (natAt bytes 4 2 ≤ Config.payloadLimit) &&
    bytes.length == 8 + natAt bytes 4 2

/-- A command whose operands are what its row can bring: a valid frame's content is well formed (R108,
R209), a message-link frame is whole (R204), and a stray byte is no start byte (R191). -/
def Instr.wf : Instr → Bool
  | .powerOnReset _ _ _ => true
  | .pinReset _ _ _ => true
  | .tkSecondsWrap => true
  | .intervalBoundary => true
  | .closeEventBegin => true
  | .pfwAssert => true
  | .pfwDeassert => true
  | .messageFrameReceived bytes => wholeFrame bytes
  | .framingError => true
  | .byteGapExpiry => true
  | .ident => true
  | .status => true
  | .clear => true
  | .timeSet => true
  | .timeGet => true
  | .tableGet => true
  | .tablePut => true
  | .accountRead => true
  | .windowPeek => true
  | .logInfo => true
  | .logRead => true
  | .logReadJobDone _ _ => true
  | .linkStatus => true
  | .linkRestart => true
  | .pointStatus => true
  | .pointSubstitute => true
  | .pointRestore => true
  | .preset => true
  | .mode => true
  | .lock => true
  | .unlock => true
  | .erase => true
  | .reset => true
  | .unknownRequestKind => true
  | .softResetProceed _ _ => true
  | .noticeTransmit => true
  | .offerFrame _ c => c.wf
  | .acceptFrame _ c => c.wf
  | .windowFrame _ f => f.wf
  | .invalidFrame _ => true
  | .damagedWindow _ _ => true
  | .jabberCut _ => true
  | .jabberIdleEnd _ => true
  | .offerSendPeriod _ => true
  | .acceptSendPeriod _ => true
  | .linkFrameSend _ => true
  | .silenceTimerExpiry _ => true
  | .breakHoldExpiry _ => true
  | .assemblyDeadlineExpiry _ => true
  | .takeWindow _ => true
  | .windowBoundary => true
  | .storeJobStart => true
  | .storeWriteAttemptDone _ => true
  | .patrolStepDue => true
  | .patrolReadDone _ => true
  | .lossOfSupply _ => true
  | .oscillatorStop => true
  | .strayByte b => b != 0xA5

end Sys2Proof
end

