-- ==== Sys2Proof/Decode.lean ====
section
/-! DEFINITION. From bits to commands: the opcode table gives no row any bits, so no word spells a command;
the bytes of an acquisition-link frame, as the receive pair brings them up to the idle gap, spell one of the
link rows (R107 to R109, R121, R208, R209). -/

namespace Sys2Proof

open Machine

/-- The command that a word of the opcode table spells: no row of the table gives bits. -/
def decodeTableWord (_nbits _w : Nat) : Option Instr := none

/-! ## Acquisition-link frames as received -/

/-- The frequency class of a code (R208). -/
def freqOf : Nat → Option FreqClass
  | 0 => some .hz50
  | 1 => some .hz60
  | _ => none

/-- The profile of a code in an ACCEPT (R208). -/
def profileOfCode : Nat → Option Profile
  | 0 => some .basic
  | 1 => some .extended
  | 2 => some .full
  | _ => none

/-- The kinds of `count` slots from their bits, `none` when a bit at or above the count is set, or the
count is not in 1..12 (R108, R208, R209). -/
def readKinds (count bits : Nat) : Option (List SlotKind) :=
  if channelsWf count ∧ bits < 2 ^ count then
    some ((List.range count).map fun c => if bitAt bits c then .current else .voltage)
  else none

/-- A well-formed OFFER payload (R108, R208, R209). -/
def readOffer (p : List Byte) : Option OfferContent :=
  let set := natAt p 1 1
  match freqOf (natAt p 0 1), readKinds (natAt p 2 1) (natAt p 3 2) with
  | some freq, some kinds =>
    if p.length = 5 ∧ 0 < set ∧ set < 8 then
      some
        { freq := freq
          profiles := { basic := bitAt set 0, extended := bitAt set 1, full := bitAt set 2 }
          kinds := kinds }
    else none
  | _, _ => none

/-- A well-formed ACCEPT payload (R108, R208, R209). -/
def readAccept (p : List Byte) : Option AcceptContent :=
  match freqOf (natAt p 0 1), profileOfCode (natAt p 1 1), readKinds (natAt p 2 1) (natAt p 3 2) with
  | some freq, some profile, some kinds =>
    if p.length = 5 then some { freq := freq, profile := profile, kinds := kinds } else none
  | _, _, _ => none

/-- The phasor blocks of a WINDOW payload, five bytes each; the high four bits of the exponent byte are
ignored (R203, R208). -/
def readBlocks : List Byte → List PhasorBlock
  | e :: r0 :: r1 :: i0 :: i1 :: rest =>
    { exponent := e.setWidth 4, re := BitVec.ofNat 16 (leNat [r0, r1])
      im := BitVec.ofNat 16 (leNat [i0, i1]) } :: readBlocks rest
  | _ => []

/-- The window header of a frame is intact: the kind byte reads WINDOW and the header check matches
(R108, R209). -/
def headerIntact (frame : List Byte) : Bool :=
  decide (15 ≤ frame.length) && natAt frame 0 1 == 4 &&
    crc16Bytes (frame.take 13) == field frame 13 2

/-- A well-formed WINDOW frame (R108, R208). -/
def readWindow (frame : List Byte) : Option WindowFrame :=
  let p := (frame.drop 3).take (natAt frame 1 2)
  let f : WindowFrame :=
    { seq := BitVec.ofNat 16 (natAt p 0 2), duration := BitVec.ofNat 32 (natAt p 2 4)
      orders := natAt p 6 1, channels := natAt p 7 1, inputs := BitVec.ofNat 16 (natAt p 8 2)
      blocks := readBlocks (p.drop 12) }
  if headerIntact frame ∧ p.length = 12 + 5 * (f.channels * f.orders) ∧ f.wf then some f else none

/-- The byte count agrees with the length field, and the CRC-32 is correct (R107). -/
def frameIntact (frame : List Byte) : Bool :=
  let n := frame.length
  decide (7 ≤ n) && n == 7 + natAt frame 1 2 && crc32Bytes (frame.take (n - 4)) == frame.drop (n - 4)

/-- The command that an intact frame is: an OFFER, an ACCEPT or a WINDOW that is well formed, and else an
invalid frame; START and REPEAT are kinds that the unit does not send (R107). -/
def readIntact (l : LinkId) (frame : List Byte) : Instr :=
  let p := (frame.drop 3).take (natAt frame 1 2)
  match natAt frame 0 1 with
  | 1 =>
    match readOffer p with
    | some c => .offerFrame l c
    | none => .invalidFrame l
  | 2 =>
    match readAccept p with
    | some c => .acceptFrame l c
    | none => .invalidFrame l
  | 4 =>
    match readWindow frame with
    | some f => .windowFrame l f
    | none => .invalidFrame l
  | _ => .invalidFrame l

/-- The command that the bytes received on link `l` up to an idle gap bring: a cut at 4,096 bytes, an intact
frame, a damaged WINDOW with an intact header, or an invalid frame (R107, R109, R121). -/
def readLinkFrame (l : LinkId) (frame : List Byte) : Instr :=
  if Config.jabberLimit ≤ frame.length then .jabberCut l
  else if frameIntact frame then readIntact l frame
  else if headerIntact frame then .damagedWindow l (BitVec.ofNat 16 (natAt frame 3 2))
  else .invalidFrame l

end Sys2Proof
end

