-- ==== Sys2Proof/Machine/Arith.lean ====
section
/-! DEFINITION. The exact arithmetic of one window (chapter 1): expansion, powers, point vector, account
contribution, classification and energy increments, and the shadow mean. -/

namespace Sys2Proof.Machine

/-- A window as the window assembler hands it on: the frames are those of the arrival set (R98, R100). -/
structure Window where
  seq : Seq
  duration : Nat
  offFreq : Bool
  frames : Vector (Option WindowFrame) 4
  deriving DecidableEq, Repr

/-- No link has handed a frame to the window: it is void (R100). -/
def Window.isVoid (w : Window) : Bool := w.frames.toList.all Option.isNone

/-- A phasor in expanded integer components (R3). -/
structure Phasor where
  re : Int
  im : Int
  deriving DecidableEq, Repr

/-! ## Stage 0 -/

/-- A mantissa times two to the exponent, the exponent clamped to 7 (R3). -/
def expand (exponent : BitVec 4) (mantissa : BitVec 16) : Int :=
  mantissa.toInt * 2 ^ min exponent.toNat Config.exponentLimit

/-- The phasor block of a slot and an order of a frame (R208). -/
def frameBlock (f : WindowFrame) (slot order : Nat) : PhasorBlock :=
  f.blocks.getD (slot * f.orders + (order - 1)) ⟨0, 0, 0⟩

/-- The block that a reference reads at an order in a window. -/
def Window.block (w : Window) (r : SlotRef) (order : Nat) : PhasorBlock :=
  match w.frames[r.link] with
  | some f => frameBlock f r.slot.val order
  | none => ⟨0, 0, 0⟩

/-- The expanded phasor of a reference at an order (R3). -/
def Window.phasor (w : Window) (r : SlotRef) (order : Nat) : Phasor :=
  let b := w.block r order
  ⟨expand b.exponent b.re, expand b.exponent b.im⟩

/-- The exponent of a reference at an order was clamped (R3). -/
def Window.clamped (w : Window) (r : SlotRef) (order : Nat) : Bool :=
  decide (Config.exponentLimit < (w.block r order).exponent.toNat)

/-- A used phase: its two references and its invert flag (R47). -/
structure UsedPhase where
  voltage : SlotRef
  current : SlotRef
  invert : Bool
  deriving DecidableEq, Repr

/-- The current phasor of a phase, negated when the invert flag is set (R4). -/
def UsedPhase.currentAt (φ : UsedPhase) (w : Window) (order : Nat) : Phasor :=
  let i := w.phasor φ.current order
  if φ.invert then ⟨-i.re, -i.im⟩ else i

/-- The voltage phasor of a phase (R4). -/
def UsedPhase.voltageAt (φ : UsedPhase) (w : Window) (order : Nat) : Phasor :=
  w.phasor φ.voltage order

/-! ## Stage 1 -/

/-- Active power of a phase and order (R6). -/
def UsedPhase.active (φ : UsedPhase) (w : Window) (order : Nat) : Int :=
  let v := φ.voltageAt w order
  let i := φ.currentAt w order
  v.re * i.re + v.im * i.im

/-- Reactive power of a phase and order (R6). -/
def UsedPhase.reactive (φ : UsedPhase) (w : Window) (order : Nat) : Int :=
  let v := φ.voltageAt w order
  let i := φ.currentAt w order
  v.im * i.re - v.re * i.im

/-- The squared magnitude of a phasor (R7). -/
def Phasor.sq (p : Phasor) : Int := p.re * p.re + p.im * p.im

/-- The orders from `lo` to `hi`. -/
def ordersIn (lo hi : Nat) : List Nat := (List.range (hi + 1 - lo)).map (· + lo)

/-- |V1|² of a phase (R7). -/
def UsedPhase.v1 (φ : UsedPhase) (w : Window) : Int := (φ.voltageAt w 1).sq

/-- |I1|² of a phase (R7). -/
def UsedPhase.i1 (φ : UsedPhase) (w : Window) : Int := (φ.currentAt w 1).sq

/-- The harmonic current sum of a phase over orders 2..H_p (R7). -/
def UsedPhase.harmonics (φ : UsedPhase) (w : Window) (top : Nat) : Int :=
  ((ordersIn 2 top).map fun h => (φ.currentAt w h).sq).sum

/-! ## Stage 2 -/

/-- The phases of an entry whose references are both present (R47). -/
def PointEntry.used (e : PointEntry) : List UsedPhase :=
  e.phases.toList.filterMap fun p =>
    match p.voltage, p.current with
    | some v, some i => some ⟨v, i, p.invert⟩
    | _, _ => none

/-- The active power of a band over the orders up to `top`; an unconfigured band gives 0 (R8). -/
def bandActive (used : List UsedPhase) (w : Window) (top : Nat) : Option Band → Int
  | none => 0
  | some b => (used.map fun φ => ((ordersIn b.lo (min b.hi top)).map (φ.active w)).sum).sum

/-- The direct vector formed from a window's phasors, orders 1..`top` (R5, R8). -/
def directVector (used : List UsedPhase) (bands : Vector (Option Band) 8) (w : Window) (top : Nat) :
    PointVector :=
  { p1 := (used.map fun φ => φ.active w 1).sum
    q1 := (used.map fun φ => φ.reactive w 1).sum
    qh := (used.map fun φ => ((ordersIn 2 top).map (φ.reactive w)).sum).sum
    pb := Vector.ofFn fun b => bandActive used w top bands[b] }

/-- The sum of two vectors, value by value (R9, R11). -/
def PointVector.add (a b : PointVector) : PointVector :=
  { p1 := a.p1 + b.p1, q1 := a.q1 + b.q1, qh := a.qh + b.qh
    pb := Vector.ofFn fun i => a.pb[i] + b.pb[i] }

/-- A vector with the sign of a term (R9, R11). -/
def PointVector.signed (negative : Bool) (a : PointVector) : PointVector :=
  if negative then
    { p1 := -a.p1, q1 := -a.q1, qh := -a.qh, pb := Vector.ofFn fun i => -a.pb[i] }
  else a

/-- The signed sum of the vectors that terms name (R9, R11). -/
def sumTerms (vector : PointId → PointVector) (terms : List Term) : PointVector :=
  terms.foldr (fun t acc => ((vector t.point).signed t.negative).add acc) PointVector.zero

/-! ## Stage 4 -/

/-- The register chosen for Q1 by the quadrant of the net pair (R2, R14, R15). -/
def quadrant (p q : Int) : Fin 24 :=
  if 0 ≤ q then (if 0 ≤ p then 2 else 3) else (if p < 0 then 4 else 5)

/-- The chosen registers of a window with the magnitude that each receives (R14, R15). -/
def chosen (bands : Vector (Option Band) 8) (v : PointVector) : List (Fin 24 × Nat) :=
  [(if 0 ≤ v.p1 then 0 else 1, v.p1.natAbs), (quadrant v.p1 v.q1, v.q1.natAbs),
    (if 0 ≤ v.qh then 6 else 7, v.qh.natAbs)] ++
  (List.finRange 8).filterMap fun b =>
    match bands[b] with
    | none => none
    | some _ =>
      some (⟨(if 0 ≤ v.pb[b] then 8 else 16) + b.val, by split <;> omega⟩, (v.pb[b]).natAbs)

/-! ## Stage 5 -/

/-- total = |X| × D + r (R18). -/
def energyTotal (magnitude duration residue : Nat) : Nat := magnitude * duration + residue

/-- One chosen register of an open interval receives its increment, cut at the limit, and its new residue
(R18, R30). -/
def applyEnergy (duration : Nat) (iv : Interval) (residues : Vector Nat 24) (c : Fin 24 × Nat) :
    Interval × Vector Nat 24 :=
  let total := energyTotal c.2 duration residues[c.1]
  let i : Fin 25 := c.1.castSucc
  let sum := iv.partials[i] + total / Config.energyUnit
  ({ iv with
      partials := iv.partials.set i (min sum u64Max)
      clamped := if u64Max < sum then iv.clamped.set i true else iv.clamped },
    residues.set c.1 (total % Config.energyUnit))

/-- All chosen registers of a window, one after the other (R18, R19, R21). -/
def applyAll (duration : Nat) :
    List (Fin 24 × Nat) → Interval × Vector Nat 24 → Interval × Vector Nat 24
  | [], x => x
  | c :: rest, x => applyAll duration rest (applyEnergy duration x.1 x.2 c)

/-- The counts of a window in an interval; at 4,294,967,295 windows they stand (R29). -/
def WindowCounts.count (r : AccountWindow) (c : WindowCounts) : WindowCounts :=
  let one (b : Bool) (n : Nat) : Nat := if b then n + 1 else n
  { total := c.total + 1
    good := one (r.status == .fresh) c.good
    held := one (r.status == .held) c.held
    missing := one (r.status == .missing) c.missing
    transfer := one r.transfer c.transfer
    offFreq := one r.offFreq c.offFreq
    partialOrders := one r.partialOrders c.partialOrders
    suspect := one r.suspect c.suspect
    undefinedTopology := one r.undefTopo c.undefinedTopology
    substituted := one r.substituted c.substituted }

/-- The set with map `m` in it. -/
def withMap (m : MapId) (maps : Set4) : Set4 := maps ||| BitVec.twoPow 4 m.val

/-- The window enters the counts and the maps-used set of an interval (R29). -/
def Interval.count (map : MapId) (r : AccountWindow) (iv : Interval) : Interval :=
  if u32Max ≤ iv.counts.total then iv
  else { iv with counts := iv.counts.count r, maps := withMap map iv.maps }

/-- The results of one window applied to an account as one whole, when it is OPEN (R22, R29, R30). -/
def Account.applyWindow (bands : Vector (Option Band) 8) (duration : Nat) (map : MapId)
    (r : AccountWindow) (acc : Account) : Account :=
  match acc.interval with
  | none => acc
  | some iv =>
    let x := applyAll duration (chosen bands r.vector) (iv.count map r, acc.residues)
    { acc with interval := some x.1, residues := x.2 }

/-! ## The shadow mean -/

/-- A mean of a shadow period, rounded toward zero; 0 when the count is 0 (R23). -/
def shadowMean (sum : Int) (count : Nat) : Int := if count = 0 then 0 else sum.tdiv count

end Sys2Proof.Machine
end

