-- ==== Sys2Proof/Machine/Points.lean ====
section
/-! DEFINITION. The point stage (chapter 3): delivery, order count, presence, health, direct status and
hold, substitutes, modes and shadow periods, and the requests that change a point's mode. -/

namespace Sys2Proof.Machine

/-- The channel descriptors of a link, empty when it is not UP (R52, R112). -/
def Link.descriptors (k : Link) : List SlotKind :=
  match k.resolved with
  | some r => r.kinds
  | none => []

/-- The references of used phases with the kind that each asks for (R52). -/
def references (used : List UsedPhase) : List (SlotRef × SlotKind) :=
  used.flatMap fun φ => [(φ.voltage, .voltage), (φ.current, .current)]

/-- Why a point is not delivered, `none` when it is: the first condition of R52, in its order, that some
reference fails. -/
def missReason (links : Vector Link 4) (w : Window) (used : List UsedPhase) : Option MissReason :=
  let refs := references used
  if refs.any fun r => (w.frames[r.1.link]).isNone then some .noFrame
  else if refs.any fun r => (links[r.1.link]).descriptors.length ≤ r.1.slot.val then some .slotRange
  else if refs.any fun r => (links[r.1.link]).descriptors[r.1.slot.val]? != some r.2 then some .kind
  else none

/-- The order counts of the profiles of the links that references name, `none` where one of them has no
resolved profile (R53). -/
def profileOrders (links : Vector Link 4) : List (SlotRef × SlotKind) → Option (List Nat)
  | [] => some []
  | r :: rest =>
    match (links[r.1.link]).resolved, profileOrders links rest with
    | some c, some hs => some (c.profile.orders :: hs)
    | _, _ => none

/-- H_p for a window (R53). -/
def orderCount (links : Vector Link 4) (used : List UsedPhase) (previous : Nat) : Nat :=
  if used.isEmpty then 50
  else
    match profileOrders links (references used) with
    | some (h :: hs) => hs.foldl min h
    | _ => previous

/-- t_dead of an entry (R56). -/
def PointEntry.deadThreshold (e : PointEntry) : Int := e.un * e.deadPct / 100

/-- t_live of an entry (R56). -/
def PointEntry.liveThreshold (e : PointEntry) : Int := e.un * e.livePct / 100

/-- The presence of a delivered point with used phases, from the squares of the voltages (R56). -/
def presence (e : PointEntry) (voltages : List Int) (before : Bool) : Bool :=
  if voltages.all fun v => e.liveThreshold ^ 2 ≤ v then true
  else if voltages.all fun v => v < e.deadThreshold ^ 2 then false
  else before

/-- The four health tests of a tested window (R58). -/
def healthTests (e : PointEntry) (used : List UsedPhase) (w : Window) (top : Nat) (v : PointVector) :
    FailedTests :=
  let volts := used.map fun φ => φ.v1 w
  { t1 := volts.any (fun x => x < e.deadThreshold ^ 2) &&
      volts.any (fun x => e.liveThreshold ^ 2 ≤ x)
    t2 := e.importOnly && decide (v.p1 < 0) && decide (v.q1 ^ 2 < 3 * v.p1 ^ 2) &&
      decide ((e.apparentFloor : Int) ^ 2 ≤ v.p1 ^ 2 + v.q1 ^ 2)
    t3 := used.any fun φ =>
      decide (4 * φ.i1 w < φ.harmonics w top) && decide ((e.currentFloor : Int) ^ 2 ≤ φ.i1 w)
    t4 := used.any fun φ => (ordersIn 1 top).any fun h =>
      w.clamped φ.voltage h || w.clamped φ.current h }

/-- Whether some test failed (R59). -/
def FailedTests.any (t : FailedTests) : Bool := t.t1 || t.t2 || t.t3 || t.t4

/-- The health counter after a tested window (R59). -/
def healthCount (limit : Nat) (failed : Bool) (counter : Nat) : Nat :=
  if failed then min (counter + 4) limit else counter - 1

/-- The health state from the counter: true is FAULT (R60). -/
def healthState (t : HealthTable) (counter : Nat) (before : Bool) : Bool :=
  if t.fault ≤ counter then true else if counter ≤ t.clear then false else before

/-- What the point stage finds directly of one point in one window: its runtime state before mode changes,
its direct vector and status, and whether it entered FAULT (R51). -/
structure Direct where
  point : Point
  vector : PointVector
  status : Status
  enteredFault : Bool
  deriving DecidableEq, Repr

/-- A delivered point: presence, tests in a tested window, FRESH, and the last-good vector (R54 to R60). -/
def deliveredPoint (t : Tables) (w : Window) (e : PointEntry) (p : Point) : Direct :=
  let used := e.used
  let live := if used.isEmpty then p.live else presence e (used.map fun φ => φ.v1 w) p.live
  let vector := if live then directVector used t.bands w p.orders else PointVector.zero
  let p := { p with live := live, lastStatus := some .fresh, hold := 0, lastGood := some vector }
  if live && !used.isEmpty then
    let tests := healthTests e used w p.orders vector
    let health := healthCount t.health.limit tests.any p.health
    let fault := healthState t.health health p.fault
    ⟨{ p with health := health, fault := fault, failed := tests }, vector, .fresh, fault && !p.fault⟩
  else ⟨p, vector, .fresh, false⟩

/-- A point that is not delivered: HELD on its last-good vector while the hold lasts, else MISSING with the
zero vector (R54, R55). -/
def missedPoint (t : Tables) (p : Point) : Direct :=
  match p.lastGood with
  | some v =>
    if p.hold < t.contract.holdLimit then
      ⟨{ p with lastStatus := some .held, hold := p.hold + 1 }, v, .held, false⟩
    else ⟨{ p with lastStatus := some .missing }, PointVector.zero, .missing, false⟩
  | none => ⟨{ p with lastStatus := some .missing }, PointVector.zero, .missing, false⟩

/-- The direct results of one point in one window (R52 to R60). -/
def directPoint (t : Tables) (links : Vector Link 4) (w : Window) (e : PointEntry) (p : Point) :
    Direct :=
  let used := e.used
  let p := { p with orders := orderCount links used p.orders }
  match missReason links w used with
  | none => deliveredPoint t w e (if used.isEmpty then { p with missReason := none } else p)
  | some reason => missedPoint t { p with missReason := some reason }

/-- The worse of two statuses (R61). -/
def Status.worse : Status → Status → Status
  | .missing, _ => .missing
  | _, .missing => .missing
  | .held, _ => .held
  | _, .held => .held
  | .fresh, .fresh => .fresh

/-- The worst status of the points that terms name; FRESH for no term (R27, R61). -/
def worstStatus (status : PointId → Status) (terms : List Term) : Status :=
  terms.foldr (fun t acc => (status t.point).worse acc) .fresh

/-- The substitute vector and status of a point, from the direct results of all points (R61). -/
def substituteOf (ds : Vector Direct 16) : Substitute → Option (PointVector × Status)
  | .none => none
  | .alternate q => some ((ds[q]).vector, (ds[q]).status)
  | .derived terms =>
    some (sumTerms (fun q => (ds[q]).vector) terms, worstStatus (fun q => (ds[q]).status) terms)

/-- What a point hands to the accounts, by its mode when the window begins (R62). -/
def effective (ds : Vector Direct 16) (e : PointEntry) (p : PointId) : PointVector × Status :=
  let own := ((ds[p]).vector, (ds[p]).status)
  match (ds[p]).point.mode with
  | .substituted => (substituteOf ds e.substitute).getD own
  | _ => own

/-- The shadow comparison of one window; a void window counts toward the period alone (R23, R64). -/
def Shadow.step (void : Bool) (own : PointVector × Status) (sub : Option (PointVector × Status))
    (sh : Shadow) : Shadow :=
  let sh := { sh with windows := sh.windows + 1 }
  match sub with
  | none => sh
  | some (v, st) =>
    if void = false ∧ own.2 = .fresh ∧ st = .fresh then
      { sh with
        comparisons := sh.comparisons + 1
        p1Sum := sh.p1Sum + (v.p1 - own.1.p1)
        q1Sum := sh.q1Sum + (v.q1 - own.1.q1) }
    else sh

/-- A point and its stored values after the mode changes of a window: automatic substitution on entry
into FAULT, else the shadow comparison and the end of the period (R64, R65, R67). -/
def settleMode (w : Window) (e : PointEntry) (d : Direct) (sub : Option (PointVector × Status))
    (stored : PointStored) : Point × PointStored :=
  let p := d.point
  if d.enteredFault && e.autoSub && p.mode != .substituted then
    ({ p with mode := .substituted, shadow := none }, { stored with substituted := true })
  else
    match p.mode, p.shadow with
    | .shadow, some sh =>
      let sh := sh.step w.isVoid (d.vector, d.status) sub
      if sh.period ≤ sh.windows then
        ({ p with mode := .substituted, shadow := none },
          { substituted := true
            shadowResult := some
              { p1Mean := shadowMean sh.p1Sum sh.comparisons
                q1Mean := shadowMean sh.q1Sum sh.comparisons
                seq := w.seq } })
      else ({ p with shadow := some sh }, stored)
    | _, _ => (p, stored)

/-- The stored values replaced; a change of them queues one write of the POINTS block (R67). -/
def State.storePoints (stored : Vector PointStored 16) (s : State) : State :=
  if stored = s.cm.stored then s
  else (s.updCm fun c => { c with stored := stored }).handConfig .points

/-- The direct results of all sixteen points (R51). -/
def State.directs (w : Window) (s : State) : Vector Direct 16 :=
  Vector.ofFn fun p => directPoint s.cm.tables s.links w s.cm.tables.points[p] s.points[p]

/-- The point stage's own state after a window: WINDOW-GAP, the new runtime states, the stored modes and
results, and the level sources (R51, R64 to R68). -/
def State.settlePoints (w : Window) (ds : Vector Direct 16) (s : State) : State :=
  let gap := (List.finRange 16).any fun p =>
    (ds[p]).status == .missing && !(s.cm.tables.points[p]).used.isEmpty
  let after : Vector (Point × PointStored) 16 := Vector.ofFn fun p =>
    settleMode w s.cm.tables.points[p] ds[p]
      (substituteOf ds (s.cm.tables.points[p]).substitute) s.cm.stored[p]
  let s := if gap then s.pulse .windowGap else s
  let s := { s with points := Vector.ofFn fun p => (after[p]).1 }
  (s.storePoints (Vector.ofFn fun p => (after[p]).2)).givePointLevels

/-! ## Mode requests and applied changes -/

/-- Point `p` changed. -/
def State.updPoint (p : PointId) (f : Point → Point) (s : State) : State :=
  { s with points := s.points.set p (f s.points[p]) }

/-- The stored mode of point `p` as its mode now stands (R67). -/
def State.storeMode (p : PointId) (s : State) : State :=
  s.storePoints (s.cm.stored.set p
    { s.cm.stored[p] with substituted := (s.points[p]).mode == .substituted })

/-- Point `p` enters SHADOW (R63). -/
def State.enterShadow (p : PointId) (s : State) : State :=
  (s.updPoint p fun q =>
    { q with
      mode := .shadow
      shadow := some
        { windows := 0, period := s.cm.tables.contract.shadowPeriod, comparisons := 0, p1Sum := 0,
          q1Sum := 0 } }).givePointLevels

/-- Point `p` returns to DIRECT, a shadow abandoned with no result (R50, R66). -/
def State.toDirect (p : PointId) (s : State) : State :=
  ((s.updPoint p fun q => { q with mode := .direct, shadow := none }).storeMode p).givePointLevels

/-- The runtime state of a point when a change alters a reference or an invert flag (R50). -/
def Point.forget (p : Point) : Point :=
  { p with
    lastGood := none, hold := 0, live := false, health := 0, fault := false
    failed := { t1 := false, t2 := false, t3 := false, t4 := false } }

/-- The adjustment of a point to an applied change of its entry (R50). H_p and the miss reason stay until the
next processed window, with an entry made empty too (assumption 50). -/
def State.adjustPoint (p : PointId) (old new : PointEntry) (s : State) : State :=
  let s := if old.phases = new.phases then s else (s.updPoint p Point.forget).givePointLevels
  if old.substitute = new.substitute then s
  else
    match (s.points[p]).mode with
    | .shadow => s.toDirect p
    | .substituted => if new.substitute = .none then s.toDirect p else s
    | .direct => s

/-- One point under an applied HEALTH change: the counter clamped to the new limit, the state evaluated
again, and automatic substitution on entry into FAULT (R60, R65). -/
def adjustHealth (t : HealthTable) (e : PointEntry) (p : Point) (stored : PointStored) :
    Point × PointStored :=
  let health := min p.health t.limit
  let fault := healthState t health p.fault
  let q := { p with health := health, fault := fault }
  if fault && !p.fault && e.autoSub && p.mode != .substituted then
    ({ q with mode := .substituted, shadow := none }, { stored with substituted := true })
  else (q, stored)

/-- The adjustment of every point to an applied HEALTH change (R60, R65, R68). -/
def State.healthChanged (s : State) : State :=
  let after : Vector (Point × PointStored) 16 := Vector.ofFn fun p =>
    adjustHealth s.cm.tables.health s.cm.tables.points[p] s.points[p] s.cm.stored[p]
  let s := { s with points := Vector.ofFn fun p => (after[p]).1 }
  (s.storePoints (Vector.ofFn fun p => (after[p]).2)).givePointLevels

end Sys2Proof.Machine
end

