-- ==== Sys2Proof/Machine/Topology.lean ====
section
/-! DEFINITION. The topology resolver (chapter 4): breaker reports, effective breaker states, the
selection of the map in force, and the adjustment to an applied BREAKERS change. -/

namespace Sys2Proof.Machine

/-! ## Breakers -/

/-- The report of a breaker in one window, from the two contact bits of its input pair (R72, R208): bit 2p
is the first contact of pair p and bit 2p + 1 the second. -/
def breakerReport (w : Window) (r : BreakerRef) : Report :=
  match w.frames[r.link] with
  | none => .noReport
  | some f =>
    match f.inputs.getLsbD (2 * r.pair.val), f.inputs.getLsbD (2 * r.pair.val + 1) with
    | true, false => .closed
    | false, true => .opened
    | _, _ => .disagree

/-- An unclean report raises the settle count up to S, at which the breaker is UNKNOWN (R74). -/
def Breaker.unclean (settle : Nat) (r : Report) (b : Breaker) : Breaker :=
  let n := if b.settle < settle then b.settle + 1 else b.settle
  { state := if settle ≤ n then .unknown else b.state, settle := n, lastReport := some r }

/-- The update of a used breaker from its report (R74). -/
def Breaker.update (settle : Nat) (r : Report) (b : Breaker) : Breaker :=
  match r with
  | .closed => { state := .closed, settle := 0, lastReport := some .closed }
  | .opened => { state := .opened, settle := 0, lastReport := some .opened }
  | r => b.unclean settle r

/-- The eight breakers after a window's reports; an unused breaker stays as after reset (R73, R74). -/
def updateBreakers (t : BreakersTable) (w : Window) (bs : Vector Breaker 8) : Vector Breaker 8 :=
  Vector.ofFn fun b =>
    match t.entries[b] with
    | none => Breaker.reset
    | some r => (bs[b]).update t.settle (breakerReport w r)

/-! ## Selection -/

/-- An effective breaker state meets a required one; UNKNOWN meets none (R77). -/
def BreakerState.meets (required : Position) (s : BreakerState) : Bool :=
  match required, s with
  | .closed, .closed => true
  | .opened, .opened => true
  | _, _ => false

/-- A topology entry matches: it is valid and every breaker in its mask meets its required state (R77). -/
def TopologyEntry.matchesStates (e : TopologyEntry) (bs : Vector Breaker 8) : Bool :=
  e.valid && (List.finRange 8).all fun b =>
    match e.required[b] with
    | none => true
    | some p => (bs[b]).state.meets p

/-- The first entry, in the order 0 to 3, that matches (R77). -/
def firstMatch (t : Vector TopologyEntry 4) (bs : Vector Breaker 8) : Option MapId :=
  (List.finRange 4).find? fun m => (t[m]).matchesStates bs

/-- The resolver after one processed window: breakers, then the map, held when no entry matches, and
TRANSFER when it differs from the map before (R74, R77 to R80). -/
def Resolver.resolve (t : Tables) (w : Window) (tr : Resolver) : Resolver :=
  let bs := updateBreakers t.breakers w tr.breakers
  let found := firstMatch t.topology bs
  let map := found.getD tr.map
  { breakers := bs, map := map, matched := found.isSome, transfer := map != tr.map }

/-- The topology resolver resolves a window, and drives its three condition sources (R79, R85). -/
def State.resolveTopology (w : Window) (s : State) : State :=
  let s := { s with tr := s.tr.resolve s.cm.tables w }
  let s := if s.tr.transfer then s.pulse .transfer else s
  (s.level .topologyUndefined (!s.tr.matched)).giveBreakerUnknown

/-! ## Applied changes -/

/-- A breaker under an applied change of its entry (R75). -/
def adjustEntry (old new : Option BreakerRef) (b : Breaker) : Breaker :=
  if old = new then b else Breaker.reset

/-- A used breaker under a new settle limit (R75). -/
def adjustSettle (new : Nat) (entry : Option BreakerRef) (b : Breaker) : Breaker :=
  if entry.isSome ∧ new ≤ b.settle then { b with state := .unknown } else b

/-- The adjustment of the resolver to an applied BREAKERS change, whose table is in force by now; the map is
not selected again (R75, R85). -/
def State.breakersChanged (old : BreakersTable) (s : State) : State :=
  let new := s.cm.tables.breakers
  let bs : Vector Breaker 8 := Vector.ofFn fun b =>
    let x := adjustEntry old.entries[b] new.entries[b] s.tr.breakers[b]
    if old.settle = new.settle then x else adjustSettle new.settle new.entries[b] x
  ({ s with tr := { s.tr with breakers := bs } }).giveBreakerUnknown

end Sys2Proof.Machine
end

