-- ==== Sys2Proof/Machine/Windows.lean ====
section
/-! DEFINITION. Taking windows and processing them (R97 to R103): the point stage, the topology
resolver, the power arithmetic unit, and the results that the interval accountant applies. -/

namespace Sys2Proof.Machine

/-! ## The take -/

/-- An open record is ready: its expected set is covered, or its deadline has expired (R96). -/
def AssemblyRecord.ready (now : Nat) (r : AssemblyRecord) : Bool :=
  (r.expected &&& ~~~r.arrived) == 0 || decide (r.deadline ≤ now)

/-- The window at W as it stands: with the content of its record, or void (R98, R100). The frames
handed on are those of the arrival set. -/
def Assembler.windowAt (w : Assembler) : Window :=
  match w.records.find? fun r => r.seq == w.front with
  | none =>
    { seq := w.front, duration := Config.voidDuration, offFreq := false, frames := Vector.replicate 4 none }
  | some r =>
    { seq := w.front, duration := r.duration, offFreq := r.offFreq
      frames := Vector.ofFn fun l =>
        if r.arrived.getLsbD l.val then
          ((w.buffers[l]).find? fun b => b.seq == w.front).map (·.frame)
        else none }

/-- The removals of a take: the record at W, every frame of W, and W rises by 1 (R98). -/
def Assembler.take (w : Assembler) : Assembler :=
  { w with
    front := w.front + 1
    records := w.records.filter fun r => r.seq != w.front
    buffers := Vector.ofFn fun l => (w.buffers[l]).filter fun b => b.seq != w.front }

/-- The report of a take to one link: an entry of its lost list ends and the error run rises; at 3 the
link enters BREAKING with LINK-ERROR (R98, R122). -/
def State.reportTake (seq : Seq) (l : LinkId) (s : State) : State :=
  if seq ∈ (s.links[l]).lost then
    let run := (s.links[l]).errorRun + 1
    let s := s.updLink l fun k => { k with lost := k.lost.filter (· != seq), errorRun := run }
    if 3 ≤ run then (s.pulse .linkError).enterBreaking l else s
  else s

/-- The report of a take to every link whose lost list holds its sequence (R98). -/
def State.reportTakes (seq : Seq) : List LinkId → State → State
  | [], s => s
  | l :: rest, s => State.reportTakes seq rest (s.reportTake seq l)

/-! ## Processing -/

/-- The highest order of any configured band (R28). -/
def highestOrder (bands : Vector (Option Band) 8) : Nat :=
  bands.toList.foldl (fun n b => match b with
    | none => n
    | some b => max n b.hi) 0

/-- The status and flags of one account for one window, with its contribution: the terms are those of the
account in the map in force, and a point's mode is the one that it had when the window began
(R11, R27, R28, R62), with an empty entry in SUBSTITUTED too (assumption 59). -/
def accountWindow (t : Tables) (ds : Vector Direct 16) (tr : Resolver) (offFreq : Bool)
    (a : AccountId) : AccountWindow :=
  let terms := (t.composition[tr.map])[a]
  let eff := fun p : PointId => effective ds t.points[p] p
  let top := highestOrder t.bands
  { vector := sumTerms (fun p => (eff p).1) terms
    status := worstStatus (fun p => (eff p).2) terms
    transfer := tr.transfer
    offFreq := offFreq
    partialOrders := terms.any fun x => decide ((ds[x.point]).point.orders < top)
    suspect := terms.any fun x =>
      (ds[x.point]).point.mode != .substituted && (ds[x.point]).point.fault
    undefTopo := !tr.matched
    substituted := terms.any fun x => (ds[x.point]).point.mode == .substituted }

/-- The last-contribution record of an account (R12). -/
def contribution (w : Window) (map : MapId) (mode : DeviceMode) (r : AccountWindow) : Contribution :=
  { seq := w.seq, map := map, duration := w.duration, offFreq := w.offFreq, mode := mode
    vector := r.vector }

/-- The interval accountant applies a window's results to every OPEN account, in METERING (R20, R29, R30). -/
def State.applyResults (p : Processing) (s : State) : State :=
  match p.results with
  | none => s
  | some results =>
    if s.cm.mode = .metering then
      s.updIa fun ia =>
        { ia with
          accounts := Vector.ofFn fun a =>
            (ia.accounts[a]).applyWindow s.cm.tables.bands p.duration p.map results[a] }
    else s

/-- A handed-on window at the point stage, the topology resolver and the power arithmetic unit; its results
then stand for the interval accountant (R51, R81, R99). -/
def State.process (w : Window) (s : State) : State :=
  let ds := s.directs w
  let s := s.resolveTopology w
  let results : Vector AccountWindow 8 := Vector.ofFn fun a =>
    accountWindow s.cm.tables ds s.tr w.offFreq a
  let s := { s with pau := Vector.ofFn fun a => some (contribution w s.tr.map s.cm.mode results[a]) }
  let s := s.settlePoints w ds
  s.updWa fun x =>
    { x with
      processing :=
        some { seq := w.seq, duration := w.duration, map := s.tr.map, results := some results } }

/-- The interval accountant applies the results of the window in processing, if it has not yet; while
events wait for record places, and during the wait of a soft reset, it applies none (R22, R35, R133,
R181). -/
def State.applyProcessing (s : State) : State :=
  match s.wa.processing with
  | none => s
  | some p =>
    if s.ia.waiting.isEmpty && s.sm.state == .normal && !s.rsc.halted && !s.mlc.resetTaken then
      (s.applyResults p).updWa fun w => { w with processing := some { p with results := none } }
    else s

/-- A window may be taken: some open record is ready, no window is in processing, no walk of the change queue
is in progress, and, where windows are handed on, no close event waits (R97, R133, R159). -/
def State.canTake (s : State) : Bool :=
  s.powered && s.wa.processing.isNone && !s.cm.walking && s.wa.records.any (·.ready s.timeBase) &&
    (s.ia.waiting.isEmpty || s.sm.state != .normal || s.rsc.halted)

/-- TAKE_WINDOW: the window at W is taken as it stands. While the supply monitor is not NORMAL or the part
is HALTED it is discarded, else it is handed on and processed; `applied` says that the interval accountant
applies its results within this step (R97 to R103). The take is reported to the links before the window is
processed (assumption 51). -/
def execTakeWindow (applied : Bool) (s : State) : Host.Outcome State Fault Refusal :=
  if !s.canTake then .next s
  else
    let w := s.wa.windowAt
    let s := (s.updWa Assembler.take).reportTakes w.seq (List.finRange 4)
    if s.sm.state != .normal || s.rsc.halted then .next s
    else
      let s := s.process w
      .next (if applied then s.applyProcessing else s)

end Sys2Proof.Machine
end

