-- ==== Sys2Proof/Machine/Manager.lean ====
section
/-! DEFINITION. The configuration manager at the window boundary (chapter 8): validity of a table entry,
the accounts that an entry touches, the walk of the change queue, and the application of each kind. -/

namespace Sys2Proof.Machine

/-! ## Table entries -/

/-- The table that a part belongs to (R157). -/
def TablePart.table : TablePart → TableId
  | .links _ _ => .links
  | .points _ _ => .points
  | .breaker _ _ => .breakers
  | .settle _ => .breakers
  | .topology _ _ => .topology
  | .composition _ _ _ => .composition
  | .bands _ _ => .bands
  | .contract _ => .contract
  | .health _ => .health
  | .notice _ => .notice
  | .patrol _ => .patrol

/-- A value lies in `lo..hi`. -/
def within (lo hi n : Nat) : Bool := decide (lo ≤ n ∧ n ≤ hi)

/-- A phase has both references or neither (R48). -/
def PhaseRefs.paired (p : PhaseRefs) : Bool := p.voltage.isSome == p.current.isSome

/-- The number of terms of a substitute is in range (R47). -/
def Substitute.inRange : Substitute → Bool
  | .derived terms => within 1 4 terms.length
  | _ => true

/-- A POINTS entry has its fields in range, its phases paired, and dead % below live % (R47, R48). -/
def PointEntry.inRange (e : PointEntry) : Bool :=
  within 1 4194304 e.un && within 0 99 e.deadPct && within 1 100 e.livePct &&
    within 0 4194304 e.currentFloor && within 0 140737488355328 e.apparentFloor &&
    e.substitute.inRange && e.phases.toList.all PhaseRefs.paired && decide (e.deadPct < e.livePct)

/-- The five values of a CONTRACT table are in range (R154). -/
def ContractTable.inRange (t : ContractTable) : Bool :=
  [5, 10, 15, 30, 60].contains t.minutes && within 0 2048 t.ratio && within 0 10 t.holdLimit &&
    within 20 400 t.allowance && within 10 3000 t.shadowPeriod

/-- Every field of an entry lies in its range (R156 step 1; R47, R48, R71, R76, R83, R111, R153 to
R155). Numbers of tables, entries, links, slots and points are in range by their types. -/
def TablePart.inRange : TablePart → Bool
  | .links _ e => within 1 12 e.fixedCount
  | .points _ e => e.inRange
  | .breaker _ _ => true
  | .settle n => within 1 100 n
  | .topology _ _ => true
  | .composition _ _ terms => decide (terms.length ≤ 8)
  | .bands _ none => true
  | .bands _ (some b) => within 2 50 b.lo && within 2 50 b.hi && decide (b.lo ≤ b.hi)
  | .contract t => t.inRange
  | .health t => within 8 255 t.limit && within 1 255 t.fault && within 0 254 t.clear
  | .notice t => !t.masked[0]
  | .patrol p => within 50 5000 p

/-- No point is named twice (R48, R83). -/
def distinctPoints (terms : List Term) : Bool := decide (terms.map (·.point)).Nodup

/-- Two configured bands share an order (R153). -/
def Band.overlaps (a b : Band) : Bool := decide (a.lo ≤ b.hi ∧ b.lo ≤ a.hi)

/-- A POINTS entry is self-consistent for point `p` (R48). -/
def PointEntry.consistent (p : PointId) (e : PointEntry) : Bool :=
  match e.substitute with
  | .none => !e.autoSub
  | .alternate q => q != p
  | .derived terms => terms.all (·.point != p) && distinctPoints terms

/-- An entry is self-consistent, BANDS against the other bands in force (R156 step 2; R48, R83, R153,
R155). -/
def TablePart.consistent (t : Tables) : TablePart → Bool
  | .points p e => e.consistent p
  | .composition _ _ terms => distinctPoints terms
  | .bands b (some band) =>
    (List.finRange 8).all fun i =>
      if i = b then true
      else
        match t.bands[i] with
        | none => true
        | some other => !band.overlaps other
  | .health h => decide (h.clear < h.fault ∧ h.fault ≤ h.limit)
  | _ => true

/-- The ten tables with a part replaced (R157). -/
def Tables.put (p : TablePart) (t : Tables) : Tables :=
  match p with
  | .links l e => { t with links := t.links.set l e }
  | .points p e => { t with points := t.points.set p e }
  | .breaker b e => { t with breakers := { t.breakers with entries := t.breakers.entries.set b e } }
  | .settle n => { t with breakers := { t.breakers with settle := n } }
  | .topology m e => { t with topology := t.topology.set m e }
  | .composition m a terms =>
    { t with composition := t.composition.set m ((t.composition[m]).set a terms) }
  | .bands b e => { t with bands := t.bands.set b e }
  | .contract c => { t with contract := c }
  | .health h => { t with health := h }
  | .notice n => { t with notice := n }
  | .patrol p => { t with patrol := p }

/-- A part equals the part in force that it would replace (R161). -/
def Tables.holds (p : TablePart) (t : Tables) : Bool :=
  match p with
  | .links l e => t.links[l] == e
  | .points p e => t.points[p] == e
  | .breaker b e => t.breakers.entries[b] == e
  | .settle n => t.breakers.settle == n
  | .topology m e => t.topology[m] == e
  | .composition m a terms => (t.composition[m])[a] == terms
  | .bands b e => t.bands[b] == e
  | .contract c => t.contract == c
  | .health h => t.health == h
  | .notice n => t.notice == n
  | .patrol p => t.patrol == p

/-! ## The accounts that an entry touches -/

/-- Account `a` names point `p` in some map (R158). -/
def namesPoint (t : CompositionTable) (p : PointId) (a : AccountId) : Bool :=
  (List.finRange 4).any fun m => ((t[m])[a]).any (·.point == p)

/-- The accounts that a table entry touches (R158). -/
def TablePart.touches (t : Tables) (p : TablePart) : List AccountId :=
  if t.holds p then []
  else
    match p with
    | .points q _ => (List.finRange 8).filter (namesPoint t.composition q)
    | .composition _ a _ => [a]
    | .bands _ _ => List.finRange 8
    | .contract c =>
      if c.minutes = t.contract.minutes ∧ c.ratio = t.contract.ratio then [] else List.finRange 8
    | _ => []

/-- The accounts that an entry touches, in ascending number (R158). -/
def Manager.touches (m : Manager) : Change → List AccountId
  | .table p => p.touches m.tables
  | .preset a _ => [a]
  | .mode .commissioning => if m.mode = .metering then List.finRange 8 else []
  | .mode .metering => []
  | .erase => List.finRange 8

/-- The accounts whose closes an entry makes where they are OPEN: in METERING those it touches, and none for
an ERASE (R161 to R164). -/
def Manager.closes (m : Manager) (c : Change) : List AccountId :=
  if m.mode = .metering ∧ c ≠ .erase then m.touches c else []

/-! ## The walk -/

/-- What the walk finds of the entry at the head (R159; R37). -/
inductive WalkVerdict where
  | stops (reason : StopReason)
  | discards
  | exhausted
  | applies
  deriving DecidableEq, Repr

/-- The validity check of the walk: only a TABLE entry can fail it (R160). -/
def Manager.valid (m : Manager) : Change → Bool
  | .table p => p.inRange && p.consistent m.tables
  | _ => true

/-- The tests of R159 in their order; an entry that passes and whose closes would need a record sequence
above 4,294,967,295 is not begun (R37). -/
def State.walkVerdict (c : Change) (s : State) : WalkVerdict :=
  let n := s.openAmong (s.cm.closes c)
  if s.sm.state != .normal || s.rsc.halted then .stops .supply
  else if (s.cm.touches c).any (fun a => (s.ia.accounts[a]).inFlight) ||
      (c == .erase && !s.rsc.records.isEmpty) then .stops .inFlight
  else if s.rsc.freePlaces < n then .stops .recordPlaces
  else if !s.cm.valid c then .discards
  else if s.seqExhausted n then .exhausted
  else .applies

/-! ## Application -/

/-- The adjustment of link `l` to an applied LINKS change (R120). -/
def State.linksChanged (l : LinkId) (old new : LinkEntry) (s : State) : State :=
  if !new.enabled then (if old.enabled then s.enterDisabled l else s)
  else if !old.enabled then s.enterOffering l none
  else
    match (s.links[l]).state with
    | .breaking => s
    | .disabled => s
    | _ => s.toOffering l none

/-- The owners of runtime state adjust it to an applied part, the table in force being the new one
(R161 step 4). -/
def State.adjust (old : Tables) (p : TablePart) (s : State) : State :=
  match p with
  | .links l e => s.linksChanged l old.links[l] e
  | .points q e => s.adjustPoint q old.points[q] e
  | .breaker _ _ => s.breakersChanged old.breakers
  | .settle _ => s.breakersChanged old.breakers
  | .contract c => if c.minutes = old.contract.minutes then s else s.freshBoundary
  | .health _ => s.healthChanged
  | .notice n => { s with cu := s.cu.noticeChanged old.notice n }
  | _ => s

/-- A TABLE entry is applied (R161). -/
def State.applyTable (p : TablePart) (s : State) : State :=
  let old := s.cm.tables
  if old.holds p then s
  else
    let s := s.closeList .config s.closeTime .atCount (s.cm.closes (.table p))
    let s := (s.updCm fun m => { m with tables := old.put p }).adjust old p
    (s.updCm fun m => { m with generation := countUp m.generation }).handConfig p.table

/-- Every account of a list opens a fresh interval at the count (R32). -/
def State.openAll : List AccountId → State → State
  | [], s => s
  | a :: rest, s => State.openAll rest (s.openAccount s.tk.seconds a)

/-- The device mode changes, and the CONTRACT block is written with it (R162). -/
def State.setMode (m : DeviceMode) (s : State) : State :=
  (s.updCm fun c => { c with mode := m }).handConfig .contract

/-- A MODE entry is applied (R162), during the wait of a soft reset as at any other time (assumption 47). -/
def State.applyMode (target : DeviceMode) (s : State) : State :=
  if target = s.cm.mode then s
  else
    match target with
    | .metering => (s.setMode .metering).openAll (List.finRange 8)
    | .commissioning => (s.closeAll .mode s.closeTime .nothing).setMode .commissioning

/-- A PRESET entry is applied: in METERING the account closes first, if it is OPEN (R44, R163). -/
def State.applyPreset (a : AccountId) (values : Vector Nat 25) (s : State) : State :=
  (s.closeList .preset s.closeTime .atCount (s.cm.closes (.preset a values))).presetAccount a values

/-- The interval log emptied by an ERASE (R150). -/
def Controller.eraseLog (next : Nat) (r : Controller) : Controller :=
  { r with
    oldest := next
    newest := next - 1
    map :=
      { r.map with
        logFloor := next
        writePosition :=
          if r.newest < r.oldest then r.map.writePosition else r.map.goodFrom (r.newestSlot + 1) } }

/-- An ERASE entry is applied (R45, R150, R164). -/
def State.applyErase (s : State) : State :=
  let s := s.eraseAccounts
  let s := (s.updRsc (·.eraseLog s.ia.nextSeq)).queueSave .running
  let s := s.handConfig .patrol
  (s.updCm fun m => { m with mode := .commissioning, locked := false }).handConfig .contract

/-- An entry is applied by its kind (R161 to R164). -/
def State.applyChange (c : Change) (s : State) : State :=
  match c with
  | .table p => s.applyTable p
  | .preset a values => s.applyPreset a values
  | .mode target => s.applyMode target
  | .erase => s.applyErase

/-- The walk stops at an entry, which stays at the head of the queue (R159). -/
def State.stopWalk (e : ChangeEntry) (reason : StopReason) (s : State) : State :=
  s.updCm fun m => { m with stop := some (e.number, reason), walking := false }

/-- The walk is past its head: it ends when `rest`, the entries behind, is empty, and else stands in progress
before the next one (R159). -/
def State.walkOn (rest : List ChangeEntry) (s : State) : State :=
  match rest with
  | [] => s.updCm fun m => { m with queue := [], stop := none, walking := false }
  | _ => s.updCm fun m => { m with queue := rest, walking := true }

/-- The walk tests the entry at the head of the queue and stops at it, discards it or applies it (R159, R160). A
walk is tested entry by entry, so that an event may fall between two of them (assumption 43). -/
def State.walk (s : State) : State :=
  match s.cm.queue with
  | [] => s.walkOn []
  | e :: rest =>
    match s.walkVerdict e.change with
    | .stops reason => s.stopWalk e reason
    | .exhausted => s.enterHalted.stopWalk e .supply
    | .discards =>
      let s := s.updCm fun m =>
        { m with lastDiscarded := some e.number, discards := countUp m.discards }
      (s.pulse .changeRejected).walkOn rest
    | .applies =>
      ((s.updCm fun m => { m with lastApplied := some e.number }).applyChange e.change).walkOn rest

/-- The work of the window in processing is complete and its boundary can fall: no close event holds the
interval accountant back (R99, R133, R170). -/
def State.canBound (s : State) : Bool :=
  s.powered && s.wa.processing.isSome && !s.rsc.halted &&
    (s.ia.waiting.isEmpty || s.sm.state != .normal)

/-- A walk in progress goes on, unless a close event that arose since waits for its places, or the supply
monitor is not NORMAL or the part is HALTED, where the next test stops it (R133, R159; assumption 43). -/
def State.canWalk (s : State) : Bool :=
  s.powered && s.cm.walking && (s.ia.waiting.isEmpty || s.sm.state != .normal || s.rsc.halted)

/-- WINDOW_BOUNDARY: the interval accountant has applied the window's results, the window is no longer in
processing, and the walk of the change queue begins with its first entry; while a walk is in progress it tests
its next one (R99, R159; assumption 43). -/
def execWindowBoundary (s : State) : Host.Outcome State Fault Refusal :=
  if s.canBound then .next (s.applyProcessing.updWa fun w => { w with processing := none }).walk
  else if s.canWalk then .next s.walk
  else .next s

end Sys2Proof.Machine
end

