-- ==== Sys2Proof/Machine/StartUp.lean ====
section
/-! DEFINITION. The start-up load, the start-up sequence and the three resets (R146, R147, R174 to R181),
and the loss of the main supply. Start-up is one step of the command that brings it. -/

namespace Sys2Proof.Machine

/-! ## The configuration load -/

/-- The usable configuration block of table `t` (R130, R146). -/
def Store.configBlock (st : Store) (t : TableId) : Option ConfigBlock :=
  match st.config[t.idx] with
  | some b => if b.content.table = t then some b else none
  | none => none

/-- The tables whose block is not usable, in the order of R130. -/
def Store.failedTables (st : Store) : List TableId :=
  TableId.all.filter fun t => (st.configBlock t).isNone

/-- The highest generation among the intact configuration blocks, 0 when none is intact (R152). -/
def Store.highestGeneration (st : Store) : Nat :=
  (TableId.all.filterMap st.configBlock).foldl (fun n b => max n b.generation) 0

/-- The configuration manager takes the content of one block (R146, R152). -/
def Manager.load (c : ConfigContent) (m : Manager) : Manager :=
  match c with
  | .links t => { m with tables := { m.tables with links := t } }
  | .points t stored => { m with tables := { m.tables with points := t }, stored := stored }
  | .breakers t => { m with tables := { m.tables with breakers := t } }
  | .topology t => { m with tables := { m.tables with topology := t } }
  | .composition t => { m with tables := { m.tables with composition := t } }
  | .bands t => { m with tables := { m.tables with bands := t } }
  | .contract t mode locked =>
    { m with tables := { m.tables with contract := t }, mode := mode, locked := locked }
  | .health t => { m with tables := { m.tables with health := t } }
  | .notice t => { m with tables := { m.tables with notice := t } }
  | .patrol p _ => { m with tables := { m.tables with patrol := p } }

/-- The configuration manager before the load: every table at its defaults, the queue empty (R152). -/
def Manager.blank : Manager :=
  { tables := Tables.default
    stored := Vector.replicate 16 PointStored.default
    generation := 0, mode := .commissioning, locked := false
    queue := [], nextChange := 1, lastApplied := none, lastDiscarded := none, discards := 0
    stop := none, walking := false }

/-- The configuration manager after the load: each intact block gives its table, the others have their
defaults; mode and lock are the stored ones (R146, R152). -/
def Store.loadManager (st : Store) : Manager :=
  let m := (TableId.all.filterMap st.configBlock).foldl (fun m b => m.load b.content) Manager.blank
  { m with generation := st.highestGeneration }

/-! ## The store map -/

/-- The state that a recovered map gives spare `n`: an intact spare is ASSIGNED to the account that it
names, or RETIRED when a higher intact one names it too; the others are FREE (R146). -/
def Store.recoveredSpare (st : Store) (n : SpareId) : SpareState :=
  match st.spares[n] with
  | none => .free
  | some c =>
    let higher := (List.finRange 4).any fun i =>
      decide (n.val < i.val) && match st.spares[i] with
        | some d => d.account == c.account
        | none => false
    if higher then .retired else .assigned c.account

/-- The lowest of a list of sequences, if there is one. -/
def lowest : List Nat → Option Nat
  | [] => none
  | q :: rest =>
    match lowest rest with
    | none => some q
    | some r => some (min q r)

/-- The store map recovered without its block (R146). -/
def Store.recoverMap (st : Store) : StoreMap :=
  { badSlots := []
    spares := Vector.ofFn st.recoveredSpare
    logFloor := (lowest (st.slots.map fun p => p.2.seq)).getD 1
    writePosition := 0
    nextSeq := 1 }

/-- The store map of the load (R146). -/
def Store.loadMap (st : Store) : StoreMap :=
  match st.configBlock .patrol with
  | some ⟨.patrol _ map, _⟩ => map
  | _ => st.recoverMap

/-! ## The log -/

/-- The intact records at or above the log floor, with their slots; bad slots are not read (R147). -/
def Store.members (st : Store) (map : StoreMap) : List (Nat × IntervalRecord) :=
  st.slots.filter fun p => decide (map.logFloor ≤ p.2.seq) && !map.badSlots.contains p.1

/-- The record of the highest sequence, with its slot; of two of one sequence the one in the lower slot
(assumption 61). -/
def highest : List (Nat × IntervalRecord) → Option (Nat × IntervalRecord)
  | [] => none
  | p :: rest =>
    match highest rest with
    | none => some p
    | some q => if p.2.seq < q.2.seq then some q else some p

/-- The log that the load finds: the newest record with its slot, and the oldest sequence (R147). -/
structure FoundLog where
  newest : Nat
  newestSlot : Nat
  oldest : Nat
  deriving DecidableEq, Repr

/-- The log bounds of R147; `none` for an empty log. -/
def Store.findLog (st : Store) (map : StoreMap) : Option FoundLog :=
  let members := st.members map
  match highest members with
  | none => none
  | some (slot, r) =>
    let capacity := Config.slotCount - map.badSlots.length
    let seqs := (members.map fun p => p.2.seq).filter fun q => decide (r.seq + 1 ≤ q + capacity)
    some { newest := r.seq, newestSlot := slot, oldest := (lowest seqs).getD r.seq }

/-- The saved state of a SAVED save block. -/
def SaveBlock.saved? : Option SaveBlock → Option SavedState
  | some (.saved c) => some c
  | _ => none

/-- A record placed in ascending sequence order. -/
def insertRecord (r : IntervalRecord) : List IntervalRecord → List IntervalRecord
  | [] => [r]
  | q :: rest => if r.seq < q.seq then r :: q :: rest else q :: insertRecord r rest

/-- The pending records of a save above the newest record, in ascending sequence order (R147). -/
def pendingRecords (saved : Option SavedState) (newest : Nat) : List IntervalRecord :=
  match saved with
  | none => []
  | some c => (c.records.filter fun r => decide (newest < r.seq)).foldr insertRecord []

/-- The next record sequence of the load (R147). -/
def loadedNextSeq (map : StoreMap) (log : Option FoundLog) (saved : Option SavedState) : Nat :=
  let records := match saved with
    | none => []
    | some c => c.records.map fun r : IntervalRecord => r.seq + 1
  records.foldl max (max 1 (max map.nextSeq ((log.map fun f : FoundLog => f.newest + 1).getD 0)))

/-! ## The registers -/

/-- The registers restored from a record snapshot (R147). -/
def restoredRegs (r : IntervalRecord) : Vector Register 25 :=
  Vector.ofFn fun i =>
    { value := r.snapshot[i], saturated := r.snapshot[i] == u64Max, restored := true, invalid := false }

/-- What the load finds for account `a`, and whether its block has to be written with it (R147). -/
def Store.loadAccount (st : Store) (map : StoreMap) (log : Option FoundLog)
    (saved : Option SavedState) (a : AccountId) : RegContent × Bool :=
  let block := st.block (map.blockOf a)
  match saved with
  | some c => (⟨a, (c.accounts[a]).regs, (c.accounts[a]).residues⟩, block.isNone)
  | none =>
    match block with
    | some b => (⟨a, b.regs, b.residues⟩, false)
    | none =>
      let oldest := (log.map (·.oldest)).getD 0
      let records := (st.members map).filter fun p => p.2.account == a && decide (oldest ≤ p.2.seq)
      match highest records with
      | some (_, r) => (⟨a, restoredRegs r, Vector.replicate 24 0⟩, true)
      | none => (RegContent.lost a, true)

/-! ## The start-up sequence -/

/-- The working state of every block discarded (R174); store, timekeeper, pins and latched straps stay. -/
def State.cleared (s : State) : State :=
  { s with
    timeBase := 0
    cu := ConditionUnit.reset
    links := Vector.replicate 4 Link.reset
    wa := Assembler.reset
    points := Vector.replicate 16 (Point.reset PointStored.default)
    tr := Resolver.reset
    pau := Vector.replicate 8 none
    ia :=
      { accounts := Vector.replicate 8
          (Account.idle (Vector.replicate 25 Register.zero) (Vector.replicate 24 0))
        nextBoundary := none, pendingBoundary := none, nextSeq := 1, waiting := [] }
    rsc :=
      { saveQueue := none, blockQueue := [], recordQueue := [], configQueue := [], readQueue := none
        patrolQueued := false, running := none, preempted := none, map := StoreMap.recovered
        oldest := 1, newest := 0, newestSlot := 0, images := Vector.ofFn RegContent.lost
        patrolPos := .account 0, patrolTimer := 0, history := [], alert := false
        saveFailed := false, counters := StoreCounters.zero, consumption := none, halted := false }
    cm := Manager.blank
    sm :=
      { state := .normal, deassertHeld := false, lastSave := none, saveCalled := false
        start := s.sm.start }
    mlc := MsgController.reset }

/-- The default contents are queued for the tables whose blocks failed, a STORE-REPAIR pulse each
(R146). -/
def State.writeDefaults : List TableId → State → State
  | [], s => s
  | t :: rest, s => State.writeDefaults rest ((s.handConfig t).pulse .storeRepair)

/-- Step 2: the configuration load (R146). -/
def State.loadConfig (s : State) : State :=
  let cm := s.store.loadManager
  let s := { s with cm := cm, points := Vector.ofFn fun p => Point.reset cm.stored[p] }
  let s := s.updRsc fun r => { r with map := s.store.loadMap, patrolTimer := cm.tables.patrol }
  s.writeDefaults s.store.failedTables

/-- The register contents that the load must write back are queued in class 2, a STORE-REPAIR pulse each
(R147). -/
def State.writeBlocks : List RegContent → State → State
  | [], s => s
  | c :: rest, s => State.writeBlocks rest ((s.queueBlock c).pulse .storeRepair)

/-- The marker that a start finds (R140). -/
def markerFound : Option SaveBlock → MarkerFound
  | some (.saved _) => .saved
  | some .clean => .clean
  | some .running => .running
  | none => .unusable

/-- The previous run did not end cleanly (R178). -/
def MarkerFound.unclean (m : MarkerFound) : Bool := m == .running || m == .unusable

/-- The end of the load: the RUNNING write, at once, or after the jobs queued from a SAVED block (R147). -/
def State.endLoad (saved : Bool) (blocks : List AccountId) (records : List Nat) (s : State) : State :=
  if saved && !(blocks.isEmpty && records.isEmpty) then
    s.updRsc fun r => { r with consumption := some ⟨blocks, records⟩ }
  else s.queueSave .running

/-- Step 3, the accounting load (R147, R178): log bounds, next record sequence, registers, pending
records, block images and gap marks. -/
def State.loadAccounts (s : State) : State :=
  let st := s.store
  let map := s.rsc.map
  let saved := SaveBlock.saved? st.save
  let log := st.findLog map
  let next := loadedNextSeq map log saved
  let pend := pendingRecords saved ((log.map (·.newest)).getD 0)
  let found : Vector (RegContent × Bool) 8 := Vector.ofFn fun a => st.loadAccount map log saved a
  let rewritten := (found.toList.filter (·.2)).map (·.1)
  let oldest := match log with
    | some f => f.oldest
    | none => (lowest (pend.map (·.seq))).getD next
  let gap := (markerFound st.save).unclean
  let s := s.updRsc fun r =>
    { r with
      oldest := oldest
      newest := (log.map (·.newest)).getD (oldest - 1)
      newestSlot := (log.map (·.newestSlot)).getD 0
      images := Vector.ofFn fun a => (found[a]).1
      recordQueue := pend }
  let s := s.updIa fun ia =>
    { ia with
      nextSeq := next
      accounts := Vector.ofFn fun a =>
        { Account.idle (found[a]).1.regs (found[a]).1.residues with gapMark := gap } }
  (s.writeBlocks rewritten).endLoad saved.isSome (rewritten.map (·.account)) (pend.map (·.seq))

/-- The save holds an OPEN interval. -/
def SavedState.anyOpen (c : SavedState) : Bool := c.accounts.toList.any (·.interval.isSome)

/-- How the saved intervals are treated (R177). In a saved COMMISSIONING there are none (assumption 42), but those
that a save carries while forced closes wait (R170), which end as forced closed here (R180; assumption 72). In
METERING the time condition decides with no saved interval OPEN too (assumption 65). -/
def State.savedOutcome (forced : Bool) (c : SavedState) (s : State) : Option SavedOutcome :=
  if forced then some .forcedClosed
  else
    match c.mode with
    | .commissioning => if c.anyOpen then some .forcedClosed else none
    | .metering =>
      match c.nextBoundary with
      | some b =>
        if s.tk.valid && !c.boundaryPending &&
            decide (c.time.seconds * 1000 + c.time.millis ≤ s.tk.ms ∧ s.tk.seconds < b) then
          some .continued
        else some .closed
      | none => some .closed

/-- The saved intervals stand in the accounts, with OUTAGE set (R177). -/
def Accountant.takeSaved (c : SavedState) (ia : Accountant) : Accountant :=
  { ia with
    accounts := Vector.ofFn fun a =>
      { ia.accounts[a] with
        interval := (c.accounts[a]).interval.map fun iv => { iv with outage := true } } }

/-- The saved intervals are resumed or closed (R177). The end time of the closes is the save time, in INVALID
time too (assumption 48). -/
def State.resumeSaved (c : SavedState) (outcome : Option SavedOutcome) (s : State) : State :=
  let endTime := if c.time.valid then c.time.seconds else 0
  let close (reopen : Reopen) (s : State) : State :=
    let s := s.updIa (·.takeSaved c)
    if s.openCount = 0 then s else s.raiseEvent ⟨.outage, endTime, reopen, false, false⟩
  match outcome with
  | none => s
  | some .continued => (s.updIa (·.takeSaved c)).updIa fun ia => { ia with nextBoundary := c.nextBoundary }
  | some .closed => close .atCount s
  | some .forcedClosed => close .nothing s

/-- The saved generation is above that of every intact block (R177). -/
def State.stale (saved : Option SavedState) (s : State) : Bool :=
  match saved with
  | some c => decide (s.store.highestGeneration < c.generation)
  | none => false

/-- Start-up forces COMMISSIONING (R146, R177). -/
def State.forced (saved : Option SavedState) (s : State) : Bool :=
  s.stale saved || !s.store.failedTables.isEmpty

/-- The mode and the lock that start-up settles on: the saved ones, unless COMMISSIONING is forced, where
the stored lock stands; without a save, the stored ones (R146, R152, R177). -/
def State.settled (saved : Option SavedState) (s : State) : DeviceMode × Bool :=
  if s.forced saved then (.commissioning, s.cm.locked)
  else
    match saved with
    | some c => (c.mode, c.locked)
    | none => (s.cm.mode, s.cm.locked)

/-- The generation check, the mode and the lock. A mode or lock that differs from the stored one is written
with the CONTRACT block (R152, R177, R179). -/
def State.settleManager (saved : Option SavedState) (s : State) : State :=
  let s := if s.stale saved then s.pulse .changeRejected else s
  let x := s.settled saved
  if x = (s.cm.mode, s.cm.locked) then s
  else (s.updCm fun m => { m with mode := x.1, locked := x.2 }).handConfig .contract

/-- Step 3: accounting, the saved intervals, mode and lock, the start record, and at its end the PFW input
(R174, R175, R177 to R179). -/
def State.loadStep (kind : ResetKind) (s : State) : State :=
  let saved := SaveBlock.saved? s.store.save
  let s := s.loadAccounts
  let outcome := match saved with
    | some c => s.savedOutcome (s.forced saved) c
    | none => none
  let s := s.settleManager saved
  let s := match saved with
    | some c => s.resumeSaved c outcome
    | none => s
  let s := s.updSm fun m =>
    { m with
      start :=
        { kind := kind, marker := markerFound s.store.save, intervals := outcome
          savedGeneration := (saved.map (·.generation)).getD 0
          blockGeneration := s.store.highestGeneration } }
  if s.pfw then s.pfwAsserted else s

/-- Step 4: the enabled links enter OFFERING (R112). -/
def State.startLinks : List LinkId → State → State
  | [], s => s
  | l :: rest, s =>
    State.startLinks rest (if (s.cm.tables.links[l]).enabled then s.enterOffering l none else s)

/-- The accounts with no open interval. -/
def State.idleAccounts (s : State) : List AccountId :=
  (List.finRange 8).filter fun a => (s.ia.accounts[a]).interval.isNone

/-- A saved interval has been continued: the saved intervals were, and some account held one (R177). -/
def State.continues (s : State) : Bool :=
  s.sm.start.intervals == some .continued && s.openCount != 0

/-- Step 5: the device enters its mode, fresh intervals open in METERING, and the next boundary is set afresh
unless a continued interval keeps the saved one (R26, R179). -/
def State.enterMode (s : State) : State :=
  let u := if s.cm.mode = .metering then s.openAll s.idleAccounts else s
  if s.continues then u else u.freshBoundary

/-- The level sources as they stand when start-up is done (R174). -/
def State.startLevels (s : State) : State :=
  s.giveRegisterFlag.givePointLevels.giveBreakerUnknown.giveTimeInvalid

/-- The start-up sequence, steps 2 to 5, over a store in which `decayed` units fail their CRC-32
(R174). -/
def State.startUp (kind : ResetKind) (decayed : List StoreUnit) (s : State) : State :=
  let s := (s.updStore fun st => decayed.foldl Store.decay st).cleared
  let s := (s.loadConfig.loadStep kind).startLinks (List.finRange 4)
  s.enterMode.startLevels

/-! ## The resets -/

/-- The timekeeper at a power-on reset: the oscillator-stop detector is read and cleared (R168). -/
def Timekeeper.powerOn (t : Timekeeper) : Timekeeper :=
  if t.stopDetected then { seconds := 0, millis := 0, valid := false, stopDetected := false } else t

/-- POWER_ON_RESET: the main supply rises; all working state is discarded, the detector is read, the straps
are latched, and start-up runs (R168, R174, R176, R180). -/
def execPowerOnReset (straps : Straps) (left : UnitLeft) (decayed : List StoreUnit) (s : State) :
    Host.Outcome State Fault Refusal :=
  let s := s.interrupt left
  .next (({ s with powered := true, straps := straps, tk := s.tk.powerOn }).startUp .powerOn decayed)

/-- PIN_RESET: as a power-on reset, but for the detector (R180). Without the main supply nothing is
reset. -/
def execPinReset (straps : Straps) (left : UnitLeft) (decayed : List StoreUnit) (s : State) :
    Host.Outcome State Fault Refusal :=
  if !s.powered then .next s
  else
    let s := s.interrupt left
    .next (({ s with straps := straps }).startUp .pin decayed)

/-- Every store job has finished (R181). -/
def Controller.idle (r : Controller) : Bool :=
  r.saveQueue.isNone && r.blockQueue.isEmpty && r.recordQueue.isEmpty && r.configQueue.isEmpty &&
    r.readQueue.isNone && !r.patrolQueued && r.running.isNone && r.preempted.isNone

/-- The frames of the transmitter up to its last reply: the notices behind that are left out (R189, R201). -/
def MsgController.replies (m : MsgController) : List (List Byte) :=
  (m.tx.reverse.dropWhile fun f => f[2]? == some kindNotice).reverse

/-- What an attempt that ends so leaves in its unit. -/
def leftBy : AttemptResult → UnitLeft
  | .verified => .complete
  | .mismatch left => left

/-- The CLEAN write of a soft reset, made as RUNNING where R140 says so; `marker` is how its last attempt ends.
One that has failed leaves the save block unusable (R140). -/
def State.writeClean (marker : AttemptResult) (s : State) : State :=
  if s.sm.state = .normal then
    let job := Job.save (s.saveContent .clean)
    match marker with
    | .verified => s.updStore (·.put job)
    | .mismatch _ => s.updStore (·.tear job)
  else s

/-- The wait of a soft reset is over: the part is HALTED, or every store job has finished and no RESET close
waits for a place (R181). -/
def State.resetCanProceed (s : State) : Bool :=
  s.powered && s.mlc.resetTaken &&
    (s.rsc.halted || (s.rsc.idle && (s.ia.waiting.isEmpty || s.sm.state != .normal)))

/-- SOFT_RESET_PROCEED: the ACK has been sent; the CLEAN write is made, unless the part is HALTED or the
supply monitor is not NORMAL, and the start-up sequence runs without latching the straps (R148, R181). A
write still running in HALTED is cut off, and so is a notice behind the ACK (R189, R201). -/
def execSoftResetProceed (marker : AttemptResult) (decayed : List StoreUnit) (s : State) :
    Host.Outcome State Fault Refusal :=
  if !s.resetCanProceed then .next s
  else
    let s := s.advance (s.sendTime s.mlc.replies)
    let s := if s.rsc.halted then s.interrupt (leftBy marker) else s.writeClean marker
    .next (s.startUp .soft decayed)

/-- LOSS_OF_SUPPLY: the main supply falls and with it all working state; the store, the timekeeper and its
detector live on (R131, R168, R180). -/
def execLossOfSupply (left : UnitLeft) (s : State) : Host.Outcome State Fault Refusal :=
  if !s.powered then .next s
  else .next { (s.interrupt left).cleared with powered := false }

/-- OSCILLATOR_STOP: the timekeeper's oscillator stops; the detector latches while the timekeeper runs from
VBAK (R168). -/
def execOscillatorStop (s : State) : Host.Outcome State Fault Refusal :=
  if s.powered then .next s else .next { s with tk := { s.tk with stopDetected := true } }

end Sys2Proof.Machine
end

