-- ==== Sys2Proof/Machine/TimeSupply.lean ====
section
/-! DEFINITION. The commands of the timekeeper, the interval boundary, the waiting close events and the
PFW input (R31, R133, R168, R170, R172). -/

namespace Sys2Proof.Machine

/-- TK_SECONDS_WRAP: the count runs on until it would pass 4,294,967,295 s; it becomes 0 and time INVALID
(R168; assumption 3). -/
def execTkSecondsWrap (s : State) : Host.Outcome State Fault Refusal :=
  .next (s.advance ((u32Max + 1) * 1000 - s.tk.ms))

/-- INTERVAL_BOUNDARY: the seconds count reaches the next boundary, which falls (R31, R34, R35). -/
def execIntervalBoundary (s : State) : Host.Outcome State Fault Refusal :=
  match s.ia.nextBoundary with
  | none => .next s
  | some b =>
    if !s.powered || !s.tk.valid then .next s
    else .next ((s.advance (b * 1000 - s.tk.ms)).boundaryFalls false)

/-- CLOSE_EVENT_BEGIN: the oldest waiting close event begins, if it may (R133). -/
def execCloseEventBegin (s : State) : Host.Outcome State Fault Refusal :=
  if s.powered then .next s.beginWaiting else .next s

/-- PFW_ASSERT: the input is driven asserted, and the supply monitor acts on it (R170, R172). -/
def execPfwAssert (s : State) : Host.Outcome State Fault Refusal :=
  let s := { s with pfw := true }
  if s.powered then .next s.pfwAsserted else .next s

/-- PFW_DEASSERT: the input is released, and the supply monitor acts on it (R172). -/
def execPfwDeassert (s : State) : Host.Outcome State Fault Refusal :=
  let s := { s with pfw := false }
  if s.powered then .next s.pfwDeasserted else .next s

end Sys2Proof.Machine
end

