-- ==== Sys2Proof/Machine/MessageLink.lean ====
section
/-! DEFINITION. The receiver of the message link, byte by byte, the judgement of a frame by its address, the
receive buffer, and the notice (R189 to R193). -/

namespace Sys2Proof.Machine

/-! ## The receive buffer -/

/-- The start byte of a frame (R191). -/
def startByte : Byte := 0xA5

/-- The broadcast address (R192). -/
def broadcastAddress : Byte := 0x0F

/-- The kind byte of TIME.SET (R205). -/
def kindTimeSet : Byte := 0x04

/-- A frame joins the buffer when a place is free, and is an overflow when none is (R193). -/
def MsgController.join (f : MsgFrame) (m : MsgController) : MsgController :=
  if m.buffer.length < Config.bufferPlaces then
    { m with
      buffer := m.buffer ++ [f]
      counters := { m.counters with buffered := countUp m.counters.buffered } }
  else { m with counters := { m.counters with overflows := countUp m.counters.overflows } }

/-- A frame that passed its CRC is judged by its address (R192). -/
def MsgController.judge (own address kind tag : Byte) (payload : List Byte) (m : MsgController) :
    MsgController :=
  if address = own then m.join { broadcast := false, kind := kind, tag := tag, payload := payload }
  else if address = broadcastAddress then
    if kind = kindTimeSet then
      m.join { broadcast := true, kind := kind, tag := tag, payload := payload }
    else
      { m with
        counters :=
          { m.counters with broadcastsIgnored := countUp m.counters.broadcastsIgnored } }
  else { m with counters := { m.counters with otherAddress := countUp m.counters.otherAddress } }

/-- The bytes after the start byte make a whole frame: its CRC is checked and the receiver hunts again
(R191). -/
def MsgController.check (own : Byte) (bytes : List Byte) (m : MsgController) : MsgController :=
  let m := { m with received := none }
  let covered := bytes.take (bytes.length - 2)
  match covered with
  | address :: kind :: tag :: _ :: _ :: payload =>
    if crc16Bytes covered = bytes.drop (bytes.length - 2) then m.judge own address kind tag payload
    else { m with counters := { m.counters with crcErrors := countUp m.counters.crcErrors } }
  | _ => m

/-- A byte joins the frame in reception: the stages HEADER, PAYLOAD and CHECK (R191). -/
def MsgController.frameByte (own : Byte) (bytes : List Byte) (m : MsgController) : MsgController :=
  let length := natAt bytes 3 2
  if bytes.length < 5 then { m with received := some bytes }
  else if Config.payloadLimit < length then
    { m with
      received := none
      counters := { m.counters with lengthErrors := countUp m.counters.lengthErrors } }
  else if bytes.length < 7 + length then { m with received := some bytes }
  else m.check own bytes

/-- One byte received with a good stop bit (R191). -/
def MsgController.byte (own : Byte) (m : MsgController) (b : Byte) : MsgController :=
  let m := { m with sinceByte := 0 }
  match m.received with
  | none =>
    if b = startByte then { m with received := some [] }
    else { m with counters := { m.counters with stray := countUp m.counters.stray } }
  | some bytes => m.frameByte own (bytes ++ [b])

/-- A frame in reception is abandoned by a gap, which is counted (R191). -/
def MsgController.abandon (m : MsgController) : MsgController :=
  { m with received := none, counters := { m.counters with gaps := countUp m.counters.gaps } }

/-- A gap of more than 10 ms before the byte that comes now has abandoned the frame (R191). -/
def MsgController.gapCheck (m : MsgController) : MsgController :=
  if m.received.isSome && decide (Config.byteGap < m.sinceByte) then m.abandon else m

/-- The bytes that arrive in one command, without a gap between them. -/
def State.receive (bytes : List Byte) (s : State) : State :=
  s.updMlc fun m => bytes.foldl (MsgController.byte (byteOf s.straps.address.val)) m.gapCheck

/-! ## The commands -/

/-- MESSAGE_FRAME_RECEIVED: the bytes of a frame arrive, the frame is checked by its CRC-16, judged by its
address, and buffered or counted (R191 to R193). -/
def execMessageFrameReceived (bytes : List Byte) (s : State) : Host.Outcome State Fault Refusal :=
  if s.powered then .next (s.receive bytes) else .next s

/-- STRAY_BYTE: a single byte arrives; in HUNTING any but the start byte is discarded and counted (R191). -/
def execStrayByte (b : Byte) (s : State) : Host.Outcome State Fault Refusal :=
  if s.powered then .next (s.receive [b]) else .next s

/-- FRAMING_ERROR: a byte with a low stop bit is discarded and counted, and a frame in reception is abandoned
(R190). -/
def execFramingError (s : State) : Host.Outcome State Fault Refusal :=
  if !s.powered then .next s
  else
    .next (s.updMlc fun m =>
      let m := m.gapCheck
      { m with
        received := none
        counters := { m.counters with framing := countUp m.counters.framing } })

/-- BYTE_GAP_EXPIRY: more than 10 ms have passed since the last byte of a frame in reception, which is
abandoned (R191). -/
def execByteGapExpiry (s : State) : Host.Outcome State Fault Refusal :=
  if s.powered && s.mlc.received.isSome then
    .next ((s.advance (Config.byteGap + 1 - s.mlc.sinceByte)).updMlc MsgController.abandon)
  else .next s

/-- NOTICE_TRANSMIT: when everything handed to the transmitter has been sent, the pending notice begins
transmission; its content is formed now and it is no longer pending (R188, R189). -/
def execNoticeTransmit (s : State) : Host.Outcome State Fault Refusal :=
  if s.powered && s.cu.noticePending then
    let s := s.advance s.txTime
    let frame := msgBytes (byteOf s.straps.address.val) kindNotice 0 s.noticePayload
    .next (({ s with cu := { s.cu with noticePending := false } }).transmit frame)
  else .next s

end Sys2Proof.Machine
end

