-- ==== Sys2Proof/Machine/Operands.lean ====
section
/-! DEFINITION. The operands of the requests: kind codes, implied payload lengths, and the fields of each
payload with their codes (R205, R206). A field outside its range or code gives `none`, which is RANGE. -/

namespace Sys2Proof.Machine

/-- The 22 request kinds, in the order of section 11.3's table (R205). -/
inductive RequestKind where
  | ident
  | status
  | clear
  | timeSet
  | timeGet
  | tableGet
  | tablePut
  | accountRead
  | windowPeek
  | logInfo
  | logRead
  | linkStatus
  | linkRestart
  | pointStatus
  | pointSubstitute
  | pointRestore
  | preset
  | mode
  | lock
  | unlock
  | erase
  | reset
  deriving DecidableEq, Repr

/-- The code of a request kind, 0x01 to 0x16 (R205). -/
def RequestKind.code : RequestKind → Byte
  | .ident => 0x01
  | .status => 0x02
  | .clear => 0x03
  | .timeSet => 0x04
  | .timeGet => 0x05
  | .tableGet => 0x06
  | .tablePut => 0x07
  | .accountRead => 0x08
  | .windowPeek => 0x09
  | .logInfo => 0x0A
  | .logRead => 0x0B
  | .linkStatus => 0x0C
  | .linkRestart => 0x0D
  | .pointStatus => 0x0E
  | .pointSubstitute => 0x0F
  | .pointRestore => 0x10
  | .preset => 0x11
  | .mode => 0x12
  | .lock => 0x13
  | .unlock => 0x14
  | .erase => 0x15
  | .reset => 0x16

/-- A kind byte names a request (R205). -/
def isRequestCode (kind : Byte) : Bool := decide (1 ≤ kind.toNat ∧ kind.toNat ≤ 22)

/-- The kinds that are served in HALTED (R195). -/
def RequestKind.servedInHalted : RequestKind → Bool
  | .ident => true
  | .status => true
  | .reset => true
  | _ => false

/-- The code of a table, 1 to 10 (R206). -/
def tableCode (t : TableId) : Nat := t.idx.val + 1

/-- The table of a code (R206). -/
def tableOf (code : Nat) : Option TableId := if code = 0 then none else TableId.all[code - 1]?

/-- Bytes of the selector of a table (R206). -/
def selectorLength : TableId → Nat
  | .composition => 2
  | .contract => 0
  | .health => 0
  | .notice => 0
  | .patrol => 0
  | _ => 1

/-- Bytes of the content of a put to a table; the term count of a COMPOSITION put stands in the payload
(R206). -/
def contentLength (payload : List Byte) : TableId → Nat
  | .links => 6
  | .points => 39
  | .breakers => 3
  | .topology => 3
  | .composition => 1 + 2 * natAt payload 3 1
  | .bands => 3
  | .contract => 8
  | .health => 3
  | .notice => 3
  | .patrol => 2

/-- The payload of a TABLE.GET or TABLE.PUT has the length that its table implies; a code outside 1..10
passes at any length (R195, R206). -/
def fitsTable (content : Bool) (payload : List Byte) : Bool :=
  match payload with
  | [] => false
  | code :: _ =>
    match tableOf code.toNat with
    | none => true
    | some t =>
      payload.length ==
        1 + selectorLength t + (if content then contentLength payload t else 0)

/-- The payload has the length that the kind implies (R206). -/
def RequestKind.fits (payload : List Byte) : RequestKind → Bool
  | .clear => payload.length == 2
  | .timeSet => payload.length == 6
  | .tableGet => fitsTable false payload
  | .tablePut => fitsTable true payload
  | .accountRead => payload.length == 1
  | .logRead => payload.length == 5
  | .linkStatus => payload.length == 1
  | .linkRestart => payload.length == 1
  | .pointStatus => payload.length == 1
  | .pointSubstitute => payload.length == 1
  | .pointRestore => payload.length == 1
  | .preset => payload.length == 201
  | .mode => payload.length == 1
  | _ => payload.length == 0

/-! ## Fields -/

/-- A number below a bound. -/
def finOf (k n : Nat) : Option (Fin k) := if h : n < k then some ⟨n, h⟩ else none

/-- A field that is set or clear; above 1 it is out of range (R206). -/
def flagOf : Nat → Option Bool
  | 0 => some false
  | 1 => some true
  | _ => none

/-- A slot reference: 0xFF is null, else 16 × link + slot (R206). The outer `none` is RANGE. -/
def slotRefOf (n : Nat) : Option (Option SlotRef) :=
  if n = 255 then some none
  else
    match finOf 4 (n / 16), finOf 12 (n % 16) with
    | some l, some c => some (some ⟨l, c⟩)
    | _, _ => none

/-- A term: the point number, then the sign (R206). -/
def termOf (payload : List Byte) (start : Nat) : Option Term :=
  match finOf 16 (natAt payload start 1), flagOf (natAt payload (start + 1) 1) with
  | some p, some negative => some ⟨p, negative⟩
  | _, _ => none

/-- `n` terms from a place on. -/
def termsOf (payload : List Byte) : Nat → Nat → Option (List Term)
  | _, 0 => some []
  | start, n + 1 =>
    match termOf payload start, termsOf payload (start + 2) n with
    | some t, some rest => some (t :: rest)
    | _, _ => none

/-- The profile of a code (R208). -/
def profileOf : Nat → Option Profile
  | 0 => some .basic
  | 1 => some .extended
  | 2 => some .full
  | _ => none

/-- The slot kind of a bit (R208). -/
def kindOf (current : Bool) : SlotKind := if current then .current else .voltage

/-- A LINKS entry (R206); the twelve slot-kind bits are bits 0 to 11. -/
def linkEntryOf (c : List Byte) : Option LinkEntry :=
  let kinds := natAt c 4 2
  match flagOf (natAt c 0 1), profileOf (natAt c 1 1), flagOf (natAt c 2 1) with
  | some enabled, some highest, some allowed =>
    if kinds < 4096 then
      some
        { enabled := enabled, highest := highest, fixedAllowed := allowed
          fixedCount := natAt c 3 1, fixedKinds := Vector.ofFn fun i => kindOf (bitAt kinds i.val) }
    else none
  | _, _, _ => none

/-- One phase of a POINTS entry (R206). -/
def phaseOf (c : List Byte) (start : Nat) : Option PhaseRefs :=
  match slotRefOf (natAt c start 1), slotRefOf (natAt c (start + 1) 1), flagOf (natAt c (start + 2) 1) with
  | some v, some i, some invert => some ⟨v, i, invert⟩
  | _, _, _ => none

/-- The substitute of a POINTS entry: kind, term count and four terms (R206). -/
def substituteAt (c : List Byte) (start : Nat) : Option Substitute :=
  match natAt c start 1 with
  | 0 => some .none
  | 1 => (finOf 16 (natAt c (start + 2) 1)).map Substitute.alternate
  | 2 =>
    if within 1 4 (natAt c (start + 1) 1) then
      (termsOf c (start + 2) (natAt c (start + 1) 1)).map Substitute.derived
    else none
  | _ => none

/-- A POINTS entry (R206). -/
def pointEntryOf (c : List Byte) : Option PointEntry :=
  match phaseOf c 0, phaseOf c 3, phaseOf c 6 with
  | some a, some b, some d =>
    match flagOf (natAt c 15 1), substituteAt c 28, flagOf (natAt c 38 1) with
    | some importOnly, some sub, some auto =>
      some
        { phases := #v[a, b, d], un := natAt c 9 4, deadPct := natAt c 13 1
          livePct := natAt c 14 1, importOnly := importOnly, currentFloor := natAt c 16 4
          apparentFloor := natAt c 20 8, substitute := sub, autoSub := auto }
    | _, _, _ => none
  | _, _, _ => none

/-- A breaker's entry: used flag, link and pair (R206). -/
def breakerEntryOf (c : List Byte) : Option (Option BreakerRef) :=
  match flagOf (natAt c 0 1), finOf 4 (natAt c 1 1), finOf 8 (natAt c 2 1) with
  | some used, some l, some p => some (if used then some ⟨l, p⟩ else none)
  | _, _, _ => none

/-- The required state of a two-bit code; 3 is out of range (R76, R206). -/
def positionOf : Nat → Option Position
  | 1 => some .closed
  | 2 => some .opened
  | _ => none

/-- The two-bit code of breaker `b`. -/
def requiredCode (bits b : Nat) : Nat := bits / 4 ^ b % 4

/-- A TOPOLOGY entry (R206). -/
def topologyEntryOf (c : List Byte) : Option TopologyEntry :=
  let bits := natAt c 1 2
  match flagOf (natAt c 0 1) with
  | none => none
  | some valid =>
    if (List.range 8).any fun b => requiredCode bits b == 3 then none
    else
      some { valid := valid, required := Vector.ofFn fun b => positionOf (requiredCode bits b.val) }

/-- A BANDS entry; unconfigured it ignores lo and hi (R206). -/
def bandOf (c : List Byte) : Option (Option Band) :=
  match flagOf (natAt c 0 1) with
  | none => none
  | some false => some none
  | some true => some (some ⟨natAt c 1 1, natAt c 2 1⟩)

/-- A NOTICE table: the discipline's code is 0 or 1 (R206). -/
def noticeOf (c : List Byte) : Option NoticeTable :=
  match flagOf (natAt c 0 1) with
  | none => none
  | some hold =>
    some
      { discipline := if hold then .hold else .follow
        masked := Vector.ofFn fun i => bitAt (natAt c 1 2) i.val }

/-- The part that a TABLE.PUT carries, from its payload (R206). -/
def partOf (payload : List Byte) : Option TablePart :=
  let sel := natAt payload 1 1
  let c := payload.drop 2
  match tableOf (natAt payload 0 1) with
  | none => none
  | some .links =>
    match finOf 4 sel, linkEntryOf c with
    | some l, some e => some (.links l e)
    | _, _ => none
  | some .points =>
    match finOf 16 sel, pointEntryOf c with
    | some p, some e => some (.points p e)
    | _, _ => none
  | some .breakers =>
    if sel = 8 then some (.settle (natAt c 0 1))
    else
      match finOf 8 sel, breakerEntryOf c with
      | some b, some e => some (.breaker b e)
      | _, _ => none
  | some .topology =>
    match finOf 4 sel, topologyEntryOf c with
    | some m, some e => some (.topology m e)
    | _, _ => none
  | some .composition =>
    match finOf 4 sel, finOf 8 (natAt payload 2 1), termsOf payload 4 (natAt payload 3 1) with
    | some m, some a, some terms => some (.composition m a terms)
    | _, _, _ => none
  | some .bands =>
    match finOf 8 sel, bandOf c with
    | some b, some e => some (.bands b e)
    | _, _ => none
  | some .contract =>
    let c := payload.drop 1
    some (.contract
      { minutes := natAt c 0 1, ratio := natAt c 1 2, holdLimit := natAt c 3 1
        allowance := natAt c 4 2, shadowPeriod := natAt c 6 2 })
  | some .health =>
    let c := payload.drop 1
    some (.health { limit := natAt c 0 1, fault := natAt c 1 1, clear := natAt c 2 1 })
  | some .notice => (noticeOf (payload.drop 1)).map TablePart.notice
  | some .patrol => some (.patrol (natAt payload 1 2))

/-- The part in force that a TABLE.GET selects (R198, R206). -/
def Tables.select (payload : List Byte) (t : Tables) : Option TablePart :=
  let sel := natAt payload 1 1
  match tableOf (natAt payload 0 1) with
  | none => none
  | some .links => (finOf 4 sel).map fun l => .links l t.links[l]
  | some .points => (finOf 16 sel).map fun p => .points p t.points[p]
  | some .breakers =>
    if sel = 8 then some (.settle t.breakers.settle)
    else (finOf 8 sel).map fun b => .breaker b t.breakers.entries[b]
  | some .topology => (finOf 4 sel).map fun m => .topology m t.topology[m]
  | some .composition =>
    match finOf 4 sel, finOf 8 (natAt payload 2 1) with
    | some m, some a => some (.composition m a (t.composition[m])[a])
    | _, _ => none
  | some .bands => (finOf 8 sel).map fun b => .bands b t.bands[b]
  | some .contract => some (.contract t.contract)
  | some .health => some (.health t.health)
  | some .notice => some (.notice t.notice)
  | some .patrol => some (.patrol t.patrol)

/-- The 25 values of a PRESET (R206). -/
def presetValues (payload : List Byte) : Vector Nat 25 :=
  Vector.ofFn fun i => natAt payload (1 + 8 * i.val) 8

/-- The target of a MODE (R206). -/
def modeOf : Nat → Option DeviceMode
  | 1 => some .metering
  | 2 => some .commissioning
  | _ => none

end Sys2Proof.Machine
end

