-- ==== Sys2Proof/Machine/Replies.lean ====
section
/-! DEFINITION. The ACK payloads of chapter 12 (R205, R207), coded as R206 states: a listed value by its
place in the list of its rule, counting from 1, and none or an absent value as 0. -/

namespace Sys2Proof.Machine

/-- A list of `n` entries, its unused places holding `zero` (R207). -/
def padTo {α : Type} (n : Nat) (zero : α) (l : List α) : List α := (l ++ List.replicate n zero).take n

/-! ## Codes -/

/-- A slot reference as one byte (R206). -/
def slotByte : Option SlotRef → Byte
  | none => 0xFF
  | some r => byteOf (16 * r.link.val + r.slot.val)

/-- A term as two bytes (R206). -/
def Term.bytes (t : Term) : List Byte := [byteOf t.point.val, flagByte t.negative]

/-- The substitute of a POINTS entry: kind, term count, four terms (R206). -/
def Substitute.bytes : Substitute → List Byte
  | .none => List.replicate 10 0
  | .alternate p => [1, 0, byteOf p.val] ++ List.replicate 7 0
  | .derived terms => [2, byteOf terms.length] ++ padTo 8 0 (terms.flatMap Term.bytes)

/-- Whether a slot kind is CURRENT. -/
def SlotKind.isCurrent : SlotKind → Bool
  | .voltage => false
  | .current => true

/-- The code of a required state (R206). -/
def requiredOf : Option Position → Nat
  | none => 0
  | some .closed => 1
  | some .opened => 2

/-- Two bits for each breaker, breaker 0 lowest (R206). -/
def requiredBits : List (Option Position) → Nat
  | [] => 0
  | p :: rest => requiredOf p + 4 * requiredBits rest

/-- The selector of a table part (R206). -/
def TablePart.selector : TablePart → List Byte
  | .links l _ => [byteOf l.val]
  | .points p _ => [byteOf p.val]
  | .breaker b _ => [byteOf b.val]
  | .settle _ => [8]
  | .topology m _ => [byteOf m.val]
  | .composition m a _ => [byteOf m.val, byteOf a.val]
  | .bands b _ => [byteOf b.val]
  | _ => []

/-- One phase of a POINTS entry (R206). -/
def PhaseRefs.bytes (p : PhaseRefs) : List Byte := [slotByte p.voltage, slotByte p.current, flagByte p.invert]

/-- The content of a POINTS entry (R206). -/
def PointEntry.bytes (e : PointEntry) : List Byte :=
  e.phases.toList.flatMap PhaseRefs.bytes ++ leBytes 4 e.un ++
    [byteOf e.deadPct, byteOf e.livePct, flagByte e.importOnly] ++ leBytes 4 e.currentFloor ++
    leBytes 8 e.apparentFloor ++ e.substitute.bytes ++ [flagByte e.autoSub]

/-- The masks of the NOTICE table (R206). -/
def NoticeTable.maskBytes (t : NoticeTable) : List Byte := leBytes 2 (bitsOf t.masked.toList)

/-- The content of a table part as in TABLE.PUT (R206, R207). -/
def TablePart.content : TablePart → List Byte
  | .links _ e =>
    [flagByte e.enabled, byteOf e.highest.code, flagByte e.fixedAllowed, byteOf e.fixedCount] ++
      leBytes 2 (kindBits e.fixedKinds.toList)
  | .points _ e => e.bytes
  | .breaker _ none => [0, 0, 0]
  | .breaker _ (some r) => [1, byteOf r.link.val, byteOf r.pair.val]
  | .settle n => [byteOf n, 0, 0]
  | .topology _ e => flagByte e.valid :: leBytes 2 (requiredBits e.required.toList)
  | .composition _ _ terms => byteOf terms.length :: terms.flatMap Term.bytes
  | .bands _ none => [0, 0, 0]
  | .bands _ (some b) => [1, byteOf b.lo, byteOf b.hi]
  | .contract t =>
    [byteOf t.minutes] ++ leBytes 2 t.ratio ++ [byteOf t.holdLimit] ++ leBytes 2 t.allowance ++
      leBytes 2 t.shadowPeriod
  | .health t => [byteOf t.limit, byteOf t.fault, byteOf t.clear]
  | .notice t => byteOf t.discipline.code :: t.maskBytes
  | .patrol p => leBytes 2 p

/-- METERING 1, COMMISSIONING 2 (R152, R206). -/
def DeviceMode.code : DeviceMode → Nat
  | .metering => 1
  | .commissioning => 2

/-- VALID 1, INVALID 2 (R168). -/
def validityCode (valid : Bool) : Nat := if valid then 1 else 2

/-- FRESH 1, HELD 2, MISSING 3 (R49). -/
def Status.code : Status → Nat
  | .fresh => 1
  | .held => 2
  | .missing => 3

/-- NO-FRAME 1, SLOT-RANGE 2, KIND 3 (R49). -/
def MissReason.code : MissReason → Nat
  | .noFrame => 1
  | .slotRange => 2
  | .kind => 3

/-- DIRECT 1, SHADOW 2, SUBSTITUTED 3 (R49). -/
def PointMode.code : PointMode → Nat
  | .direct => 1
  | .shadow => 2
  | .substituted => 3

/-- CLOSED 1, OPEN 2, UNKNOWN 3 (R73). -/
def BreakerState.code : BreakerState → Nat
  | .closed => 1
  | .opened => 2
  | .unknown => 3

/-- CLOSED 1, OPEN 2, DISAGREE 3, NO-REPORT 4 (R73). -/
def Report.code : Report → Nat
  | .closed => 1
  | .opened => 2
  | .disagree => 3
  | .noReport => 4

/-- The place of a link state in R112's list. -/
def LinkState.code : LinkState → Nat
  | .disabled => 1
  | .offering => 2
  | .acknowledging => 3
  | .up _ => 4
  | .breaking => 5

/-- The form of an UP link: 1 negotiated, 2 fixed, else 0 (R207). -/
def LinkState.form : LinkState → Nat
  | .up false => 1
  | .up true => 2
  | _ => 0

/-- FREE 1, ASSIGNED 2, RETIRED 3 (R130). -/
def SpareState.code : SpareState → Nat
  | .free => 1
  | .assigned _ => 2
  | .retired => 3

/-- NORMAL 1, SAVING 2, SAVED 3 (section 9.2). -/
def SupplyState.code : SupplyState → Nat
  | .normal => 1
  | .saving => 2
  | .saved => 3

/-- POWER-ON 1, PIN 2, SOFT 3 (R179). -/
def ResetKind.code : ResetKind → Nat
  | .powerOn => 1
  | .pin => 2
  | .soft => 3

/-- SAVED 1, CLEAN 2, RUNNING 3, unusable 4 (R179). -/
def MarkerFound.code : MarkerFound → Nat
  | .saved => 1
  | .clean => 2
  | .running => 3
  | .unusable => 4

/-- CONTINUED 1, CLOSED 2, forced closed 3 (R207). -/
def SavedOutcome.code : SavedOutcome → Nat
  | .continued => 1
  | .closed => 2
  | .forcedClosed => 3

/-- IN-FLIGHT 1, RECORD-PLACES 2, SUPPLY 3 (R152). -/
def StopReason.code : StopReason → Nat
  | .inFlight => 1
  | .recordPlaces => 2
  | .supply => 3

/-- The code of the latched rate (R207). -/
def rateCode : Rate → Nat
  | .baud115200 => 0
  | .baud921600 => 1

/-- The class of a job, 1 to 6 (R132). -/
def Job.class : Job → Nat
  | .save _ => 1
  | .block _ _ => 2
  | .record _ _ => 3
  | .config _ _ => 4
  | .read _ _ => 5
  | .patrol _ _ => 6

/-- A code that may be absent. -/
def optCode {α : Type} (code : α → Nat) (x : Option α) : Byte := byteOf ((x.map code).getD 0)

/-! ## IDENT, TIME.GET, CLEAR -/

/-- IDENT (R196, R207). -/
def State.identPayload (s : State) : List Byte :=
  leBytes 2 Config.vendorCode ++ leBytes 2 Config.partCode ++
    [byteOf Config.layoutRevision, byteOf s.straps.address.val, byteOf (rateCode s.straps.rate),
      byteOf s.straps.freq.code, 4, 12, 16, 8, 4, 8, 8, 4] ++
    leBytes 2 Config.slotCount

/-- TIME.GET (R168, R207). -/
def State.timePayload (s : State) : List Byte :=
  leBytes 4 s.tk.seconds ++ leBytes 2 s.tk.millis ++ [byteOf (validityCode s.tk.valid)]

/-- CLEAR (R185, R207). -/
def State.clearPayload (s : State) : List Byte := s.cu.flagBytes ++ s.cu.riseBytes

/-- TABLE.GET of a part in force (R198, R207). -/
def State.tablePayload (p : TablePart) (s : State) : List Byte :=
  leBytes 4 s.cm.generation ++ [byteOf (tableCode p.table)] ++ p.selector ++ p.content

/-- The ACK to TABLE.PUT, PRESET, MODE and ERASE (R156, R205). -/
def queuedPayload (number count : Nat) : List Byte := [1] ++ leBytes 4 number ++ [byteOf count]

/-! ## Accounts and windows -/

/-- The mark byte of a register (R207). -/
def Register.markByte (r : Register) : Byte := byteOf (bitsOf [r.saturated, r.restored, r.invalid])

/-- The open interval's part of ACCOUNT.READ; a NONE account reads 0 (R24, R46). -/
def intervalBytes (residues : Vector Nat 24) (iv : Option Interval) : List Byte :=
  let iv := iv.getD (Interval.fresh true 0 false)
  iv.partials.toList.flatMap (leBytes 8) ++ residues.toList.flatMap (leBytes 4) ++
    leBytes 4 iv.startTime ++ [byteOf (bitsOf [iv.timeInvalid, iv.outage, iv.gapBefore])] ++
    iv.counts.list.flatMap (leBytes 4) ++ [byteOf iv.maps.toNat]

/-- ACCOUNT.READ (R46, R207): interval state 1 is OPEN, and NONE is 0. A next boundary above 4,294,967,295
is reported modulo 2^32 (assumption 49). -/
def State.accountPayload (a : AccountId) (s : State) : List Byte :=
  let acc := s.ia.accounts[a]
  [byteOf a.val, flagByte acc.interval.isSome] ++ acc.regs.toList.map Register.markByte ++
    acc.regs.toList.flatMap (fun r => leBytes 8 r.value) ++ intervalBytes acc.residues acc.interval ++
    [flagByte s.ia.nextBoundary.isSome] ++ leBytes 4 (s.ia.nextBoundary.getD 0)

/-- The eleven values of a contribution (R207). -/
def PointVector.bytes (v : PointVector) : List Byte :=
  leInt 8 v.p1 ++ leInt 8 v.q1 ++ leInt 8 v.qh ++ v.pb.toList.flatMap (leInt 8)

/-- A last-contribution record, 98 bytes (R12, R207). -/
def contributionBytes : Option Contribution → List Byte
  | none => List.replicate 98 0
  | some c =>
    [1] ++ leBytes 2 c.seq.toNat ++ [byteOf c.map.val] ++ leBytes 4 c.duration ++
      [flagByte c.offFreq, byteOf c.mode.code] ++ c.vector.bytes

/-- WINDOW.PEEK (R12, R207). -/
def State.peekPayload (s : State) : List Byte := s.pau.toList.flatMap contributionBytes

/-! ## The log -/

/-- LOG.INFO (R142, R207): the oldest sequence is the controller's own, in an empty log too
(assumptions 24 and 56), and modulo 2^32 (assumption 63). -/
def State.logInfoPayload (s : State) : List Byte :=
  leBytes 4 s.rsc.oldest ++ leBytes 4 s.rsc.newest ++ leBytes 2 s.rsc.logCount ++
    leBytes 2 s.rsc.logCapacity ++ [byteOf s.rsc.map.badSlots.length] ++
    leBytes 4 (min s.ia.nextSeq u32Max) ++ [byteOf s.rsc.records.length]

/-! ## Links and points -/

/-- The seven counters of a link (R125, R207). -/
def LinkCounters.bytes (c : LinkCounters) : List Byte :=
  [c.framesGood, c.crcErrors, c.repeatsSent, c.late, c.duplicates, c.jabberCuts, c.restarts].flatMap
    (leBytes 4)

/-- An OFFER content behind its present flag (R207). -/
def offerBytes : Option OfferContent → List Byte
  | none => List.replicate 6 0
  | some c => 1 :: c.payload

/-- An ACCEPT content behind its present flag (R207). -/
def acceptBytes : Option AcceptContent → List Byte
  | none => List.replicate 6 0
  | some c => 1 :: c.payload

/-- The resolved profile, channel count and slot kinds of an UP link (R207). -/
def resolvedBytes : Option AcceptContent → List Byte
  | none => List.replicate 4 0
  | some c => c.payload.drop 1

/-- The running timer and its remaining time (R207). -/
def Link.timerBytes (k : Link) : List Byte :=
  match k.silence, k.breakHold with
  | some n, _ => 1 :: leBytes 2 n
  | none, some n => 2 :: leBytes 2 n
  | none, none => [0, 0, 0]

/-- Up to four sequences behind their count (R207). -/
def sequenceBytes (l : List Seq) : List Byte :=
  byteOf l.length :: padTo 8 0 (l.flatMap fun q => leBytes 2 q.toNat)

/-- LINK.STATUS (R126, R207): the candidate is there in ACKNOWLEDGING alone. The runs and the refused
content are reported as the link holds them in every state (assumptions 16 and 53), and the lost list in the order
in which its sequences joined it (assumption 67). -/
def State.linkPayload (l : LinkId) (s : State) : List Byte :=
  let k := s.links[l]
  [byteOf l.val, byteOf k.state.code, byteOf k.state.form] ++ resolvedBytes k.resolved ++
    leBytes 2 (k.offset.getD 0).toNat ++
    acceptBytes (if k.state = .acknowledging then k.candidate else none) ++ offerBytes k.lastOffer ++
    offerBytes k.refused ++
    [byteOf k.offerRun, byteOf k.acceptRun, byteOf k.windowRun, byteOf k.errorRun] ++
    sequenceBytes k.lost ++ k.timerBytes ++ k.counters.bytes

/-- The shadow part of POINT.STATUS (R69, R207). -/
def shadowBytes : Option Shadow → List Byte
  | none => List.replicate 6 0
  | some sh => leBytes 2 sh.windows ++ leBytes 2 sh.period ++ leBytes 2 sh.comparisons

/-- The last shadow result behind its present flag (R69, R207). -/
def shadowResultBytes : Option ShadowResult → List Byte
  | none => List.replicate 19 0
  | some r => 1 :: (leInt 8 r.p1Mean ++ leInt 8 r.q1Mean ++ leBytes 2 r.seq.toNat)

/-- POINT.STATUS (R69, R207): presence LIVE 1 and DEAD 2, health HEALTHY 1 and FAULT 2. -/
def State.pointPayload (p : PointId) (s : State) : List Byte :=
  let q := s.points[p]
  let stored := s.cm.stored[p]
  [byteOf p.val, byteOf q.orders, byteOf (if q.live then 1 else 2), optCode Status.code q.lastStatus,
    optCode MissReason.code q.missReason, byteOf q.hold, flagByte q.lastGood.isSome,
    byteOf q.health, byteOf (if q.fault then 2 else 1),
    byteOf (bitsOf [q.failed.t1, q.failed.t2, q.failed.t3, q.failed.t4]), byteOf q.mode.code] ++
    shadowBytes q.shadow ++
    [byteOf (if stored.substituted then PointMode.substituted.code else PointMode.direct.code)] ++
    shadowResultBytes stored.shadowResult

/-! ## STATUS -/

/-- The conditions (R184, R207). -/
def State.conditionSection (s : State) : List Byte :=
  s.cu.flagBytes ++ s.cu.sourceBytes ++ s.cu.riseBytes ++ s.cm.tables.notice.maskBytes ++
    [byteOf s.cm.tables.notice.discipline.code, flagByte s.cu.noticePending]

/-- A queue entry, less its number: kind, table code and two selector bytes (R167, R207). -/
def Change.bytes : Change → List Byte
  | .table p => [1, byteOf (tableCode p.table)] ++ padTo 2 0 p.selector
  | .preset a _ => [2, 0, byteOf a.val, 0]
  | .mode m => [3, 0, byteOf m.code, 0]
  | .erase => [4, 0, 0, 0]

/-- A number behind its present flag. -/
def optNumber : Option Nat → List Byte
  | none => List.replicate 5 0
  | some n => 1 :: leBytes 4 n

/-- The configuration manager (R167, R207). -/
def State.managerSection (s : State) : List Byte :=
  let m := s.cm
  leBytes 4 m.generation ++ [byteOf m.mode.code, flagByte m.locked, flagByte s.straps.service] ++
    [byteOf m.queue.length] ++
    padTo 64 0 (m.queue.flatMap fun e => leBytes 4 e.number ++ e.change.bytes) ++
    optNumber (m.stop.map (·.1)) ++ [optCode StopReason.code (m.stop.map (·.2))] ++
    optNumber m.lastApplied ++ optNumber m.lastDiscarded ++ leBytes 4 m.discards ++
    leBytes 4 m.nextChange

/-- An open record, 11 bytes (R106, R207). -/
def AssemblyRecord.bytes (now : Nat) (r : AssemblyRecord) : List Byte :=
  leBytes 2 r.seq.toNat ++ [byteOf r.expected.toNat, byteOf r.arrived.toNat] ++
    leBytes 4 r.duration ++ [flagByte r.offFreq] ++ leBytes 2 (r.deadline - now)

/-- The window assembler (R106, R207): the open records in the order in which they opened
(assumption 52). -/
def State.assemblerSection (s : State) : List Byte :=
  let w := s.wa
  leBytes 2 w.front.toNat ++ [flagByte w.processing.isSome, byteOf w.records.length] ++
    padTo 44 0 (w.records.flatMap (·.bytes s.timeBase)) ++
    w.buffers.toList.flatMap fun b => sequenceBytes (b.map (·.seq))

/-- One breaker (R86, R207). -/
def Breaker.bytes (b : Breaker) : List Byte :=
  [byteOf b.state.code, byteOf b.settle, optCode Report.code b.lastReport]

/-- The topology resolver (R86, R207). -/
def State.resolverSection (s : State) : List Byte :=
  s.tr.breakers.toList.flatMap Breaker.bytes ++
    [byteOf s.tr.map.val, flagByte s.tr.matched, flagByte s.tr.transfer]

/-- The jobs that a class holds, the running and the preempted one among them (R132, R149). -/
def Controller.jobsOf (r : Controller) (c : Nat) : Nat :=
  let active := ([r.running, r.preempted].filterMap id).filter fun j => j.job.class == c
  let queued := match c with
    | 1 => r.saveQueue.toList.length
    | 2 => r.blockQueue.length
    | 3 => r.recordQueue.length
    | 4 => r.configQueue.length
    | 5 => r.readQueue.toList.length
    | 6 => if r.patrolQueued then 1 else 0
    | _ => 0
  active.length + queued

/-- A spare: its state and the account assigned to it (R149, R207). -/
def SpareState.bytes : SpareState → List Byte
  | .assigned a => [2, byteOf a.val]
  | x => [byteOf x.code, 0]

/-- The block of an account: 0..7, or 8..11 for a spare (R207). -/
def BlockLoc.code : BlockLoc → Nat
  | .register n => n.val
  | .spare n => 8 + n.val

/-- The patrol position (R207). -/
def PatrolPos.bytes : PatrolPos → List Byte
  | .account a => 1 :: leBytes 4 a.val
  | .config t => 2 :: leBytes 4 (tableCode t)
  | .record q => 3 :: leBytes 4 q

/-- The retained store (R149, R207). A read that runs shows attempt 1 (assumption 60), and the bad slots stand in
the order in which they were found (assumption 68). -/
def State.storeSection (s : State) : List Byte :=
  let r := s.rsc
  [r.counters.retries, r.counters.patrolSteps, r.counters.transients, r.counters.repairs,
      r.counters.recordErrors, r.counters.saveFailures].flatMap (leBytes 4) ++
    [1, 2, 3, 4, 5, 6].map (fun c => byteOf (r.jobsOf c)) ++
    [optCode (fun j => j.job.class) r.running, optCode (fun j => j.attempt) r.running] ++
    [byteOf r.map.badSlots.length] ++ padTo 128 0 (r.map.badSlots.flatMap (leBytes 2)) ++
    r.map.spares.toList.flatMap SpareState.bytes ++
    (List.finRange 8).map (fun a => byteOf (r.map.blockOf a).code) ++ r.patrolPos.bytes ++
    [flagByte r.alert, flagByte r.saveFailed]

/-- A time behind its seconds, ms and validity; an absent one reads 0. -/
def timeBytes : Option TimeStamp → List Byte
  | none => List.replicate 7 0
  | some t => leBytes 4 t.seconds ++ leBytes 2 t.millis ++ [byteOf (validityCode t.valid)]

/-- The supply monitor (R173, R179, R207). -/
def State.supplySection (s : State) : List Byte :=
  let m := s.sm
  [byteOf m.state.code, flagByte m.deassertHeld,
      optCode (fun x => if x.1 then 1 else 2) m.lastSave] ++
    timeBytes (m.lastSave.map (·.2)) ++
    [byteOf m.start.kind.code, byteOf m.start.marker.code, optCode SavedOutcome.code m.start.intervals] ++
    leBytes 4 m.start.savedGeneration ++ leBytes 4 m.start.blockGeneration

/-- Whether the part is HALTED, and the latched straps (R197, R207). -/
def State.haltSection (s : State) : List Byte :=
  [flagByte s.rsc.halted, byteOf s.straps.address.val, byteOf (rateCode s.straps.rate),
    byteOf s.straps.freq.code, flagByte s.straps.service]

/-- The nine counters of the message link (R193, R207). -/
def MsgCounters.bytes (c : MsgCounters) : List Byte :=
  [c.buffered, c.framing, c.stray, c.lengthErrors, c.crcErrors, c.gaps, c.overflows,
    c.broadcastsIgnored, c.otherAddress].flatMap (leBytes 4)

/-- STATUS, its sections in order (R197, R207). -/
def State.statusPayload (s : State) : List Byte :=
  s.conditionSection ++ s.managerSection ++ s.assemblerSection ++ s.resolverSection ++
    s.storeSection ++ s.supplySection ++ s.timePayload ++ s.haltSection ++ s.mlc.counters.bytes

end Sys2Proof.Machine
end

