-- ==== Sys2Proof/Machine/Requests.lean ====
section
/-! DEFINITION. The 22 requests as they are taken from the receive buffer and answered (R194 to R201). -/

namespace Sys2Proof.Machine

/-! ## Taking a request -/

/-- A request can be taken: no request is in service and no RESET has been taken (R194, R201). -/
def State.canServe (s : State) : Bool := s.powered && s.mlc.inService.isNone && !s.mlc.resetTaken

/-- The oldest buffered frame is taken as a request of kind `k` and judged: MALFORMED, HALTED, then the
kind's own checks and effect `act` on its payload (R194, R195). With no such frame nothing is taken. -/
def State.serve (k : RequestKind) (act : List Byte → State → State) (s : State) :
    Host.Outcome State Fault Refusal :=
  if !s.canServe then .next s
  else
    match s.mlc.buffer with
    | [] => .next s
    | f :: _ =>
      if f.kind ≠ k.code then .next s
      else if !k.fits f.payload then .next (s.refuse .malformed)
      else if s.rsc.halted && !k.servedInHalted then .next (s.refuse .halted)
      else .next (act f.payload s)

/-- The request in service waits (R194). -/
def State.waitFor (w : ServiceWait) (s : State) : State := s.updMlc fun m => { m with inService := some w }

/-! ## Identity, status and flags -/

/-- IDENT (R196). -/
def execIdent (s : State) : Host.Outcome State Fault Refusal :=
  s.serve .ident fun _ s => s.ack s.identPayload

/-- The effect of a STATUS: the content is formed, which clears flags under FOLLOW and withdraws a pending
notice (R184, R188, R197). -/
def State.answerStatus (s : State) : State :=
  let payload := s.statusPayload
  ({ s with cu := s.cu.statusFormed s.cm.tables.notice }).ack payload

/-- STATUS (R197). -/
def execStatus (s : State) : Host.Outcome State Fault Refusal := s.serve .status fun _ s => s.answerStatus

/-- The effect of a CLEAR: STATE under FOLLOW, else the named flags are re-checked (R184, R185). -/
def State.answerClear (named : Nat) (s : State) : State :=
  match s.cm.tables.notice.discipline with
  | .follow => s.refuse .state
  | .hold =>
    let s := { s with cu := s.cu.clearNamed s.cm.tables.notice.masked named }
    s.ack s.clearPayload

/-- CLEAR (R185). -/
def execClear (s : State) : Host.Outcome State Fault Refusal :=
  s.serve .clear fun p s => s.answerClear (natAt p 0 2)

/-! ## Time -/

/-- The timekeeper takes a new time and is VALID (R169). -/
def State.setTime (seconds millis : Nat) (s : State) : State :=
  ({ s with tk := { s.tk with seconds := seconds, millis := millis, valid := true } }).giveTimeInvalid

/-- A small step: time VALID and at most 2,000 ms in magnitude (R169). -/
def State.smallStep (seconds millis : Nat) (s : State) : Bool :=
  let new := seconds * 1000 + millis
  s.tk.valid && decide (new ≤ s.tk.ms + Config.smallStep ∧ s.tk.ms ≤ new + Config.smallStep)

/-- The TIME.SET is answered ACK, once no close of its step waits (R169, R194). -/
def State.finishTimeSet (s : State) : State :=
  if s.ia.waiting.any (·.awaited) then s.waitFor .timeSet else s.ack []

/-- A small step moves the count. In METERING a boundary that it reaches or passes falls; in COMMISSIONING
the next boundary is set afresh (R33). -/
def State.takeSmallStep (seconds millis : Nat) (s : State) : State :=
  let s := s.setTime seconds millis
  match s.cm.mode with
  | .commissioning => s.freshBoundary
  | .metering =>
    match s.ia.nextBoundary with
    | none => s
    | some b => if b ≤ seconds then s.boundaryFalls true else s

/-- A large step sets the time and the next boundary afresh; in METERING every OPEN account closes with
cause TIME-STEP, at the old time, or at 0 from INVALID (R33). -/
def State.takeLargeStep (seconds millis : Nat) (s : State) : State :=
  let old := s.closeTime
  let s := s.setTime seconds millis
  if s.cm.mode = .metering ∧ s.openCount ≠ 0 then
    (s.raiseEvent ⟨.timeStep, old, .atCount, true, true⟩).freshBoundary
  else s.freshBoundary

/-- A large step that would make TIME-STEP closes is not admitted while a close is in flight or the supply
monitor is not NORMAL (R33, R169). -/
def State.barsLargeStep (s : State) : Bool :=
  s.cm.mode == .metering &&
    (s.ia.accounts.toList.any (·.inFlight) || s.sm.state != .normal || s.rsc.halted)

/-- The effect of a TIME.SET (R169). -/
def State.answerTimeSet (seconds millis : Nat) (s : State) : State :=
  if 999 < millis then s.refuse .range
  else if s.smallStep seconds millis then (s.takeSmallStep seconds millis).finishTimeSet
  else if s.barsLargeStep then s.refuse .state
  else (s.takeLargeStep seconds millis).finishTimeSet

/-- TIME.SET, addressed or broadcast (R169, R192). -/
def execTimeSet (s : State) : Host.Outcome State Fault Refusal :=
  s.serve .timeSet fun p s => s.answerTimeSet (natAt p 0 4) (natAt p 4 2)

/-- TIME.GET (R168). -/
def execTimeGet (s : State) : Host.Outcome State Fault Refusal :=
  s.serve .timeGet fun _ s => s.ack s.timePayload

/-! ## Tables and the change queue -/

/-- The effect of a TABLE.GET (R198). -/
def State.answerTableGet (payload : List Byte) (s : State) : State :=
  match s.cm.tables.select payload with
  | none => s.refuse .range
  | some p => s.ack (s.tablePayload p)

/-- TABLE.GET (R198). -/
def execTableGet (s : State) : Host.Outcome State Fault Refusal :=
  s.serve .tableGet fun p s => s.answerTableGet p

/-- The kinds of change that the lock bars (R166). -/
def Change.lockable : Change → Bool
  | .table p =>
    match p.table with
    | .links => false
    | .health => false
    | .notice => false
    | .patrol => false
    | _ => true
  | .preset _ _ => true
  | .mode .commissioning => true
  | .mode .metering => false
  | .erase => true

/-- The lock bars a change: it is set, and SERVICE was not latched asserted (R166). -/
def State.barred (c : Change) (s : State) : Bool := s.cm.locked && !s.straps.service && c.lockable

/-- Steps 3 and 4 of the arrival checks, and the entry at the tail of the queue (R156, R157). -/
def State.enqueue (c : Change) (s : State) : State :=
  if s.barred c then s.refuse .locked
  else if Config.changePlaces ≤ s.cm.queue.length then s.refuse .queueFull
  else
    let n := s.cm.nextChange
    let s := s.updCm fun m => { m with queue := m.queue ++ [⟨n, c⟩], nextChange := countUp n }
    s.ack (queuedPayload n s.cm.queue.length)

/-- The effect of a TABLE.PUT: RANGE, REFERENCE, then the queue (R156). -/
def State.answerTablePut (payload : List Byte) (s : State) : State :=
  match partOf payload with
  | none => s.refuse .range
  | some p =>
    if !p.inRange then s.refuse .range
    else if !p.consistent s.cm.tables then s.refuse .reference
    else s.enqueue (.table p)

/-- TABLE.PUT (R156). -/
def execTablePut (s : State) : Host.Outcome State Fault Refusal :=
  s.serve .tablePut fun p s => s.answerTablePut p

/-- The effect of a PRESET request (R156, R163). -/
def State.answerPreset (payload : List Byte) (s : State) : State :=
  match finOf 8 (natAt payload 0 1) with
  | none => s.refuse .range
  | some a => s.enqueue (.preset a (presetValues payload))

/-- PRESET (R163). -/
def execPreset (s : State) : Host.Outcome State Fault Refusal := s.serve .preset fun p s => s.answerPreset p

/-- The effect of a MODE request (R156, R162). -/
def State.answerMode (target : Nat) (s : State) : State :=
  match modeOf target with
  | none => s.refuse .range
  | some m => s.enqueue (.mode m)

/-- MODE (R162). -/
def execMode (s : State) : Host.Outcome State Fault Refusal :=
  s.serve .mode fun p s => s.answerMode (natAt p 0 1)

/-- ERASE (R164). -/
def execErase (s : State) : Host.Outcome State Fault Refusal := s.serve .erase fun _ s => s.enqueue .erase

/-- The lock flag changes: the CONTRACT block is written with it, and while the supply monitor is not NORMAL
the save is called again (R165, R171). -/
def State.setLock (locked : Bool) (s : State) : State :=
  if s.cm.locked = locked then s
  else
    let s := (s.updCm fun m => { m with locked := locked }).handConfig .contract
    if s.sm.state = .normal then s else s.callSave

/-- The effect of a LOCK (R165). -/
def State.answerLock (s : State) : State :=
  if !s.cm.locked && s.cm.queue.any (fun e => e.change.lockable) then s.refuse .state
  else (s.setLock true).ack []

/-- LOCK (R165). -/
def execLock (s : State) : Host.Outcome State Fault Refusal := s.serve .lock fun _ s => s.answerLock

/-- The effect of an UNLOCK (R165). -/
def State.answerUnlock (s : State) : State :=
  if s.straps.service then (s.setLock false).ack [] else s.refuse .locked

/-- UNLOCK (R165). -/
def execUnlock (s : State) : Host.Outcome State Fault Refusal := s.serve .unlock fun _ s => s.answerUnlock

/-! ## Reads -/

/-- The effect of an ACCOUNT.READ (R46, R199). -/
def State.answerAccountRead (account : Nat) (s : State) : State :=
  match finOf 8 account with
  | none => s.refuse .range
  | some a => s.ack (s.accountPayload a)

/-- ACCOUNT.READ (R199). -/
def execAccountRead (s : State) : Host.Outcome State Fault Refusal :=
  s.serve .accountRead fun p s => s.answerAccountRead (natAt p 0 1)

/-- WINDOW.PEEK (R199). -/
def execWindowPeek (s : State) : Host.Outcome State Fault Refusal :=
  s.serve .windowPeek fun _ s => s.ack s.peekPayload

/-- LOG.INFO (R142, R200). -/
def execLogInfo (s : State) : Host.Outcome State Fault Refusal :=
  s.serve .logInfo fun _ s => s.ack s.logInfoPayload

/-- The effect of a LOG.READ: a class-5 job joins the queue, and the request waits for it (R200). -/
def State.answerLogRead (first count : Nat) (s : State) : State :=
  if count = 1 ∨ count = 2 then
    (s.updRsc fun r => { r with readQueue := some ⟨first, count == 2⟩ }).waitFor .logRead
  else s.refuse .range

/-- LOG.READ (R200). -/
def execLogRead (s : State) : Host.Outcome State Fault Refusal :=
  s.serve .logRead fun p s => s.answerLogRead (natAt p 0 4) (natAt p 4 1)

/-! ## Links and points -/

/-- The effect of a LINK.STATUS (R126). -/
def State.answerLinkStatus (link : Nat) (s : State) : State :=
  match finOf 4 link with
  | none => s.refuse .range
  | some l => s.ack (s.linkPayload l)

/-- LINK.STATUS (R126). -/
def execLinkStatus (s : State) : Host.Outcome State Fault Refusal :=
  s.serve .linkStatus fun p s => s.answerLinkStatus (natAt p 0 1)

/-- The effect of a LINK.RESTART (R124). -/
def State.answerLinkRestart (link : Nat) (s : State) : State :=
  match finOf 4 link with
  | none => s.refuse .range
  | some l => if (s.links[l]).state = .disabled then s.refuse .state else (s.enterBreaking l).ack []

/-- LINK.RESTART (R124). -/
def execLinkRestart (s : State) : Host.Outcome State Fault Refusal :=
  s.serve .linkRestart fun p s => s.answerLinkRestart (natAt p 0 1)

/-- The effect of a POINT.STATUS (R69). -/
def State.answerPointStatus (point : Nat) (s : State) : State :=
  match finOf 16 point with
  | none => s.refuse .range
  | some p => s.ack (s.pointPayload p)

/-- POINT.STATUS (R69). -/
def execPointStatus (s : State) : Host.Outcome State Fault Refusal :=
  s.serve .pointStatus fun p s => s.answerPointStatus (natAt p 0 1)

/-- The effect of a POINT.SUBSTITUTE (R63). -/
def State.answerPointSubstitute (point : Nat) (s : State) : State :=
  match finOf 16 point with
  | none => s.refuse .range
  | some p =>
    if (s.cm.tables.points[p]).substitute = .none then s.refuse .reference
    else if (s.points[p]).mode = .direct then (s.enterShadow p).ack []
    else s.refuse .state

/-- POINT.SUBSTITUTE (R63). -/
def execPointSubstitute (s : State) : Host.Outcome State Fault Refusal :=
  s.serve .pointSubstitute fun p s => s.answerPointSubstitute (natAt p 0 1)

/-- The effect of a POINT.RESTORE (R66). -/
def State.answerPointRestore (point : Nat) (s : State) : State :=
  match finOf 16 point with
  | none => s.refuse .range
  | some p =>
    match (s.points[p]).mode with
    | .direct => s.refuse .state
    | .shadow => (s.toDirect p).ack []
    | .substituted => if (s.points[p]).fault then s.refuse .state else (s.toDirect p).ack []

/-- POINT.RESTORE (R66). -/
def execPointRestore (s : State) : Host.Outcome State Fault Refusal :=
  s.serve .pointRestore fun p s => s.answerPointRestore (natAt p 0 1)

/-! ## The soft reset, and kinds that name no request -/

/-- What a taken RESET does while the part is not HALTED: a queued patrol read is dropped, and in METERING
every OPEN account closes with cause RESET, none opening after it (R35, R181). -/
def State.beginReset (s : State) : State :=
  let s := s.updRsc fun r => { r with patrolQueued := false }
  if s.cm.mode = .metering ∧ s.openCount ≠ 0 then
    s.raiseEvent ⟨.reset, s.closeTime, .nothing, false, false⟩
  else s

/-- The effect of a RESET request (R181, R201). -/
def State.answerReset (s : State) : State :=
  if !s.rsc.halted && s.sm.state != .normal then s.refuse .state
  else
    let s := (s.ack []).updMlc fun m => { m with resetTaken := true }
    if s.rsc.halted then s else s.beginReset

/-- RESET (R181, R201). -/
def execReset (s : State) : Host.Outcome State Fault Refusal := s.serve .reset fun _ s => s.answerReset

/-- UNKNOWN_REQUEST_KIND: the oldest buffered frame is taken, its kind names no request, and it is answered
UNKNOWN, in every state (R195). -/
def execUnknownRequestKind (s : State) : Host.Outcome State Fault Refusal :=
  if !s.canServe then .next s
  else
    match s.mlc.buffer with
    | [] => .next s
    | f :: _ => if isRequestCode f.kind then .next s else .next (s.refuse .unknown)

end Sys2Proof.Machine
end

