-- ==== Sys2Proof/Machine/Dispatch.lean ====
section
/-! DEFINITION. The dispatch: one arm for each command, each one call of its meaning. -/

namespace Sys2Proof.Machine

/-- The effect of a command on everything but the queue. -/
def exec (i : Instr) (s : State) : Host.Outcome State Fault Refusal :=
  match i with
  | .powerOnReset straps left decayed => Sys2Proof.Machine.execPowerOnReset straps left decayed s
  | .pinReset straps left decayed => Sys2Proof.Machine.execPinReset straps left decayed s
  | .tkSecondsWrap => Sys2Proof.Machine.execTkSecondsWrap s
  | .intervalBoundary => Sys2Proof.Machine.execIntervalBoundary s
  | .closeEventBegin => Sys2Proof.Machine.execCloseEventBegin s
  | .pfwAssert => Sys2Proof.Machine.execPfwAssert s
  | .pfwDeassert => Sys2Proof.Machine.execPfwDeassert s
  | .messageFrameReceived bytes => Sys2Proof.Machine.execMessageFrameReceived bytes s
  | .framingError => Sys2Proof.Machine.execFramingError s
  | .byteGapExpiry => Sys2Proof.Machine.execByteGapExpiry s
  | .ident => Sys2Proof.Machine.execIdent s
  | .status => Sys2Proof.Machine.execStatus s
  | .clear => Sys2Proof.Machine.execClear s
  | .timeSet => Sys2Proof.Machine.execTimeSet s
  | .timeGet => Sys2Proof.Machine.execTimeGet s
  | .tableGet => Sys2Proof.Machine.execTableGet s
  | .tablePut => Sys2Proof.Machine.execTablePut s
  | .accountRead => Sys2Proof.Machine.execAccountRead s
  | .windowPeek => Sys2Proof.Machine.execWindowPeek s
  | .logInfo => Sys2Proof.Machine.execLogInfo s
  | .logRead => Sys2Proof.Machine.execLogRead s
  | .logReadJobDone firstOk secondOk => Sys2Proof.Machine.execLogReadJobDone firstOk secondOk s
  | .linkStatus => Sys2Proof.Machine.execLinkStatus s
  | .linkRestart => Sys2Proof.Machine.execLinkRestart s
  | .pointStatus => Sys2Proof.Machine.execPointStatus s
  | .pointSubstitute => Sys2Proof.Machine.execPointSubstitute s
  | .pointRestore => Sys2Proof.Machine.execPointRestore s
  | .preset => Sys2Proof.Machine.execPreset s
  | .mode => Sys2Proof.Machine.execMode s
  | .lock => Sys2Proof.Machine.execLock s
  | .unlock => Sys2Proof.Machine.execUnlock s
  | .erase => Sys2Proof.Machine.execErase s
  | .reset => Sys2Proof.Machine.execReset s
  | .unknownRequestKind => Sys2Proof.Machine.execUnknownRequestKind s
  | .softResetProceed marker decayed => Sys2Proof.Machine.execSoftResetProceed marker decayed s
  | .noticeTransmit => Sys2Proof.Machine.execNoticeTransmit s
  | .offerFrame link content => Sys2Proof.Machine.execOfferFrame link content s
  | .acceptFrame link content => Sys2Proof.Machine.execAcceptFrame link content s
  | .windowFrame link frame => Sys2Proof.Machine.execWindowFrame link frame s
  | .invalidFrame link => Sys2Proof.Machine.execInvalidFrame link s
  | .damagedWindow link seq => Sys2Proof.Machine.execDamagedWindow link seq s
  | .jabberCut link => Sys2Proof.Machine.execJabberCut link s
  | .jabberIdleEnd link => Sys2Proof.Machine.execJabberIdleEnd link s
  | .offerSendPeriod link => Sys2Proof.Machine.execOfferSendPeriod link s
  | .acceptSendPeriod link => Sys2Proof.Machine.execAcceptSendPeriod link s
  | .linkFrameSend link => Sys2Proof.Machine.execLinkFrameSend link s
  | .silenceTimerExpiry link => Sys2Proof.Machine.execSilenceTimerExpiry link s
  | .breakHoldExpiry link => Sys2Proof.Machine.execBreakHoldExpiry link s
  | .assemblyDeadlineExpiry seq => Sys2Proof.Machine.execAssemblyDeadlineExpiry seq s
  | .takeWindow applied => Sys2Proof.Machine.execTakeWindow applied s
  | .windowBoundary => Sys2Proof.Machine.execWindowBoundary s
  | .storeJobStart => Sys2Proof.Machine.execStoreJobStart s
  | .storeWriteAttemptDone result => Sys2Proof.Machine.execStoreWriteAttemptDone result s
  | .patrolStepDue => Sys2Proof.Machine.execPatrolStepDue s
  | .patrolReadDone agrees => Sys2Proof.Machine.execPatrolReadDone agrees s
  | .lossOfSupply left => Sys2Proof.Machine.execLossOfSupply left s
  | .oscillatorStop => Sys2Proof.Machine.execOscillatorStop s
  | .strayByte byte => Sys2Proof.Machine.execStrayByte byte s

end Sys2Proof.Machine
end

