-- ==== Sys2Proof/Safety.lean ====
section
/-! DEFINITION. What counts as a sound state and a sound run, in the words that statements use: the
capacities of the queues and buffers, the canonical form of the record slots, the bound of the residues, the
alignment of the window assembler, and what one close event does. -/

namespace Sys2Proof.Machine

/-! ## Invariants -/

/-- The capacities of R157 (change queue), R193 (receive buffer), R131 (patrol history) and R182 (rise
counts). -/
def State.capacitiesOk (s : State) : Prop :=
  s.cm.queue.length ≤ 8 ∧ s.mlc.buffer.length ≤ 2 ∧ s.rsc.history.length ≤ 2 ∧
    ∀ i : Fin 16, s.cu.rises[i] ≤ 255

/-- A job stands preempted only while no job runs, or a save-block job does: the save alone preempts, and the
preempted job is the next that resumes (R134). -/
def State.jobsOk (s : State) : Prop :=
  s.rsc.preempted ≠ none → s.rsc.running = none ∨ ∃ b n, s.rsc.running = some ⟨.save b, n⟩

/-- A record job writes a slot that exists (R130). -/
def slotInRange : Option ActiveJob → Prop
  | some ⟨.record _ n, _⟩ => n < Config.slotCount
  | _ => True

/-- The record slots stand in their canonical form, and every started record job writes a slot that exists
(R130). -/
def State.slotsOk (s : State) : Prop :=
  slotsWf s.store.slots = true ∧ slotInRange s.rsc.running ∧ slotInRange s.rsc.preempted

/-- Every residue is below one unit of energy (R18, R203). -/
def residuesBelow (r : Vector Nat 24) : Prop := ∀ i : Fin 24, r[i] < Config.energyUnit

/-- The residues of a save-block content are below the unit. -/
def SaveBlock.residuesOk : SaveBlock → Prop
  | .saved c => ∀ a : AccountId, residuesBelow (c.accounts[a]).residues
  | _ => True

/-- The residues of the content that a started job writes are below the unit. -/
def jobResiduesOk : Option ActiveJob → Prop
  | some ⟨.block c _, _⟩ => residuesBelow c.residues
  | some ⟨.save b, _⟩ => b.residuesOk
  | _ => True

/-- The residues of a block of the store are below the unit. -/
def blockResiduesOk : Option RegContent → Prop
  | some c => residuesBelow c.residues
  | none => True

/-- Every residue that the part holds is below the unit: in the accounts, the block images, the queued
and started jobs, and the store (R18, R41, R130, R171, R203). -/
def State.residuesOk (s : State) : Prop :=
  (∀ a : AccountId, residuesBelow (s.ia.accounts[a]).residues) ∧
  (∀ a : AccountId, residuesBelow (s.rsc.images[a]).residues) ∧
  (∀ c ∈ s.rsc.blockQueue, residuesBelow c.residues) ∧
  jobResiduesOk s.rsc.running ∧ jobResiduesOk s.rsc.preempted ∧
  (∀ a : AccountId, blockResiduesOk s.store.registers[a]) ∧
  (∀ n : SpareId, blockResiduesOk s.store.spares[n]) ∧
  (∀ b, s.store.save = some b → b.residuesOk)

/-- The ten counts of an interval agree: every window is good, held or missing, no flag counts more windows than
there were, and the total fits 32 bits (R29). -/
def WindowCounts.ok (c : WindowCounts) : Prop :=
  c.total = c.good + c.held + c.missing ∧ c.total ≤ u32Max ∧
    c.transfer ≤ c.total ∧ c.offFreq ≤ c.total ∧ c.partialOrders ≤ c.total ∧ c.suspect ≤ c.total ∧
    c.undefinedTopology ≤ c.total ∧ c.substituted ≤ c.total

/-- The counts of the intervals and records of a save-block content agree. -/
def SaveBlock.countsOk : SaveBlock → Prop
  | .saved c =>
    (∀ (a : AccountId) (iv : Interval), (c.accounts[a]).interval = some iv → iv.counts.ok) ∧
      ∀ r ∈ c.records, r.counts.ok
  | _ => True

/-- The counts of the records in the content that a started job writes agree. -/
def jobCountsOk : Option ActiveJob → Prop
  | some ⟨.record r _, _⟩ => r.counts.ok
  | some ⟨.save b, _⟩ => b.countsOk
  | _ => True

/-- The counts of every open interval and of every interval record agree: in the accounts, the queued and
started jobs, and the store (R29, R40, R130, R171). -/
def State.countsOk (s : State) : Prop :=
  (∀ (a : AccountId) (iv : Interval), (s.ia.accounts[a]).interval = some iv → iv.counts.ok) ∧
  (∀ r ∈ s.rsc.recordQueue, r.counts.ok) ∧ jobCountsOk s.rsc.running ∧ jobCountsOk s.rsc.preempted ∧
  (∀ p ∈ s.store.slots, p.2.counts.ok) ∧ ∀ b, s.store.save = some b → b.countsOk

/-- Distinct sequences within W..W+3. -/
def alignedSeqs (front : Seq) (l : List Seq) : Prop := l.Nodup ∧ ∀ q ∈ l, (q - front).toNat ≤ 3

/-- Alignment buffers, open records and lost lists hold distinct sequences within W..W+3, and no sequence is
both lost and buffered on one link (R91, R94, R121). -/
def State.alignmentOk (s : State) : Prop :=
  alignedSeqs s.wa.front (s.wa.records.map (·.seq)) ∧
  ∀ l : LinkId,
    alignedSeqs s.wa.front ((s.wa.buffers[l]).map (·.seq)) ∧
    alignedSeqs s.wa.front (s.links[l]).lost ∧
    ∀ b ∈ s.wa.buffers[l], b.seq ∉ (s.links[l]).lost

/-! ## Runs -/

/-- The commands that end with start-up or with the loss of the supply (R180, R181). -/
def restarts : Instr → Bool
  | .powerOnReset _ _ _ => true
  | .pinReset _ _ _ => true
  | .softResetProceed _ _ => true
  | .lossOfSupply _ => true
  | _ => false

/-- What the accounts hold of energy: registers with their marks, residues and open partials. -/
def State.energies (s : State) (a : AccountId) :
    Vector Register 25 × Vector Nat 24 × Option (Vector Nat 25) :=
  ((s.ia.accounts[a]).regs, (s.ia.accounts[a]).residues,
    (s.ia.accounts[a]).interval.map (·.partials))

/-! ## One close event -/

/-- What an event that closes every OPEN account does to one account: an account that is NONE is not
changed; an OPEN one has its registers closed, keeps its residues, has a close in flight, and holds the
fresh interval that `start` names, or none (R32, R36, R38, R39, R42). -/
def accountClosed (t : ContractTable) (valid : Bool) (start : Option Nat) (before after : Account) :
    Prop :=
  match before.interval with
  | none => after = before
  | some iv =>
    after.regs = closedRegs t.ratio iv before.regs ∧ after.residues = before.residues ∧
      after.inFlight = true ∧
      after.interval = start.map fun n => Interval.fresh valid n before.gapMark

/-- An event closed every OPEN account of `s` and left `t`: every account as `accountClosed` says, and the
records, one for each OPEN account, with consecutive sequences, join the record class (R37, R40, R41). -/
def closesMade (cause : EndCause) (endTime : Nat) (start : Option Nat) (s t : State) : Prop :=
  (∀ a : AccountId,
    accountClosed s.cm.tables.contract s.tk.valid start s.ia.accounts[a] t.ia.accounts[a]) ∧
  t.ia.nextSeq = s.ia.nextSeq + s.openCount ∧
  ∃ l, t.rsc.recordQueue = s.rsc.recordQueue ++ l ∧
    l.map (·.seq) = List.range' s.ia.nextSeq s.openCount ∧
    ∀ r ∈ l, r.cause = cause ∧ r.endTime = endTime ∧ r.minutes = s.cm.tables.contract.minutes

/-- An event that closes every OPEN account can be made at once (R34, R35, R37, R133). -/
def State.closesReady (s : State) : Prop :=
  s.sm.state = .normal ∧ s.rsc.halted = false ∧ s.ia.waiting = [] ∧
    s.openCount ≤ s.rsc.freePlaces ∧ s.ia.nextSeq + s.openCount ≤ u32Max + 1

/-- An event that closes every OPEN account arises and cannot begin: an earlier one waits, or the record class
lacks the places (R133). -/
def State.closesWait (s : State) : Prop :=
  s.sm.state = .normal ∧ s.rsc.halted = false ∧ s.openCount ≠ 0 ∧
    (s.ia.waiting ≠ [] ∨ s.rsc.freePlaces < s.openCount)

/-! ## Requests -/

/-- The oldest buffered frame `f` is taken: a request can be served and `f` stands before `rest`
(R194). -/
def State.takes (f : MsgFrame) (rest : List MsgFrame) (s : State) : Prop :=
  s.powered = true ∧ s.mlc.inService = none ∧ s.mlc.resetTaken = false ∧ s.mlc.buffer = f :: rest

/-- The oldest buffered frame `f` has been answered: its place is free, and an addressed frame has its reply,
with the latched address and its own tag, behind the frames that wait to be sent (R193, R194). -/
def State.answered (kind : Byte) (payload : List Byte) (f : MsgFrame) (rest : List MsgFrame)
    (s : State) : State :=
  { s with
    mlc :=
      { s.mlc with
        buffer := rest
        inService := none
        tx :=
          if f.broadcast then s.mlc.tx
          else s.mlc.tx ++ [msgBytes (byteOf s.straps.address.val) kind f.tag payload] } }

/-- The oldest buffered frame `f` is a request of kind `k` that the part serves as it stands (R194, R195). -/
def State.serves (k : RequestKind) (f : MsgFrame) (rest : List MsgFrame) (s : State) : Prop :=
  s.takes f rest ∧ f.kind = k.code ∧ (s.rsc.halted = false ∨ k.servedInHalted = true)

/-- The oldest buffered frame has been answered ACK. -/
def State.acked (payload : List Byte) (f : MsgFrame) (rest : List MsgFrame) (s : State) : State :=
  s.answered kindAck payload f rest

/-- The oldest buffered frame has been answered REFUSED, with a reason and its own kind (R195, R205). -/
def State.refused (reason : Reason) (f : MsgFrame) (rest : List MsgFrame) (s : State) : State :=
  s.answered kindRefused [byteOf reason.code, f.kind] f rest

/-- The command at which a request of a kind is taken. -/
def RequestKind.command : RequestKind → Instr
  | .ident => .ident
  | .status => .status
  | .clear => .clear
  | .timeSet => .timeSet
  | .timeGet => .timeGet
  | .tableGet => .tableGet
  | .tablePut => .tablePut
  | .accountRead => .accountRead
  | .windowPeek => .windowPeek
  | .logInfo => .logInfo
  | .logRead => .logRead
  | .linkStatus => .linkStatus
  | .linkRestart => .linkRestart
  | .pointStatus => .pointStatus
  | .pointSubstitute => .pointSubstitute
  | .pointRestore => .pointRestore
  | .preset => .preset
  | .mode => .mode
  | .lock => .lock
  | .unlock => .unlock
  | .erase => .erase
  | .reset => .reset

/-! ## Links -/

/-- Nothing but link `l`, the condition unit and the window assembler differs between two states. -/
def State.sameButLink (l : LinkId) (s t : State) : Prop :=
  t = { s with links := t.links, cu := t.cu, wa := t.wa } ∧ ∀ m : LinkId, m ≠ l → t.links[m] = s.links[m]

/-- The counters of a link after a valid frame (R125). -/
def LinkCounters.good (c : LinkCounters) : LinkCounters := { c with framesGood := countUp c.framesGood }

/-- Link `l` as it stands in OFFERING after a return to it for which no received OFFER is the cause (R119). -/
def Link.backToOffering (own : LinkTx) (k t : Link) : Prop :=
  t.state = .offering ∧ t.candidate = none ∧ t.refused = none ∧ t.resolved = none ∧ t.offset = none ∧
    t.offerRun = 0 ∧ t.acceptRun = 0 ∧ t.windowRun = 0 ∧ t.silence = none ∧ t.breakHold = none ∧
    t.sendTimer = some 20 ∧ t.waiting = k.waiting.filter (fun x => !x.isPeriodic) ++ [own]

/-- Link `l` has left UP at the window assembler: its buffer is empty, it stands in no record, and the records
that no other link had fed are gone (R101). -/
def Assembler.left (l : LinkId) (w t : Assembler) : Prop :=
  t.front = w.front ∧ t.processing = w.processing ∧ t.buffers = w.buffers.set l [] ∧
    (∀ r ∈ t.records, r.expected.getLsbD l = false ∧ r.arrived.getLsbD l = false ∧ r.arrived ≠ 0) ∧
    ∀ r ∈ w.records, (∃ m : LinkId, m ≠ l ∧ r.arrived.getLsbD m = true) →
      ∃ q ∈ t.records, q.seq = r.seq ∧ q.duration = r.duration ∧ q.offFreq = r.offFreq ∧
        q.deadline = r.deadline ∧
        ∀ m : LinkId, m ≠ l → q.arrived.getLsbD m = r.arrived.getLsbD m ∧
          q.expected.getLsbD m = r.expected.getLsbD m

/-! ## The adjustment to an applied table change -/

/-- A link that was UP has left it, with a LINK-CHANGE pulse; one that was not is not told of (R119). -/
def State.leftUp (l : LinkId) (s t : State) : Prop :=
  if (s.links[l]).isUp then
    (t.links[l]).resolved = none ∧ (t.links[l]).offset = none ∧ (t.links[l]).lost = [] ∧
      (t.links[l]).errorRun = 0 ∧ (t.links[l]).windowSinceUp = false ∧ s.wa.left l t.wa ∧
      t.cu = s.cu.rise s.cm.tables.notice.masked .linkChange
  else t.wa = s.wa ∧ t.cu = s.cu

/-- A link stands in OFFERING right after an entry into it for which no received OFFER is the cause, its OFFER
due (R119). -/
def Link.offersAfresh (own : LinkTx) (k t : Link) : Prop :=
  t.state = .offering ∧ t.candidate = none ∧ t.refused = none ∧ t.offerRun = 0 ∧ t.acceptRun = 0 ∧
    t.windowRun = 0 ∧ t.silence = none ∧ t.breakHold = none ∧ t.sendTimer = some 20 ∧
    t.waiting = k.waiting.filter (fun x => !x.isPeriodic) ++ [own] ∧ t.counters = k.counters

/-- What an applied LINKS change does to the links (R120). -/
def State.linksAdjusted (l : LinkId) (e : LinkEntry) (s t : State) : Prop :=
  let k := s.links[l]
  let was := (s.cm.tables.links[l]).enabled
  let stands : Prop := t.links[l] = k ∧ t.wa = s.wa ∧ t.cu = s.cu
  (∀ m : LinkId, m ≠ l → t.links[m] = s.links[m]) ∧
  (was = false → e.enabled = false → stands) ∧
  (was = false → e.enabled = true →
    k.offersAfresh (t.ownOffer l) t.links[l] ∧ t.wa = s.wa ∧ t.cu = s.cu) ∧
  (was = true → e.enabled = false →
    (t.links[l]).state = .disabled ∧ (t.links[l]).waiting = [] ∧ (t.links[l]).sending = none ∧
      (t.links[l]).silence = none ∧ (t.links[l]).breakHold = none ∧
      (t.links[l]).counters = k.counters ∧ s.leftUp l t) ∧
  (was = true → e.enabled = true →
    (k.state = .breaking ∨ k.state = .disabled → stands) ∧
    (k.state ≠ .breaking → k.state ≠ .disabled →
      k.offersAfresh (t.ownOffer l) t.links[l] ∧ s.leftUp l t))

/-- POINT-FAULT and SUBSTITUTION have their sources from the points as they stand (R68). -/
def State.pointLevels (t : State) : Prop :=
  (t.cu.sources[4] = true ↔ ∃ p : PointId, (t.points[p]).fault = true) ∧
  (t.cu.sources[5] = true ↔ ∃ p : PointId, (t.points[p]).mode ≠ .direct)

/-- What an applied POINTS change does to the points (R50, R67, R68). -/
def State.pointAdjusted (q : PointId) (e : PointEntry) (s t : State) : Prop :=
  let old := s.cm.tables.points[q]
  let p := s.points[q]
  let base : Point :=
    if old.phases = e.phases then p
    else { p with lastGood := none, hold := 0, live := false, health := 0, fault := false,
                  failed := ⟨false, false, false, false⟩ }
  let returns := old.substitute ≠ e.substitute ∧
    (p.mode = .shadow ∨ (p.mode = .substituted ∧ e.substitute = .none))
  (∀ m : PointId, m ≠ q → t.points[m] = s.points[m] ∧ t.cm.stored[m] = s.cm.stored[m]) ∧
  (returns → t.points[q] = { base with mode := .direct, shadow := none } ∧
    t.cm.stored[q] = { s.cm.stored[q] with substituted := false }) ∧
  (¬ returns → t.points[q] = base ∧ t.cm.stored[q] = s.cm.stored[q]) ∧
  (old.phases ≠ e.phases ∨ returns → t.pointLevels)

/-- What an applied HEALTH change does to the points: counters clamped, states evaluated again, and automatic
substitution on entry into FAULT (R60, R65, R67, R68). -/
def State.healthAdjusted (h : HealthTable) (s t : State) : Prop :=
  (∀ q : PointId,
    let p := s.points[q]
    let counter := min p.health h.limit
    let fault := if h.fault ≤ counter then true else if counter ≤ h.clear then false else p.fault
    let enters := fault = true ∧ p.fault = false ∧ (s.cm.tables.points[q]).autoSub = true ∧
      p.mode ≠ .substituted
    (enters → t.points[q] =
        { p with health := counter, fault := fault, mode := .substituted, shadow := none } ∧
      t.cm.stored[q] = { s.cm.stored[q] with substituted := true }) ∧
    (¬ enters → t.points[q] = { p with health := counter, fault := fault } ∧
      t.cm.stored[q] = s.cm.stored[q])) ∧
  t.pointLevels

/-- The breakers after an applied change, and BREAKER-UNKNOWN with them; the map stands (R75, R85). -/
def State.breakersAdjusted (after : BreakerId → Breaker) (s t : State) : Prop :=
  (∀ b : BreakerId, t.tr.breakers[b] = after b) ∧ t.tr = { s.tr with breakers := t.tr.breakers } ∧
  (t.cu.sources[7] = true ↔ ∃ b : BreakerId,
    t.cm.tables.breakers.entries[b] ≠ none ∧ (t.tr.breakers[b]).state = .unknown)

/-- What an applied NOTICE change does to the condition unit (R186, R187). -/
def State.noticeAdjusted (n : NoticeTable) (s t : State) : Prop :=
  let cleared (i : Fin 16) : Prop := s.cm.tables.notice.discipline = .hold ∧
    n.discipline = .follow ∧ isPulse i = false ∧ s.cu.sources[i] = false
  t.cu.sources = s.cu.sources ∧ t.cu.noticePending = s.cu.noticePending ∧
  (∀ i : Fin 16,
    (cleared i → t.cu.flags[i] = false ∧
      t.cu.rises[i] = if s.cu.flags[i] then 0 else s.cu.rises[i]) ∧
    (¬ cleared i → t.cu.flags[i] = s.cu.flags[i] ∧ t.cu.rises[i] = s.cu.rises[i])) ∧
  (t.cu.alert = true ↔ ∃ i : Fin 16, t.cu.flags[i] = true ∧ n.masked[i] = false)

/-- The owners of the runtime state have adjusted it to an applied part, each by its own rule, and changed
stored values queue the POINTS block; what a part does not concern stands (R67, R161). -/
def State.adjusted (part : TablePart) (s t : State) : Prop :=
  (match part with
    | .links l e => s.linksAdjusted l e t
    | _ => t.links = s.links ∧ t.wa = s.wa) ∧
  (match part with
    | .points q e => s.pointAdjusted q e t
    | .health h => s.healthAdjusted h t
    | _ => t.points = s.points ∧ t.cm.stored = s.cm.stored) ∧
  (match part with
    | .breaker b _ =>
      s.breakersAdjusted (fun c => if c = b then Breaker.reset else s.tr.breakers[c]) t
    | .settle n =>
      s.breakersAdjusted (fun c =>
        if s.cm.tables.breakers.entries[c] ≠ none ∧ n ≤ (s.tr.breakers[c]).settle then
          { s.tr.breakers[c] with state := .unknown }
        else s.tr.breakers[c]) t
    | _ => t.tr = s.tr) ∧
  (match part with
    | .contract c => t.ia.nextBoundary =
        if c.minutes = s.cm.tables.contract.minutes then s.ia.nextBoundary
        else if s.tk.valid then
          some ((s.tk.seconds / (c.minutes * 60) + 1) * (c.minutes * 60))
        else none
    | _ => t.ia.nextBoundary = s.ia.nextBoundary) ∧
  (match part with
    | .notice n => s.noticeAdjusted n t
    | _ => True) ∧
  (t.cm.stored ≠ s.cm.stored →
    ∃ j ∈ t.rsc.configQueue, j.content = .points t.cm.tables.points t.cm.stored) ∧
  t.rsc.patrolTimer = s.rsc.patrolTimer

/-! ## Start-up -/

/-- A part of the working copy after the load: its block gives it, or it has its default (R146). -/
def Store.gives {α : Type} (x : TableId) (pick : ConfigContent → Option α) (dflt value : α)
    (st : Store) : Prop :=
  match st.configBlock x with
  | some b => pick b.content = some value
  | none => value = dflt

/-- The ten tables and the points' stored values, each given by its block or by its defaults (R146). -/
def Store.givesTables (t : Tables) (stored : Vector PointStored 16) (st : Store) : Prop :=
  st.gives .links (fun | .links x => some x | _ => none) Tables.default.links t.links ∧
  st.gives .points (fun | .points x y => some (x, y) | _ => none)
    (Tables.default.points, Vector.replicate 16 PointStored.default) (t.points, stored) ∧
  st.gives .breakers (fun | .breakers x => some x | _ => none) Tables.default.breakers t.breakers ∧
  st.gives .topology (fun | .topology x => some x | _ => none) Tables.default.topology t.topology ∧
  st.gives .composition (fun | .composition x => some x | _ => none) Tables.default.composition
    t.composition ∧
  st.gives .bands (fun | .bands x => some x | _ => none) Tables.default.bands t.bands ∧
  st.gives .contract (fun | .contract x _ _ => some x | _ => none) Tables.default.contract t.contract ∧
  st.gives .health (fun | .health x => some x | _ => none) Tables.default.health t.health ∧
  st.gives .notice (fun | .notice x => some x | _ => none) Tables.default.notice t.notice ∧
  st.gives .patrol (fun | .patrol x _ => some x | _ => none) Tables.default.patrol t.patrol

/-- The stored mode and lock: the CONTRACT block gives them, or they are COMMISSIONING and clear (R152). -/
def Store.givesMode (mode : DeviceMode) (locked : Bool) (st : Store) : Prop :=
  st.gives .contract (fun | .contract _ m l => some (m, l) | _ => none) (.commissioning, false)
    (mode, locked)

/-- Start-up forces COMMISSIONING: some table got its defaults, or the saved generation is above
`generation` (R146, R177). -/
def Store.forces (generation : Nat) (st : Store) : Prop :=
  (∃ x : TableId, st.configBlock x = none) ∨
    ∃ c, SaveBlock.saved? st.save = some c ∧ generation < c.generation

/-- The configuration manager after start-up over store `st`: tables, generation, mode and lock, and the
configuration blocks that are queued, each with its content as it stands (R146, R152, R177, R179). -/
def State.managerStarted (st : Store) (t : State) : Prop :=
  t.cm = { Manager.blank with
    tables := t.cm.tables, stored := t.cm.stored, generation := t.cm.generation
    mode := t.cm.mode, locked := t.cm.locked } ∧
  st.givesTables t.cm.tables t.cm.stored ∧
  (∀ x b, st.configBlock x = some b → b.generation ≤ t.cm.generation) ∧
  (t.cm.generation = 0 ∨ ∃ x b, st.configBlock x = some b ∧ b.generation = t.cm.generation) ∧
  (∀ j ∈ t.rsc.configQueue, j = ⟨t.contentOf j.content.table, t.cm.generation⟩) ∧
  ∃ mode locked, st.givesMode mode locked ∧
    (st.forces t.cm.generation → t.cm.mode = .commissioning ∧ t.cm.locked = locked) ∧
    (¬ st.forces t.cm.generation →
      match SaveBlock.saved? st.save with
      | some c => t.cm.mode = c.mode ∧ t.cm.locked = c.locked
      | none => t.cm.mode = mode ∧ t.cm.locked = locked) ∧
    ∀ x : TableId, (∃ j ∈ t.rsc.configQueue, j.content.table = x) ↔
      st.configBlock x = none ∨
        (x = .contract ∧ (t.cm.mode, t.cm.locked) ≠ (mode, locked))

/-- The store map after start-up: the PATROL block's, or the one recovered without it (R146). -/
def Store.givesMap (map : StoreMap) (st : Store) : Prop :=
  (∀ period m g, st.configBlock .patrol = some ⟨.patrol period m, g⟩ → map = m) ∧
  (st.configBlock .patrol = none →
    map.badSlots = [] ∧ map.writePosition = 0 ∧ map.nextSeq = 1 ∧
    (st.slots = [] → map.logFloor = 1) ∧
    (∀ p ∈ st.slots, map.logFloor ≤ p.2.seq) ∧
    (st.slots ≠ [] → ∃ p ∈ st.slots, p.2.seq = map.logFloor) ∧
    ∀ i : SpareId, map.spares[i] =
      match st.spares[i] with
      | none => .free
      | some c =>
        if ∃ j : SpareId, i < j ∧ (st.spares[j]).map (·.account) = some c.account then .retired
        else .assigned c.account)

/-- The bounds of the log after start-up (R147): an empty log where no record stands at or above the floor, else
the newest record with its slot and the oldest sequence that the capacity admits. -/
def Store.givesLog (r : Controller) (st : Store) : Prop :=
  let members := st.members r.map
  (members = [] → r.newest + 1 = r.oldest) ∧
  (members ≠ [] →
    (∃ p ∈ members, p.2.seq = r.newest ∧ p.1 = r.newestSlot) ∧
    (∀ p ∈ members, p.2.seq ≤ r.newest) ∧
    (r.map.badSlots.length < 4096 →
      (∃ p ∈ members, p.2.seq = r.oldest) ∧ r.newest < r.oldest + (4096 - r.map.badSlots.length) ∧
      ∀ p ∈ members, r.newest < p.2.seq + (4096 - r.map.badSlots.length) → r.oldest ≤ p.2.seq))

/-- The store controller after start-up over store `st`: map and log bounds, the block images, a register block
for every account whose block failed, and nothing that ran, was preempted or was counted before (R131, R146,
R147). -/
def State.storeStarted (st : Store) (t : State) : Prop :=
  t.store = st ∧ st.givesMap t.rsc.map ∧ st.givesLog t.rsc ∧
  t.rsc.running = none ∧ t.rsc.preempted = none ∧ t.rsc.readQueue = none ∧
  t.rsc.patrolQueued = false ∧ t.rsc.patrolPos = .account 0 ∧
  t.rsc.patrolTimer = t.cm.tables.patrol ∧ t.rsc.history = [] ∧ t.rsc.alert = false ∧
  t.rsc.saveFailed = false ∧ t.rsc.counters = StoreCounters.zero ∧
  (∀ a : AccountId,
    t.rsc.images[a] = ⟨a, (t.ia.accounts[a]).regs, (t.ia.accounts[a]).residues⟩) ∧
  (∀ c ∈ t.rsc.blockQueue, c = t.rsc.images[c.account]) ∧
  (∀ a : AccountId, st.block (t.rsc.map.blockOf a) = none → ∃ c ∈ t.rsc.blockQueue, c.account = a) ∧
  t.rsc.saveQueue =
    if t.pfw then some .save else if t.rsc.consumption = none then some .running else none

/-- The registers and residues of account `a` that start-up finds without a save: its block, the newest record
of it in the log, or 0 marked INVALID (R147). -/
def Store.givesRegisters (r : Controller) (a : AccountId) (regs : Vector Register 25)
    (residues : Vector Nat 24) (st : Store) : Prop :=
  let own := (st.members r.map).filter fun p => p.2.account == a && decide (r.oldest ≤ p.2.seq)
  match st.block (r.map.blockOf a) with
  | some b => regs = b.regs ∧ residues = b.residues
  | none =>
    residues = Vector.replicate 24 0 ∧
    (own = [] → regs = Vector.replicate 25 Register.invalidZero) ∧
    (own ≠ [] → ∃ p ∈ own, (∀ q ∈ own, q.2.seq ≤ p.2.seq) ∧ ∀ i : Fin 25,
      regs[i] = ⟨p.2.snapshot[i], decide (p.2.snapshot[i] = 18446744073709551615), true, false⟩)

/-- The next record sequence that start-up finds: the least that is at least 1, at least the map's, and above
every record of the log and of the save (R147). -/
def Store.givesNextSeq (map : StoreMap) (n : Nat) (st : Store) : Prop :=
  let ok := fun m : Nat => 1 ≤ m ∧ map.nextSeq ≤ m ∧ (∀ p ∈ st.members map, p.2.seq < m) ∧
    ∀ c, SaveBlock.saved? st.save = some c → ∀ r ∈ c.records, r.seq < m
  ok n ∧ ∀ m, ok m → n ≤ m

/-- The next boundary set afresh (R31, R32). -/
def State.boundaryAfresh (t : State) : Option Nat :=
  let step := t.cm.tables.contract.minutes * 60
  if t.tk.valid then some ((t.tk.seconds / step + 1) * step) else none

/-- The accounts after start-up from a store without a save: registers as found, in METERING a fresh interval
each, and a gap mark, which such an interval consumes, when the run before did not end cleanly (R26, R147, R178,
R179). -/
def State.startedWithoutSave (st : Store) (t : State) : Prop :=
  let gap := decide (st.save = some .running ∨ st.save = none)
  t.rsc.halted = false ∧ t.rsc.recordQueue = [] ∧ t.rsc.consumption = none ∧
  t.ia.waiting = [] ∧ t.ia.nextBoundary = t.boundaryAfresh ∧ st.givesNextSeq t.rsc.map t.ia.nextSeq ∧
  t.sm.start.intervals = none ∧ t.sm.start.savedGeneration = 0 ∧
  ∀ a : AccountId, ∃ regs residues, st.givesRegisters t.rsc a regs residues ∧
    t.ia.accounts[a] =
      match t.cm.mode with
      | .metering => ⟨some (.fresh t.tk.valid t.tk.seconds gap), regs, residues, false, false, false⟩
      | .commissioning => ⟨none, regs, residues, gap, false, false⟩

/-- An account as the save holds it, its interval with OUTAGE set (R177). -/
def SavedState.account (c : SavedState) (a : AccountId) : Account :=
  ⟨(c.accounts[a]).interval.map fun iv => { iv with outage := true }, (c.accounts[a]).regs,
    (c.accounts[a]).residues, false, false, false⟩

/-- The accounts that the save holds OPEN. -/
def SavedState.opens (c : SavedState) : List AccountId :=
  (List.finRange 8).filter fun a => (c.accounts[a]).interval.isSome

/-- The saved intervals can go on (R177): time is VALID, the saved next boundary is there and has not fallen, and
save time ≤ count < saved next boundary. -/
def SavedState.continues (tk : Timekeeper) (c : SavedState) : Prop :=
  tk.valid = true ∧ c.boundaryPending = false ∧
    c.time.seconds * 1000 + c.time.millis ≤ tk.seconds * 1000 + tk.millis ∧
    ∃ b, c.nextBoundary = some b ∧ tk.seconds < b

/-- The OUTAGE closes of the saved intervals, in ascending account, after which each closed account opens as
`start` says (R40, R177). They are made at once where the record class has the places for them. -/
def State.savedClosed (c : SavedState) (start : Option Nat) (first : Nat) (closes : List IntervalRecord)
    (t : State) : Prop :=
  t.ia.nextSeq = first + c.opens.length ∧ t.ia.waiting = [] ∧ t.rsc.halted = false ∧
  closes.map (·.seq) = List.range' first c.opens.length ∧ closes.map (·.account) = c.opens ∧
  (∀ r ∈ closes, r.cause = .outage ∧ r.outage = true ∧
    r.endTime = (if c.time.valid then c.time.seconds else 0)) ∧
  ∀ a : AccountId, a ∈ c.opens →
    accountClosed t.cm.tables.contract t.tk.valid start (c.account a) t.ia.accounts[a]

/-- The accounts after start-up from a save: registers and residues are the saved ones; the records above the
log's newest are queued, in ascending sequence; and the saved intervals are continued, closed, or closed with none
opening (R26, R147, R177, R179). -/
def State.startedFromSave (st : Store) (c : SavedState) (t : State) : Prop :=
  let failed := (List.finRange 8).filter fun a => (st.block (t.rsc.map.blockOf a)).isNone
  let fresh := Interval.fresh t.tk.valid t.tk.seconds false
  let metering := ¬ st.forces t.cm.generation ∧ c.mode = .metering
  let ended := st.forces t.cm.generation ∨ (c.mode = .commissioning ∧ c.opens ≠ [])
  t.sm.start.savedGeneration = c.generation ∧
  ∃ first pend closes, st.givesNextSeq t.rsc.map first ∧
    pend.Perm (c.records.filter fun r => decide (t.rsc.newest < r.seq)) ∧
    pend.Pairwise (fun q r => q.seq ≤ r.seq) ∧ t.rsc.recordQueue = pend ++ closes ∧
    t.rsc.consumption =
      (if failed = [] ∧ pend = [] then none else some ⟨failed, pend.map (·.seq)⟩) ∧
    (¬ ended → c.mode = .commissioning →
      t.sm.start.intervals = none ∧ closes = [] ∧ t.ia.nextSeq = first ∧
      t.ia.nextBoundary = t.boundaryAfresh ∧
      ∀ a : AccountId, t.ia.accounts[a] = { c.account a with interval := none }) ∧
    (metering → c.continues t.tk →
      t.sm.start.intervals = some .continued ∧ closes = [] ∧ t.ia.nextSeq = first ∧
      t.ia.nextBoundary = (if c.opens = [] then t.boundaryAfresh else c.nextBoundary) ∧
      ∀ a : AccountId, t.ia.accounts[a] =
        { c.account a with interval := some ((c.account a).interval.getD fresh) }) ∧
    (metering → ¬ c.continues t.tk →
      t.sm.start.intervals = some .closed ∧ t.ia.nextBoundary = t.boundaryAfresh ∧
      (pend.length + c.opens.length ≤ 16 → first + c.opens.length ≤ 4294967296 →
        t.savedClosed c (some t.tk.seconds) first closes ∧
        ∀ a : AccountId, a ∉ c.opens →
          t.ia.accounts[a] = { c.account a with interval := some fresh })) ∧
    (ended →
      t.sm.start.intervals = some .forcedClosed ∧ t.ia.nextBoundary = t.boundaryAfresh ∧
      (pend.length + c.opens.length ≤ 16 → first + c.opens.length ≤ 4294967296 →
        t.savedClosed c none first closes ∧
        ∀ a : AccountId, a ∉ c.opens → t.ia.accounts[a] = c.account a))

/-- The condition unit after start-up: every flag was cleared, and what rises since has its source in the blocks
as they stand (R146, R151, R174, R175, R177, R182). -/
def State.conditionsStarted (st : Store) (t : State) : Prop :=
  let masked := t.cm.tables.notice.masked
  t.cu.sources[0] = t.rsc.halted ∧ t.cu.sources[4] = false ∧
  (t.cu.sources[5] = true ↔ ∃ p : PointId, (t.points[p]).mode ≠ .direct) ∧
  t.cu.sources[6] = false ∧
  (t.cu.sources[7] = true ↔ ∃ b : BreakerId, t.cm.tables.breakers.entries[b] ≠ none) ∧
  t.cu.sources[10] = false ∧
  (t.cu.sources[12] = true ↔ ∃ (a : AccountId) (i : Fin 25),
    (((t.ia.accounts[a]).regs)[i]).marked = true) ∧
  t.cu.sources[14] = !t.tk.valid ∧ t.cu.sources[15] = t.pfw ∧
  (∀ i : Fin 16, isPulse i = false → t.cu.flags[i] = t.cu.sources[i]) ∧
  (∀ i ∈ ([1, 2, 3, 8] : List (Fin 16)), t.cu.flags[i] = false) ∧
  (t.cu.flags[11] = true ↔ (∃ x : TableId, st.configBlock x = none) ∨
    ∃ a : AccountId, st.block (t.rsc.map.blockOf a) = none) ∧
  (t.cu.flags[13] = true ↔
    ∃ c, SaveBlock.saved? st.save = some c ∧ t.cm.generation < c.generation) ∧
  (t.cu.alert = true ↔ ∃ i : Fin 16, t.cu.flags[i] = true ∧ masked[i] = false) ∧
  t.cu.noticePending = t.cu.alert

/-- The part after a start-up of this kind over store `st`, with the straps and the PFW pin given: the working
state of every block discarded, what the load finds taken up, and the part in its mode with its enabled links in
OFFERING (R112, R146, R147, R174 to R179). -/
def State.startedFrom (kind : ResetKind) (straps : Straps) (pfw : Bool) (st : Store) (t : State) : Prop :=
  (t.powered = true ∧ t.straps = straps ∧ t.pfw = pfw ∧ t.timeBase = 0) ∧
  (t.wa = Assembler.reset ∧ t.tr = Resolver.reset ∧ t.mlc = MsgController.reset ∧
    t.pau = Vector.replicate 8 none) ∧
  (∀ p : PointId, t.points[p] = Point.reset t.cm.stored[p]) ∧
  (∀ l : LinkId, t.links[l] =
    if (t.cm.tables.links[l]).enabled then { Link.started straps.freq with waiting := [t.ownOffer l] }
    else Link.reset) ∧
  (t.sm = { t.sm with
      state := if pfw then .saving else .normal
      deassertHeld := false, lastSave := none, saveCalled := pfw } ∧
    t.sm.start.kind = kind ∧ t.sm.start.marker = markerFound st.save ∧
    t.sm.start.blockGeneration = t.cm.generation) ∧
  t.managerStarted st ∧ t.storeStarted st ∧ t.conditionsStarted st ∧ t.ia.pendingBoundary = none ∧
  match SaveBlock.saved? st.save with
  | none => t.startedWithoutSave st
  | some c => t.startedFromSave st c

end Sys2Proof.Machine
end

