-- ==== Sys2Proof/Certificates/Slice0/Obligations.lean ====
section
/-! DEFINITION. The statements for the provers: `Obligations.<Name>` says what the rules that it cites
say of the machine. -/

open Sys2Proof Sys2Proof.Machine

/-! ## The machine as a whole -/

/-- A step takes the command at the front of the queue and runs it with the queue's rest. -/
def Obligations.StepRunsTheFrontCommand : Prop :=
  ∀ (c : Instr) (rest : List Instr) (s : State),
    step { s with pending := c :: rest } = exec c { s with pending := rest }

/-- With no command waiting one millisecond passes: the time base, the timekeeper, and the timers and
transmitters of the links, the store controller and the message link move by it, and nothing else (the model's
choice, assumption 3; away from the limit of the count). -/
def Obligations.IdleStepIsOneMillisecond : Prop :=
  ∀ s : State, s.pending = [] → s.powered = true → s.tk.millis < 1000 →
    s.tk.seconds * 1000 + s.tk.millis + 1 < 4294967296000 →
    ∃ t, step s = .next t ∧
      t = { s with
        tk := t.tk, timeBase := s.timeBase + 1, links := t.links
        rsc := { s.rsc with patrolTimer := s.rsc.patrolTimer - 1 }
        mlc := s.mlc.advance s.straps.rate 1 } ∧
      t.tk = { s.tk with seconds := t.tk.seconds, millis := t.tk.millis } ∧
      t.tk.seconds * 1000 + t.tk.millis = s.tk.seconds * 1000 + s.tk.millis + 1 ∧
      t.tk.millis < 1000 ∧
      ∀ l : LinkId, t.links[l] = (s.links[l]).advance 1

/-- Every command answers a next state, in every state, and takes nothing from the queue of commands. Where
the spec leaves it open this is the model's choice: assumption 6. -/
def Obligations.EveryCommandGoesOn : Prop :=
  ∀ (c : Instr) (s : State), ∃ t, exec c s = .next t ∧ t.pending = s.pending

/-- Right after reset the six invariants below hold; and the reset state is the part after its first power-on,
for a power-on reset over its store as it stands, with the straps low, gives it again (the model's reset
state, assumption 2). -/
def Obligations.StateAtReset : Prop :=
  State.reset.capacitiesOk ∧ State.reset.jobsOk ∧ State.reset.slotsOk ∧ State.reset.residuesOk ∧
    State.reset.countsOk ∧ State.reset.alignmentOk ∧
    exec (.powerOnReset Straps.low .untouched []) State.reset = .next State.reset

/-! ## Invariants -/

/-- Every step keeps the capacities: the change queue holds at most 8 entries (R157), the receive buffer at most
2 frames (R193), the patrol history two mismatches (R131), and a rise count stops at 255 (R183). Every step
keeps it that a job stands preempted only while no job runs or the save does (R134). -/
def Obligations.CapacitiesAreKept : Prop :=
  (∀ s t : State, s.capacitiesOk → step s = .next t → t.capacitiesOk) ∧
    ∀ s t : State, s.jobsOk → step s = .next t → t.jobsOk

/-- Every step keeps the record slots in canonical form, numbered below 4,096 (R130, R136, R137). -/
def Obligations.RecordSlotsAreKept : Prop :=
  ∀ s t : State, s.slotsOk → step s = .next t → t.slotsOk

/-- Every step keeps every residue that the part holds, in its accounts, its jobs and its store, below
3,600,000,000 (R18, R203); and in every open interval and every interval record it keeps total = good + held +
missing, each flag count at most total, and the total within 32 bits (R29, R40). -/
def Obligations.ResiduesAreKept : Prop :=
  (∀ s t : State, s.residuesOk → step s = .next t → t.residuesOk) ∧
    ∀ s t : State, s.countsOk → step s = .next t → t.countsOk

/-- Every step keeps buffers, records and lost lists at distinct sequences within W..W+3 (R91, R94,
R121). -/
def Obligations.AlignmentIsKept : Prop :=
  ∀ s t : State, s.alignmentOk → step s = .next t → t.alignmentOk

/-! ## Rules over all commands -/

/-- HALTED is left by a reset or with the supply, by no other command (R148). -/
def Obligations.HaltedUntilReset : Prop :=
  ∀ (c : Instr) (s t : State), s.rsc.halted = true → restarts c = false →
    exec c s = .next t → t.rsc.halted = true

/-- While the part is HALTED, no register, mark, residue or open partial changes, and no point state (R70,
R148). -/
def Obligations.HaltedKeepsAccountsAndPoints : Prop :=
  ∀ (c : Instr) (s t : State), s.rsc.halted = true → restarts c = false →
    exec c s = .next t →
    t.points = s.points ∧ t.ia.nextSeq = s.ia.nextSeq ∧ ∀ a : AccountId, t.energies a = s.energies a

/-- While the supply monitor is and stays SAVING or SAVED, no close is made: no record is built, and no
register changes (R34). -/
def Obligations.NoCloseOutsideNormal : Prop :=
  ∀ (c : Instr) (s t : State), s.sm.state ≠ .normal → t.sm.state ≠ .normal → restarts c = false →
    exec c s = .next t →
    t.ia.nextSeq = s.ia.nextSeq ∧ ∀ a : AccountId, t.energies a = s.energies a

/-! ## Layouts -/

/-- An acquisition-link frame that is built by the layout of chapter 12 from well-formed content is read back
as the row that carries that content, on every link (R107, R108, R208, R209). -/
def Obligations.LinkFramesReadBack : Prop :=
  ∀ l : LinkId,
    (∀ c : OfferContent, c.wf = true → readLinkFrame l (linkFrame 1 c.payload) = .offerFrame l c) ∧
    (∀ c : AcceptContent, c.wf = true →
      readLinkFrame l (linkFrame 2 c.payload) = .acceptFrame l c) ∧
    (∀ f : WindowFrame, f.wf = true → readLinkFrame l f.bytes = .windowFrame l f)

/-- A table part whose fields lie in their ranges, written as TABLE.GET returns it, is read back as the part
that a TABLE.PUT carries (R206, R207). -/
def Obligations.TablePartsReadBack : Prop :=
  ∀ p : TablePart, p.inRange = true →
    partOf (byteOf (tableCode p.table) :: (p.selector ++ p.content)) = some p

/-! ## The arithmetic, the points and the topology -/

/-- One chosen register receives the whole units of |X| × D plus its residue and keeps what is left over: as
long as the partial is not cut at its limit, partial and residue together grow by exactly |X| × D, in units
of 1/3,600,000,000; every other register keeps its partial and its residue (R18, R19, R30). A window that is
applied to an OPEN account so feeds the register that the sign of the net value chooses: API or APE for P1, RQ1 to
RQ4 for Q1 by the quadrant, HQP or HQN for QH, HBI or HBO for each configured band, 0 counting as positive; and no
other (R14, R15, R21). The total count and one of the good, held and missing counts rise by 1, each flag count that
applies does, and the map joins the maps-used set, until the total stands at 4,294,967,295 (R29). Where the spec
leaves it open this is the model's choice: assumption 9. -/
def Obligations.EnergyIsConserved : Prop :=
  (∀ (duration magnitude : Nat) (i : Fin 24) (iv : Interval) (residues : Vector Nat 24),
    let x := applyEnergy duration iv residues (i, magnitude)
    iv.partials[i.castSucc] + (magnitude * duration + residues[i]) / 3600000000
        ≤ 18446744073709551615 →
    x.1.partials[i.castSucc] * 3600000000 + x.2[i]
      = iv.partials[i.castSucc] * 3600000000 + residues[i] + magnitude * duration ∧
    x.2[i] < 3600000000 ∧ x.1.clamped = iv.clamped ∧
    (∀ j : Fin 25, j ≠ i.castSucc → x.1.partials[j] = iv.partials[j]) ∧
    (∀ j : Fin 24, j ≠ i → x.2[j] = residues[j])) ∧
  ∀ (bands : Vector (Option Band) 8) (duration : Nat) (map : MapId) (r : AccountWindow) (acc : Account),
    let t := acc.applyWindow bands duration map r
    (acc.interval = none → t = acc) ∧
    ∀ iv, acc.interval = some iv → ∃ iv', t.interval = some iv' ∧
      t = { acc with interval := some iv', residues := t.residues } ∧
      iv' = { iv with
        partials := iv'.partials, clamped := iv'.clamped, counts := iv'.counts, maps := iv'.maps } ∧
      (let keeps (i : Fin 24) : Prop := t.residues[i] = acc.residues[i] ∧
        iv'.partials[i.castSucc] = iv.partials[i.castSucc] ∧
        iv'.clamped[i.castSucc] = iv.clamped[i.castSucc]
      let takes (i : Fin 24) (x : Int) : Prop :=
        let total := x.natAbs * duration + acc.residues[i]
        let sum := iv.partials[i.castSucc] + total / 3600000000
        t.residues[i] = total % 3600000000 ∧
        (sum ≤ 18446744073709551615 → iv'.partials[i.castSucc] = sum ∧
          iv'.clamped[i.castSucc] = iv.clamped[i.castSucc]) ∧
        (18446744073709551615 < sum → iv'.partials[i.castSucc] = 18446744073709551615 ∧
          iv'.clamped[i.castSucc] = true)
      let p := r.vector.p1
      let q := r.vector.q1
      (0 ≤ p → takes 0 p ∧ keeps 1) ∧ (p < 0 → keeps 0 ∧ takes 1 p) ∧
      (0 ≤ q → 0 ≤ p → takes 2 q ∧ keeps 3 ∧ keeps 4 ∧ keeps 5) ∧
      (0 ≤ q → p < 0 → keeps 2 ∧ takes 3 q ∧ keeps 4 ∧ keeps 5) ∧
      (q < 0 → p < 0 → keeps 2 ∧ keeps 3 ∧ takes 4 q ∧ keeps 5) ∧
      (q < 0 → 0 ≤ p → keeps 2 ∧ keeps 3 ∧ keeps 4 ∧ takes 5 q) ∧
      (0 ≤ r.vector.qh → takes 6 r.vector.qh ∧ keeps 7) ∧
      (r.vector.qh < 0 → keeps 6 ∧ takes 7 r.vector.qh) ∧
      (∀ b : BandId,
        let inward : Fin 24 := ⟨8 + b.val, by omega⟩
        let outward : Fin 24 := ⟨16 + b.val, by omega⟩
        (bands[b] = none → keeps inward ∧ keeps outward) ∧
        (bands[b] ≠ none → 0 ≤ r.vector.pb[b] → takes inward r.vector.pb[b] ∧ keeps outward) ∧
        (bands[b] ≠ none → r.vector.pb[b] < 0 → keeps inward ∧ takes outward r.vector.pb[b])) ∧
      iv'.partials[24] = iv.partials[24] ∧ iv'.clamped[24] = iv.clamped[24]) ∧
      (4294967295 ≤ iv.counts.total → iv'.counts = iv.counts ∧ iv'.maps = iv.maps) ∧
      (iv.counts.total < 4294967295 →
        let c := iv.counts
        iv'.counts =
          { total := c.total + 1
            good := if r.status = .fresh then c.good + 1 else c.good
            held := if r.status = .held then c.held + 1 else c.held
            missing := if r.status = .missing then c.missing + 1 else c.missing
            transfer := if r.transfer then c.transfer + 1 else c.transfer
            offFreq := if r.offFreq then c.offFreq + 1 else c.offFreq
            partialOrders := if r.partialOrders then c.partialOrders + 1 else c.partialOrders
            suspect := if r.suspect then c.suspect + 1 else c.suspect
            undefinedTopology := if r.undefTopo then c.undefinedTopology + 1 else c.undefinedTopology
            substituted := if r.substituted then c.substituted + 1 else c.substituted } ∧
        ∀ m : MapId, iv'.maps.getLsbD m = (iv.maps.getLsbD m || decide (m = map)))

/-- The excess reactive energy is what the RQ1 partial has above floor(API × k / 1024), and 0 when it has
nothing above it (R38). -/
def Obligations.ExcessReactiveEnergy : Prop :=
  ∀ (iv : Interval) (k : Nat),
    let allowance := iv.partials[0] * k / 1024
    (allowance < iv.partials[2] → (iv.closing k)[24] + allowance = iv.partials[2]) ∧
    (iv.partials[2] ≤ allowance → (iv.closing k)[24] = 0) ∧
    ∀ i : Fin 25, i ≠ 24 → (iv.closing k)[i] = iv.partials[i]

/-- A close adds the partial exactly while the sum is at most 2^64 − 1; a greater sum leaves the register at
that value and marks it SATURATED, as a partial that was cut does; the other marks stand (R39). Where the
spec leaves it open this is the model's choice: assumption 9. -/
def Obligations.RegisterClose : Prop :=
  ∀ (r : Register) (amount : Nat) (clamped : Bool),
    let t := r.add amount clamped
    (r.value + amount ≤ 18446744073709551615 →
      t.value = r.value + amount ∧ t.saturated = (r.saturated || clamped)) ∧
    (18446744073709551615 < r.value + amount →
      t.value = 18446744073709551615 ∧ t.saturated = true) ∧
    t.restored = r.restored ∧ t.invalid = r.invalid

/-- The point stage gives each point one direct status and one direct vector per window. Delivered, it is FRESH,
with its vector when it is LIVE and the zero vector when it is DEAD, and the vector becomes the last-good one;
not delivered, it is HELD on that vector while the hold count is below M, and else MISSING with the zero vector
(R54, R55). H_p is the least order count of the profiles that its references name, 50 for an empty entry, and
stays while a named link has no resolved profile (R53). A delivered point becomes LIVE when every used phase
reaches the live threshold, DEAD when every one is below the dead threshold, and else keeps its presence (R56).
In a tested window four tests are made (R58), the health counter rises by 4 to its limit or falls by 1, and F
and C settle the state (R59, R60). Where the spec leaves it open this is the model's choice: assumption 14. -/
def Obligations.PointStage : Prop :=
  ∀ (t : Tables) (links : Vector Link 4) (w : Window) (e : PointEntry) (p : Point),
    let d := directPoint t links w e p
    let reason := missReason links w e.used
    let refs := references e.used
    let dead : Int := (e.un * e.deadPct / 100 : Nat)
    let alive : Int := (e.un * e.livePct / 100 : Nat)
    d.point.lastStatus = some d.status ∧ d.point.mode = p.mode ∧ d.point.shadow = p.shadow ∧
    (e.used = [] → d.point.orders = 50) ∧
    ((∃ x ∈ refs, (links[x.1.link]).resolved = none) → d.point.orders = p.orders) ∧
    (e.used ≠ [] → (∀ x ∈ refs, (links[x.1.link]).resolved ≠ none) →
      (∃ x ∈ refs, ∃ c, (links[x.1.link]).resolved = some c ∧ d.point.orders = c.profile.orders) ∧
      ∀ x ∈ refs, ∀ c, (links[x.1.link]).resolved = some c → d.point.orders ≤ c.profile.orders) ∧
    (reason ≠ none →
      d.point.missReason = reason ∧ d.point.live = p.live ∧ d.point.health = p.health ∧
      d.point.fault = p.fault ∧ d.point.lastGood = p.lastGood ∧
      (∀ v, p.lastGood = some v → p.hold < t.contract.holdLimit →
        d.status = .held ∧ d.vector = v ∧ d.point.hold = p.hold + 1) ∧
      (p.lastGood = none ∨ t.contract.holdLimit ≤ p.hold →
        d.status = .missing ∧ d.vector = .zero ∧ d.point.hold = p.hold)) ∧
    (reason = none →
      d.status = .fresh ∧ d.point.hold = 0 ∧ d.point.lastGood = some d.vector ∧
      d.vector = (if d.point.live then directVector e.used t.bands w d.point.orders else .zero) ∧
      d.point.missReason = (if e.used = [] then none else p.missReason) ∧
      (e.used = [] → d.point.live = p.live) ∧
      (e.used ≠ [] → d.point.live =
        if ∀ φ ∈ e.used, alive ^ 2 ≤ φ.v1 w then true
        else if ∀ φ ∈ e.used, φ.v1 w < dead ^ 2 then false else p.live) ∧
      (d.point.live = false ∨ e.used = [] →
        d.point.health = p.health ∧ d.point.fault = p.fault ∧ d.point.failed = p.failed) ∧
      (d.point.live = true → e.used ≠ [] →
        (d.point.failed.t1 = true ↔
          (∃ φ ∈ e.used, φ.v1 w < dead ^ 2) ∧ ∃ φ ∈ e.used, alive ^ 2 ≤ φ.v1 w) ∧
        (d.point.failed.t2 = true ↔ e.importOnly = true ∧ d.vector.p1 < 0 ∧
          d.vector.q1 ^ 2 < 3 * d.vector.p1 ^ 2 ∧
          (e.apparentFloor : Int) ^ 2 ≤ d.vector.p1 ^ 2 + d.vector.q1 ^ 2) ∧
        (d.point.failed.t3 = true ↔ ∃ φ ∈ e.used,
          4 * φ.i1 w < φ.harmonics w d.point.orders ∧ (e.currentFloor : Int) ^ 2 ≤ φ.i1 w) ∧
        (d.point.failed.t4 = true ↔ ∃ φ ∈ e.used, ∃ h, 1 ≤ h ∧ h ≤ d.point.orders ∧
          (w.clamped φ.voltage h = true ∨ w.clamped φ.current h = true)) ∧
        d.point.health = (if d.point.failed.any then min (p.health + 4) t.health.limit
          else p.health - 1) ∧
        d.point.fault = if t.health.fault ≤ d.point.health then true
          else if d.point.health ≤ t.health.clear then false else p.fault))

/-- The topology resolver updates every used breaker from its report: a clean report sets the state and zeroes
the settle count; an unclean one raises the count up to S, at which the breaker is UNKNOWN. With all eight
updated it selects the first valid entry whose every required breaker has the required state; UNKNOWN equals
none, and an empty mask matches always (R74, R77). With no match the map stands and the window is not matched; a
changed map marks TRANSFER (R78, R79). TOPOLOGY-UNDEFINED has its source from the match, and BREAKER-UNKNOWN
from the used breakers as they then stand (R85). -/
def Obligations.TopologyResolution : Prop :=
  ∀ (s : State) (w : Window),
    let t := s.resolveTopology w
    let limit := s.cm.tables.breakers.settle
    let matching : MapId → Prop := fun m =>
      (s.cm.tables.topology[m]).valid = true ∧ ∀ b : BreakerId,
        (((s.cm.tables.topology[m]).required)[b] = some .closed →
          (t.tr.breakers[b]).state = .closed) ∧
        (((s.cm.tables.topology[m]).required)[b] = some .opened →
          (t.tr.breakers[b]).state = .opened)
    (∀ b : BreakerId,
      (s.cm.tables.breakers.entries[b] = none → t.tr.breakers[b] = Breaker.reset) ∧
      ∀ e, s.cm.tables.breakers.entries[b] = some e →
        let report := breakerReport w e
        let old := s.tr.breakers[b]
        let new := t.tr.breakers[b]
        new.lastReport = some report ∧
        (report = .closed → new.state = .closed ∧ new.settle = 0) ∧
        (report = .opened → new.state = .opened ∧ new.settle = 0) ∧
        (report = .disagree ∨ report = .noReport →
          new.settle = (if old.settle < limit then old.settle + 1 else old.settle) ∧
          new.state = if limit ≤ new.settle then .unknown else old.state)) ∧
    (∀ m, matching m → (∀ n < m, ¬ matching n) → t.tr.map = m ∧ t.tr.matched = true) ∧
    ((∀ m, ¬ matching m) → t.tr.map = s.tr.map ∧ t.tr.matched = false) ∧
    (t.tr.transfer = true ↔ t.tr.map ≠ s.tr.map) ∧
    (t.tr.transfer = true → t.cu.flags[8] = true) ∧
    t.cu.sources[6] = !t.tr.matched ∧
    (t.cu.sources[7] = true ↔ ∃ b : BreakerId,
      s.cm.tables.breakers.entries[b] ≠ none ∧ (t.tr.breakers[b]).state = .unknown) ∧
    t = { s with tr := t.tr, cu := t.cu }

/-! ## Resets, supply and time -/

/-- A power-on reset, and a pin reset while the main supply stands, leave the part as a start-up over its store
brings it up: the working state of every block discarded, the straps latched, what the load finds in the store
taken up, and requests served; a running write leaves its unit as it was interrupted. They differ in the
timekeeper: a power-on reset reads and clears the oscillator-stop detector, a pin reset changes nothing of it
(R146, R147, R168, R174 to R180). Where the spec leaves it open this is the model's choice: assumptions 5, 10,
22, 23, 24, 31, 36, 37, 41, 42, 45, 48, 61, 65 and 72. -/
def Obligations.PowerOnAndPinReset : Prop :=
  ∀ (straps : Straps) (left : UnitLeft) (decayed : List StoreUnit) (s : State),
    let interrupted : Store := match s.rsc.running with
      | none => s.store
      | some j => s.store.leave left j.job
    let store := decayed.foldl Store.decay interrupted
    (∃ t, exec (.powerOnReset straps left decayed) s = .next t ∧
      t.startedFrom .powerOn straps s.pfw store ∧
      t.tk = (if s.tk.stopDetected then ⟨0, 0, false, false⟩ else s.tk)) ∧
    (s.powered = true → ∃ t, exec (.pinReset straps left decayed) s = .next t ∧
      t.startedFrom .pin straps s.pfw store ∧ t.tk = s.tk)

/-- A soft reset that has been taken proceeds once the part is HALTED, or every store job has finished and no
close event waits: with the supply monitor NORMAL and the part not HALTED the save block holds CLEAN when its
write verifies, or RUNNING while the save-failure memory is set or an account holds a gap mark, and nothing
usable when it fails; HALTED, a running write is cut off. The part is then as a start-up brings it up, the
straps as they were, and no time has passed where no reply was left to send (R140, R148, R181, R189, R201).
Where the spec leaves it open this is the model's choice: assumptions 5, 10, 22, 23, 24, 31, 32, 36, 37, 41, 42,
45, 46, 48, 61, 65 and 72. -/
def Obligations.SoftResetProceeds : Prop :=
  ∀ (marker : AttemptResult) (decayed : List StoreUnit) (s : State),
    s.powered = true → s.mlc.resetTaken = true →
    (s.rsc.halted = true ∨ (s.rsc.idle = true ∧ s.ia.waiting = [])) →
    let content : SaveBlock :=
      if s.rsc.saveFailed = true ∨ ∃ a : AccountId, (s.ia.accounts[a]).gapMark = true then .running
      else .clean
    let written : Store :=
      if s.rsc.halted then
        match s.rsc.running, marker with
        | none, _ => s.store
        | some j, .verified => s.store.put j.job
        | some j, .mismatch left => s.store.leave left j.job
      else if s.sm.state ≠ .normal then s.store
      else { s.store with save := if marker = .verified then some content else none }
    ∃ t, exec (.softResetProceed marker decayed) s = .next t ∧
      t.startedFrom .soft s.straps s.pfw (decayed.foldl Store.decay written) ∧
      (s.tk.seconds ≤ 4294967295 → s.tk.millis < 1000 → (∀ f ∈ s.mlc.tx, f[2]? = some 0x82) →
        t.tk = s.tk)

/-- The main supply falls: the store keeps all but the unit of a running write, which holds what the interrupted
attempt left, and the timekeeper, the pins and the latched straps stand. The oscillator-stop detector latches
only without the main supply (R131, R168, R180). Where the spec leaves it open this is the model's choice:
assumptions 5, 6 and 44. -/
def Obligations.SupplyLossAndOscillatorStop : Prop :=
  ∀ (left : UnitLeft) (s : State),
    (s.powered = true → ∃ t, exec (.lossOfSupply left) s = .next t ∧
      t.powered = false ∧ t.tk = s.tk ∧ t.pfw = s.pfw ∧ t.straps = s.straps ∧
      (s.rsc.running = none → t.store = s.store) ∧ (left = .untouched → t.store = s.store) ∧
      ∀ j, s.rsc.running = some j → t.store = s.store.leave left j.job) ∧
    (s.powered = false →
      exec .oscillatorStop s = .next { s with tk := { s.tk with stopDetected := true } }) ∧
    (s.powered = true → exec .oscillatorStop s = .next s)

/-- The seconds count that would pass 4,294,967,295 becomes 0 and time becomes INVALID, on either supply;
the next boundary then has no value and TIME-INVALID is true (R31, R168). Where the spec leaves it open this
is the model's choice: assumptions 3 and 21. -/
def Obligations.SecondsWrap : Prop :=
  ∀ s : State, s.tk.seconds ≤ 4294967295 → s.tk.millis < 1000 →
    ∃ t, exec .tkSecondsWrap s = .next t ∧
      t.tk = { s.tk with seconds := 0, millis := 0, valid := false } ∧
      t.store = s.store ∧ t.cm = s.cm ∧ t.ia.accounts = s.ia.accounts ∧ t.points = s.points ∧
      (s.powered = false → t = { s with tk := t.tk }) ∧
      (s.powered = true → s.tk.valid = true →
        t.ia.nextBoundary = none ∧ t.cu.sources[14] = true)

/-- The seconds count reaches the next boundary. In NORMAL every OPEN account closes with cause BOUNDARY and end
time equal to the boundary, each opens a fresh interval that starts there, and the next boundary rises by L ×
60. Outside NORMAL the first boundary is held as pending, and no close is made. In HALTED, and with no account
OPEN, the next boundary advances and no close is made. While the record class lacks the places, or an earlier
event waits, the event joins those that wait and no account changes (R31, R34 to R37, R133). Where the spec
leaves it open this is the model's choice: assumptions 3, 11, 12, 66 and 71. -/
def Obligations.IntervalBoundary : Prop :=
  ∀ (s : State) (b : Nat), s.powered = true → s.tk.valid = true → s.ia.nextBoundary = some b →
    s.tk.seconds ≤ b → s.tk.millis < 1000 → b ≤ 4294967295 →
    let next := some (b + s.cm.tables.contract.minutes * 60)
    (s.closesReady → ∃ t, exec .intervalBoundary s = .next t ∧
      closesMade .boundary b (some b) s t ∧ t.ia.nextBoundary = next ∧ t.tk.seconds = b ∧
      t.store = s.store ∧ t.cm = s.cm ∧ t.points = s.points ∧ t.wa = s.wa ∧ t.tr = s.tr ∧
      t.pau = s.pau ∧ t.sm = s.sm) ∧
    (s.sm.state ≠ .normal → s.rsc.halted = false →
      ∃ t, exec .intervalBoundary s = .next t ∧
        t.ia = { s.ia with pendingBoundary := some (s.ia.pendingBoundary.getD b) } ∧
        t.store = s.store ∧ t.cu = s.cu) ∧
    (s.rsc.halted = true ∨ (s.sm.state = .normal ∧ s.openCount = 0) →
      ∃ t, exec .intervalBoundary s = .next t ∧ t.ia = { s.ia with nextBoundary := next } ∧
        t.store = s.store ∧ t.cu = s.cu) ∧
    (s.closesWait →
      ∃ t, exec .intervalBoundary s = .next t ∧ t.tk.seconds = b ∧
        t.ia = { s.ia with
          nextBoundary := next
          waiting := s.ia.waiting ++ [⟨.boundary, b, .atBoundary, false, false⟩] } ∧
        t.rsc.recordQueue = s.rsc.recordQueue ∧ t.store = s.store ∧ t.cu = s.cu ∧ t.cm = s.cm ∧
        t.points = s.points ∧ t.wa = s.wa)

/-- The oldest waiting event begins once the record class has the places and the supply monitor is NORMAL, with
the end time that the event gave it; the events behind it wait on (R133). A fresh interval starts at the count
of the instant at which it opens (R32, section 2.3). A TIME.SET in service is answered ACK when no event that it
waits for is left (R169, R194). Before the event may begin nothing changes; one that would pass the last record
sequence takes the part to HALTED, where it waits (R37). Where the spec leaves it open this is the model's
choice: assumptions 10, 20, 58 and 71. -/
def Obligations.WaitingEventBegins : Prop :=
  ∀ (s : State) (e : CloseEvent) (rest : List CloseEvent), s.powered = true →
    s.ia.waiting = e :: rest →
    let may : Prop := s.sm.state = .normal ∧ s.rsc.halted = false ∧ s.openCount ≤ s.rsc.freePlaces
    (¬ may → exec .closeEventBegin s = .next s) ∧
    (may → 0 < s.openCount → 4294967296 < s.ia.nextSeq + s.openCount →
      ∃ t, exec .closeEventBegin s = .next t ∧ t.rsc.halted = true ∧ t.cu.sources[0] = true ∧
        t.wa.processing = none ∧ t.ia = s.ia ∧ t.store = s.store ∧ t.points = s.points) ∧
    (may → s.ia.nextSeq + s.openCount ≤ 4294967296 →
      ∃ t, exec .closeEventBegin s = .next t ∧
        closesMade e.cause e.endTime (e.reopen.start s.tk.seconds e.endTime) s t ∧
        t.ia.nextBoundary = (if e.fresh then s.boundaryAfresh else s.ia.nextBoundary) ∧
        t.ia.waiting = rest ∧ t.store = s.store ∧ t.cm = s.cm ∧ t.points = s.points ∧ t.wa = s.wa ∧
        t.tk = s.tk ∧ t.links = s.links ∧
        (s.mlc.inService ≠ some .timeSet → t.mlc = s.mlc) ∧
        ((∃ x ∈ rest, x.awaited = true) → t.mlc = s.mlc) ∧
        ∀ f others, s.mlc.inService = some .timeSet → s.mlc.buffer = f :: others →
          (∀ x ∈ rest, x.awaited = false) → t.mlc = (s.acked [] f others).mlc)

/-- PFW asserted in NORMAL: the supply monitor enters SAVING, SUPPLY rises, the save-block job stands in
class 1 in place of any queued one, a window in processing loses its results, and no account's energy
changes; outside NORMAL it cancels a held deassertion and does nothing else. PFW deasserted is held in
SAVING; in SAVED the monitor returns to NORMAL, OUTAGE is set in every open interval and the RUNNING write
is queued. A pending boundary then closes every OPEN account with cause OUTAGE and that boundary as end
time, and the next boundary is set afresh (R34, R170, R172). Where the spec leaves it open this is the
model's choice: assumptions 10 and 11. -/
def Obligations.PowerFailWarning : Prop :=
  ∀ s : State, s.powered = true →
    (s.mlc.inService = none → s.sm.state = .normal → ∃ t, exec .pfwAssert s = .next t ∧
      t.pfw = true ∧ t.sm.state = .saving ∧ t.sm.deassertHeld = false ∧ t.cu.sources[15] = true ∧
      t.rsc = { s.rsc with saveQueue := some .save } ∧ t.ia.accounts = s.ia.accounts ∧
      t.wa = { s.wa with
        processing := s.wa.processing.map fun p => { p with results := none } } ∧
      t = { s with pfw := true, sm := t.sm, cu := t.cu, rsc := t.rsc, ia := t.ia, wa := t.wa }) ∧
    (s.sm.state ≠ .normal → exec .pfwAssert s =
      .next { s with pfw := true, sm := { s.sm with deassertHeld := false } }) ∧
    (s.sm.state = .saving → exec .pfwDeassert s =
      .next { s with pfw := false, sm := { s.sm with deassertHeld := true } }) ∧
    (s.sm.state = .saved → s.ia.pendingBoundary = none → ∃ t, exec .pfwDeassert s = .next t ∧
      t.sm = { s.sm with state := .normal, deassertHeld := false } ∧ t.pfw = false ∧
      t.rsc = { s.rsc with saveQueue := some .running } ∧
      (∀ a : AccountId, t.ia.accounts[a] =
        { s.ia.accounts[a] with
          interval := (s.ia.accounts[a]).interval.map fun iv => { iv with outage := true } }) ∧
      t.ia = { s.ia with accounts := t.ia.accounts } ∧
      t = { s with pfw := false, sm := t.sm, cu := t.cu, rsc := t.rsc, ia := t.ia }) ∧
    (∀ b, s.sm.state = .saved → s.ia.pendingBoundary = some b → s.rsc.halted = false →
      s.ia.waiting = [] → s.openCount ≤ s.rsc.freePlaces →
      s.ia.nextSeq + s.openCount ≤ 4294967296 → s.tk.valid = true →
      ∃ t, exec .pfwDeassert s = .next t ∧ t.sm.state = .normal ∧
        closesMade .outage b (some s.tk.seconds) s t ∧ t.ia.pendingBoundary = none ∧
        t.ia.nextBoundary =
          some ((s.tk.seconds / (s.cm.tables.contract.minutes * 60) + 1) *
            (s.cm.tables.contract.minutes * 60)) ∧
        ∀ r ∈ t.rsc.recordQueue, r ∈ s.rsc.recordQueue ∨ r.outage = true)

/-! ## The message link -/

/-- A whole frame, and the rest of a frame that is in reception: one with a wrong check is a CRC error; else its
address judges it: the latched address, and 0x0F with kind TIME.SET, are buffered while a place is free and are
overflows when none is; 0x0F with another kind is ignored; any other address is not for the part. Each case
raises its own counter, and nothing else changes (R191, R192, R193). A frame that is not whole yet stays in
reception. A header that names a length above 1,024 ends the frame and is a length error. Bytes that arrive one
after another are taken as if they arrived at once (R191). Where the spec leaves it open this is the model's
choice: assumption 33. -/
def Obligations.MessageFrameIsJudged : Prop :=
  ∀ (s : State) (address kind tag : Byte) (payload check : List Byte), s.powered = true →
    payload.length ≤ 1024 → check.length = 2 →
    let own := byteOf s.straps.address.val
    let body := [address, kind, tag] ++ leBytes 2 payload.length ++ payload
    let c := s.mlc.counters
    let after (buffer : List MsgFrame) (counters : MsgCounters) : Host.Outcome State Fault Refusal :=
      .next { s with
        mlc := { s.mlc with sinceByte := 0, received := none, buffer := buffer, counters := counters } }
    let judged : Host.Outcome State Fault Refusal :=
      if check ≠ leBytes 2 (crc16 body).toNat then
        after s.mlc.buffer { c with crcErrors := countUp c.crcErrors }
      else if address = own ∨ (address = 0x0F ∧ kind = 0x04) then
        if s.mlc.buffer.length < 2 then
          after (s.mlc.buffer ++ [⟨decide (address ≠ own), kind, tag, payload⟩])
            { c with buffered := countUp c.buffered }
        else after s.mlc.buffer { c with overflows := countUp c.overflows }
      else if address = 0x0F then
        after s.mlc.buffer { c with broadcastsIgnored := countUp c.broadcastsIgnored }
      else after s.mlc.buffer { c with otherAddress := countUp c.otherAddress }
    (s.mlc.received = none → exec (.messageFrameReceived (0xA5 :: (body ++ check))) s = judged) ∧
    (∀ had more, had ++ more = body ++ check → more ≠ [] →
      (s.mlc.received = none → exec (.messageFrameReceived (0xA5 :: had)) s =
        .next { s with mlc := { s.mlc with sinceByte := 0, received := some had } }) ∧
      (s.mlc.received = some had → s.mlc.sinceByte ≤ 10 →
        exec (.messageFrameReceived more) s = judged)) ∧
    (∀ n : Nat, 1024 < n → n ≤ 65535 → s.mlc.received = none →
      exec (.messageFrameReceived (0xA5 :: ([address, kind, tag] ++ leBytes 2 n))) s =
        after s.mlc.buffer { c with lengthErrors := countUp c.lengthErrors }) ∧
    ∀ (first second : List Byte) (u : State), exec (.messageFrameReceived first) s = .next u →
      exec (.messageFrameReceived (first ++ second)) s = exec (.messageFrameReceived second) u

/-- What the receiver discards: in HUNTING any byte but the start byte; a byte with a framing error, with the
frame in reception; and a frame in reception after a gap of more than 10 ms, also where the next byte, or one
with a framing error, shows the gap; a single byte of a frame in reception is taken as bytes are (R190, R191).
Where the spec leaves it open this is the model's choice: assumptions 3 and 33. -/
def Obligations.ReceiverDiscards : Prop :=
  ∀ s : State, s.powered = true →
    (∀ b : Byte, s.mlc.received = none → exec (.strayByte b) s = .next { s with
      mlc := { s.mlc with
        sinceByte := 0
        received := if b = 0xA5 then some [] else none
        counters := { s.mlc.counters with
          stray := if b = 0xA5 then s.mlc.counters.stray else countUp s.mlc.counters.stray } } }) ∧
    (∀ b : Byte, exec (.strayByte b) s = exec (.messageFrameReceived [b]) s) ∧
    (s.mlc.received.isSome = true → 10 < s.mlc.sinceByte →
      let c := { s.mlc.counters with gaps := countUp s.mlc.counters.gaps }
      let gone : MsgController := { s.mlc with received := none, counters := c }
      (∀ bytes, exec (.messageFrameReceived bytes) s =
        exec (.messageFrameReceived bytes) { s with mlc := gone }) ∧
      exec .framingError s = .next { s with
        mlc := { gone with counters := { c with framing := countUp c.framing } } }) ∧
    (s.mlc.received = none ∨ s.mlc.sinceByte ≤ 10 → exec .framingError s = .next { s with
      mlc := { s.mlc with
        received := none
        counters := { s.mlc.counters with framing := countUp s.mlc.counters.framing } } }) ∧
    (s.mlc.received.isSome = true → ∃ t, exec .byteGapExpiry s = .next t ∧
      t.mlc.received = none ∧ t.mlc.buffer = s.mlc.buffer ∧
      t.mlc.counters = { s.mlc.counters with gaps := countUp s.mlc.counters.gaps } ∧
      t.timeBase = s.timeBase + (11 - s.mlc.sinceByte) ∧
      t = { s.advance (11 - s.mlc.sinceByte) with mlc := t.mlc })

/-- A pending notice begins transmission when everything handed before it has been sent: it goes out from
the part's own address with tag 0 and the content of that instant, and is no longer pending (R188, R189).
Where the spec leaves it open this is the model's choice: assumptions 3 and 32. -/
def Obligations.NoticeTransmits : Prop :=
  ∀ s : State, s.powered = true → s.cu.noticePending = true →
    let u := s.advance s.txTime
    ∃ t, exec .noticeTransmit s = .next t ∧ t.cu = { u.cu with noticePending := false } ∧
      t.mlc.tx = [msgBytes (byteOf s.straps.address.val) 0x82 0 u.noticePayload] ∧
      t.mlc.buffer = s.mlc.buffer ∧ t.mlc.counters = s.mlc.counters ∧
      t = { u with cu := t.cu, mlc := t.mlc }

/-! ## Requests -/

/-- The order of refusals: a kind outside the 22 is UNKNOWN; a payload length that the kind does not imply
is MALFORMED; and in HALTED every kind but IDENT, STATUS and RESET is refused with HALTED (R195). Where the
spec leaves it open this is the model's choice: assumption 4. -/
def Obligations.RefusalOrder : Prop :=
  ∀ (s : State) (f : MsgFrame) (rest : List MsgFrame), s.takes f rest →
    (f.kind.toNat = 0 ∨ 22 < f.kind.toNat →
      exec .unknownRequestKind s = .next (s.refused .unknown f rest)) ∧
    ∀ k : RequestKind, f.kind = k.code →
      (k.fits f.payload = false → exec k.command s = .next (s.refused .malformed f rest)) ∧
      (k.fits f.payload = true → s.rsc.halted = true → k ≠ .ident → k ≠ .status → k ≠ .reset →
        exec k.command s = .next (s.refused .halted f rest))

/-- The reads are answered ACK with the payload of their state, and change nothing but the message link; a
number out of range is refused with RANGE (R69, R126, R168, R196, R198, R199, R200). Where the spec leaves it
open this is the model's choice: assumptions 1, 4, 49, 53, 56, 63, 66 and 67. -/
def Obligations.ReadRequestsAnswer : Prop :=
  ∀ (s : State) (f : MsgFrame) (rest : List MsgFrame),
    (s.serves .ident f rest → f.payload = [] → exec .ident s = .next (s.acked s.identPayload f rest)) ∧
    (s.serves .timeGet f rest → f.payload = [] →
      exec .timeGet s = .next (s.acked s.timePayload f rest)) ∧
    (s.serves .windowPeek f rest → f.payload = [] →
      exec .windowPeek s = .next (s.acked s.peekPayload f rest)) ∧
    (s.serves .logInfo f rest → f.payload = [] →
      exec .logInfo s = .next (s.acked s.logInfoPayload f rest)) ∧
    (∀ n : Byte, f.payload = [n] →
      (s.serves .accountRead f rest →
        (∀ a : AccountId, n.toNat = a.val →
          exec .accountRead s = .next (s.acked (s.accountPayload a) f rest)) ∧
        (8 ≤ n.toNat → exec .accountRead s = .next (s.refused .range f rest))) ∧
      (s.serves .linkStatus f rest →
        (∀ l : LinkId, n.toNat = l.val →
          exec .linkStatus s = .next (s.acked (s.linkPayload l) f rest)) ∧
        (4 ≤ n.toNat → exec .linkStatus s = .next (s.refused .range f rest))) ∧
      (s.serves .pointStatus f rest →
        (∀ p : PointId, n.toNat = p.val →
          exec .pointStatus s = .next (s.acked (s.pointPayload p) f rest)) ∧
        (16 ≤ n.toNat → exec .pointStatus s = .next (s.refused .range f rest)))) ∧
    (∀ p : TablePart, s.serves .tableGet f rest → s.cm.tables.holds p = true →
      f.payload = byteOf (tableCode p.table) :: p.selector →
      exec .tableGet s = .next (s.acked
        (leBytes 4 s.cm.generation ++ [byteOf (tableCode p.table)] ++ p.selector ++ p.content) f rest)) ∧
    (∀ code : Byte, s.serves .tableGet f rest → f.payload.head? = some code →
      (code = 0 ∨ 10 < code.toNat) → exec .tableGet s = .next (s.refused .range f rest))

/-- A rise latches its flag with rise count 1, or raises the count of a flag that is set, up to 255; a flag that
it sets drives ALERT where it is unmasked and makes a notice pending. A level source rises and falls once; its
fall clears the flag under FOLLOW and only the source under HOLD (R183, R184, R185, R187, R188). STATUS reports
the state as it stands and withdraws a pending notice. Under FOLLOW every flag that it shows is cleared with its
rise count, but FATAL while its source is true, and ALERT is judged anew; under HOLD the flags stay. CLEAR is
refused with STATE under FOLLOW; under HOLD the named pulse flags, and the named level flags whose source is
false, are cleared with their rise counts, ALERT is driven while a latched flag is unmasked, and the ACK shows
the flags and counts as they then stand (R184, R185, R187, R188, R197). Where the spec leaves it open this is
the model's choice: assumptions 4, 52, 60, 64, 65 and 68. -/
def Obligations.StatusAndClearAnswer : Prop :=
  (∀ (n : NoticeTable) (c : Condition) (cu : ConditionUnit),
    let i := c.idx
    let lit (t : ConditionUnit) : Prop :=
      t.alert = true ↔ ∃ j : Fin 16, t.flags[j] = true ∧ n.masked[j] = false
    let others (t : ConditionUnit) : Prop := ∀ j : Fin 16, j ≠ i →
      t.flags[j] = cu.flags[j] ∧ t.rises[j] = cu.rises[j] ∧ t.sources[j] = cu.sources[j]
    let rises (before t : ConditionUnit) : Prop :=
      t.flags[i] = true ∧ t.sources = before.sources ∧ others t ∧
      (cu.flags[i] = true → t.rises[i] = min 255 (cu.rises[i] + 1) ∧ t.alert = cu.alert ∧
        t.noticePending = cu.noticePending) ∧
      (cu.flags[i] = false → t.rises[i] = 1 ∧ lit t ∧
        t.noticePending = (cu.noticePending || !n.masked[i]))
    rises cu (cu.rise n.masked c) ∧
    (∀ level, cu.sources[i] = level → cu.give n c level = cu) ∧
    (cu.sources[i] = false →
      rises { cu with sources := cu.sources.set i true } (cu.give n c true)) ∧
    (cu.sources[i] = true →
      let t := cu.give n c false
      t.sources[i] = false ∧ others t ∧ t.noticePending = cu.noticePending ∧
      (n.discipline = .follow → t.flags[i] = false ∧ t.rises[i] = 0 ∧ lit t) ∧
      (n.discipline = .hold → t = { cu with sources := t.sources }))) ∧
  ∀ (s : State) (f : MsgFrame) (rest : List MsgFrame),
    (s.serves .status f rest → f.payload = [] →
      ∃ t, exec .status s = .next t ∧ t = { s with cu := t.cu, mlc := t.mlc } ∧
        t.mlc = (s.acked s.statusPayload f rest).mlc ∧ t.cu.noticePending = false ∧
        t.cu.sources = s.cu.sources ∧
        (s.cm.tables.notice.discipline = .hold →
          t.cu.flags = s.cu.flags ∧ t.cu.rises = s.cu.rises ∧ t.cu.alert = s.cu.alert) ∧
        (s.cm.tables.notice.discipline = .follow →
          (t.cu.alert = true ↔
            ∃ i : Fin 16, t.cu.flags[i] = true ∧ s.cm.tables.notice.masked[i] = false) ∧
          ∀ i : Fin 16,
            t.cu.flags[i] = (s.cu.flags[i] && i.val == 0 && s.cu.sources[i]) ∧
            t.cu.rises[i] = (if s.cu.flags[i] && !t.cu.flags[i] then 0 else s.cu.rises[i]))) ∧
    (s.serves .clear f rest → f.payload.length = 2 →
      (s.cm.tables.notice.discipline = .follow → exec .clear s = .next (s.refused .state f rest)) ∧
      (s.cm.tables.notice.discipline = .hold →
        ∃ t, exec .clear s = .next t ∧ t = { s with cu := t.cu, mlc := t.mlc } ∧
          t.mlc = (s.acked t.clearPayload f rest).mlc ∧ t.cu.noticePending = s.cu.noticePending ∧
          t.cu.sources = s.cu.sources ∧
          (t.cu.alert = true ↔
            ∃ i : Fin 16, t.cu.flags[i] = true ∧ s.cm.tables.notice.masked[i] = false) ∧
          ∀ i : Fin 16,
            let cleared := s.cu.flags[i] && (leNat f.payload).testBit i.val &&
              ([1, 2, 3, 8, 9, 11, 13].contains i.val || !s.cu.sources[i])
            t.cu.flags[i] = (s.cu.flags[i] && !cleared) ∧
            t.cu.rises[i] = if cleared then 0 else s.cu.rises[i]))

/-- A TIME.SET with a small step: the count moves and time stays VALID. In METERING a boundary that it reaches
or passes falls, closing every OPEN account with cause BOUNDARY at the boundary, or outside NORMAL is held as
pending; while the record class lacks the places the event waits, and the reply with it; in COMMISSIONING no
close is made and the next boundary is set afresh. Above 999 ms it is refused with RANGE (R33, R133, R169,
R194). Where the spec leaves it open this is the model's choice: assumptions 4, 11, 20 and 71. -/
def Obligations.TimeSetSmallStep : Prop :=
  ∀ (s : State) (f : MsgFrame) (rest : List MsgFrame) (seconds millis : Nat),
    s.serves .timeSet f rest → f.payload = leBytes 4 seconds ++ leBytes 2 millis →
    seconds ≤ 4294967295 → millis ≤ 65535 → s.ia.waiting = [] →
    let step := s.cm.tables.contract.minutes * 60
    (999 < millis → exec .timeSet s = .next (s.refused .range f rest)) ∧
    (millis ≤ 999 → s.tk.valid = true →
      seconds * 1000 + millis ≤ s.tk.seconds * 1000 + s.tk.millis + 2000 →
      s.tk.seconds * 1000 + s.tk.millis ≤ seconds * 1000 + millis + 2000 →
      (s.cm.mode = .metering → (∀ b, s.ia.nextBoundary = some b → seconds < b) →
        ∃ t, exec .timeSet s = .next t ∧
          t.tk = { s.tk with seconds := seconds, millis := millis } ∧
          t.mlc = (s.acked [] f rest).mlc ∧ t.cu.sources[14] = false ∧
          t = { s with tk := t.tk, mlc := t.mlc, cu := t.cu }) ∧
      (∀ b, s.cm.mode = .metering → s.ia.nextBoundary = some b → b ≤ seconds → s.closesReady →
        ∃ t, exec .timeSet s = .next t ∧
          t.tk = { s.tk with seconds := seconds, millis := millis } ∧
          closesMade .boundary b (some b) s t ∧
          t.ia.nextBoundary = some (b + step) ∧
          t.mlc = (s.acked [] f rest).mlc ∧ t.timeBase = s.timeBase ∧ t.store = s.store ∧
          t.cm = s.cm ∧ t.points = s.points) ∧
      (∀ b, s.cm.mode = .metering → s.ia.nextBoundary = some b → b ≤ seconds → s.closesWait →
        ∃ t, exec .timeSet s = .next t ∧
          t.tk = { s.tk with seconds := seconds, millis := millis } ∧
          t.ia = { s.ia with
            nextBoundary := some (b + step), waiting := [⟨.boundary, b, .atBoundary, false, true⟩] } ∧
          t.mlc = { s.mlc with inService := some .timeSet } ∧
          t = { s with tk := t.tk, ia := t.ia, mlc := t.mlc, cu := t.cu }) ∧
      (∀ b, s.cm.mode = .metering → s.ia.nextBoundary = some b → b ≤ seconds →
        s.sm.state ≠ .normal →
        ∃ t, exec .timeSet s = .next t ∧
          t.tk = { s.tk with seconds := seconds, millis := millis } ∧
          t.ia = { s.ia with pendingBoundary := some (s.ia.pendingBoundary.getD b) } ∧
          t.mlc = (s.acked [] f rest).mlc ∧
          t = { s with tk := t.tk, ia := t.ia, mlc := t.mlc, cu := t.cu }) ∧
      (s.cm.mode = .commissioning →
        ∃ t, exec .timeSet s = .next t ∧
          t.tk = { s.tk with seconds := seconds, millis := millis } ∧
          t.ia = { s.ia with nextBoundary := some ((seconds / step + 1) * step) } ∧
          t.mlc = (s.acked [] f rest).mlc ∧ t.cu.sources[14] = false ∧
          t = { s with tk := t.tk, ia := t.ia, mlc := t.mlc, cu := t.cu }))

/-- A TIME.SET with a large step, or from INVALID: it is refused with STATE in METERING while a close is in
flight or the supply monitor is not NORMAL; else time is set and VALID, the next boundary is set afresh, and in
METERING every OPEN account closes with cause TIME-STEP at the old time, 0 from INVALID, and opens afresh at the
new one. While the record class lacks the places, or an earlier event waits, the event joins those that wait, no
account changes, and the request stays in service with no reply (R33, R133, R169, R194). Where the spec leaves
it open this is the model's choice: assumptions 4, 10, 20 and 71. -/
def Obligations.TimeSetLargeStep : Prop :=
  ∀ (s : State) (f : MsgFrame) (rest : List MsgFrame) (seconds millis : Nat),
    s.serves .timeSet f rest → f.payload = leBytes 4 seconds ++ leBytes 2 millis →
    seconds ≤ 4294967295 → millis ≤ 999 →
    ¬ (s.tk.valid = true ∧ seconds * 1000 + millis ≤ s.tk.seconds * 1000 + s.tk.millis + 2000 ∧
        s.tk.seconds * 1000 + s.tk.millis ≤ seconds * 1000 + millis + 2000) →
    let tk : Timekeeper := { s.tk with seconds := seconds, millis := millis, valid := true }
    let step := s.cm.tables.contract.minutes * 60
    (s.cm.mode = .metering →
      ((∃ a : AccountId, (s.ia.accounts[a]).inFlight = true) ∨ s.sm.state ≠ .normal) →
      exec .timeSet s = .next (s.refused .state f rest)) ∧
    (s.cm.mode = .metering → (∀ a : AccountId, (s.ia.accounts[a]).inFlight = false) →
      s.closesReady →
      ∃ t, exec .timeSet s = .next t ∧ t.tk = tk ∧
        closesMade .timeStep (if s.tk.valid then s.tk.seconds else 0) (some seconds)
          { s with tk := tk } t ∧
        t.ia.nextBoundary = some ((seconds / step + 1) * step) ∧ t.cu.sources[14] = false ∧
        t.mlc = (s.acked [] f rest).mlc ∧ t.timeBase = s.timeBase ∧ t.store = s.store ∧
        t.cm = s.cm ∧ t.points = s.points) ∧
    (s.cm.mode = .metering → (∀ a : AccountId, (s.ia.accounts[a]).inFlight = false) →
      s.closesWait →
      ∃ t, exec .timeSet s = .next t ∧ t.tk = tk ∧
        t.ia = { s.ia with
          nextBoundary := some ((seconds / step + 1) * step)
          waiting := s.ia.waiting ++
            [⟨.timeStep, if s.tk.valid then s.tk.seconds else 0, .atCount, true, true⟩] } ∧
        t.cu.sources[14] = false ∧ t.mlc = { s.mlc with inService := some .timeSet } ∧
        t = { s with tk := tk, ia := t.ia, cu := t.cu, mlc := t.mlc }) ∧
    (s.cm.mode = .commissioning → (∀ x ∈ s.ia.waiting, x.awaited = false) →
      ∃ t, exec .timeSet s = .next t ∧ t.tk = tk ∧
        t.ia = { s.ia with nextBoundary := some ((seconds / step + 1) * step) } ∧
        t.cu.sources[14] = false ∧ t.mlc = (s.acked [] f rest).mlc ∧
        t = { s with tk := tk, ia := t.ia, cu := t.cu, mlc := t.mlc })

/-- TABLE.PUT, PRESET, MODE and ERASE: a change that passes the checks on itself is refused with LOCKED
while the lock bars it, then with QUEUE-FULL at 8 entries; else it joins the queue's tail under the next
change number, and the ACK carries the number and the entries now waiting. The checks on itself stand before
both: a field or number out of range is RANGE, and an entry that is not self-consistent REFERENCE (R156,
R157, R166). Where the spec leaves it open this is the model's choice: assumptions 4 and 27. -/
def Obligations.ChangesAreQueued : Prop :=
  ∀ (s : State) (f : MsgFrame) (rest : List MsgFrame),
    let n := s.cm.nextChange
    let queued (c : Change) : Host.Outcome State Fault Refusal :=
      .next (if s.cm.locked = true ∧ s.straps.service = false ∧ c.lockable = true then
          s.refused .locked f rest
        else if 8 ≤ s.cm.queue.length then s.refused .queueFull f rest
        else
          { s.acked ([1] ++ leBytes 4 n ++ [byteOf (s.cm.queue.length + 1)]) f rest with
            cm := { s.cm with queue := s.cm.queue ++ [⟨n, c⟩], nextChange := countUp n } })
    (∀ p : TablePart, s.serves .tablePut f rest →
      f.payload = byteOf (tableCode p.table) :: (p.selector ++ p.content) → p.inRange = true →
      p.consistent s.cm.tables = true → exec .tablePut s = queued (.table p)) ∧
    (∀ (a : AccountId) (values : Vector Nat 25), s.serves .preset f rest →
      f.payload = byteOf a.val :: values.toList.flatMap (leBytes 8) →
      (∀ i : Fin 25, values[i] ≤ 18446744073709551615) →
      exec .preset s = queued (.preset a values)) ∧
    (s.serves .mode f rest → f.payload = [1] → exec .mode s = queued (.mode .metering)) ∧
    (s.serves .mode f rest → f.payload = [2] → exec .mode s = queued (.mode .commissioning)) ∧
    (s.serves .erase f rest → f.payload = [] → exec .erase s = queued .erase) ∧
    (∀ p : TablePart, s.serves .tablePut f rest →
      f.payload = byteOf (tableCode p.table) :: (p.selector ++ p.content) →
      p.inRange = true → p.consistent s.cm.tables = false →
      exec .tablePut s = .next (s.refused .reference f rest)) ∧
    (∀ code : Byte, s.serves .tablePut f rest → f.payload.head? = some code →
      (code = 0 ∨ 10 < code.toNat) → exec .tablePut s = .next (s.refused .range f rest)) ∧
    (∀ p : TablePart, s.serves .tablePut f rest → fitsTable true f.payload = true →
      partOf f.payload = some p → p.inRange = false →
      exec .tablePut s = .next (s.refused .range f rest)) ∧
    (∀ period : Nat, s.serves .tablePut f rest →
      f.payload = byteOf (tableCode .patrol) :: leBytes 2 period → period ≤ 65535 →
      period < 50 ∨ 5000 < period → exec .tablePut s = .next (s.refused .range f rest)) ∧
    (∀ limit fault clear : Nat, s.serves .tablePut f rest →
      f.payload = [byteOf (tableCode .health), byteOf limit, byteOf fault, byteOf clear] →
      limit ≤ 255 → fault ≤ 255 → clear ≤ 255 → limit < 8 ∨ fault = 0 ∨ clear = 255 →
      exec .tablePut s = .next (s.refused .range f rest)) ∧
    (∀ (link : Byte) (content : List Byte), s.serves .tablePut f rest →
      f.payload = byteOf (tableCode .links) :: link :: content → content.length = 6 →
      4 ≤ link.toNat → exec .tablePut s = .next (s.refused .range f rest)) ∧
    (∀ (m : Byte), s.serves .mode f rest → f.payload = [m] → m ≠ 1 → m ≠ 2 →
      exec .mode s = .next (s.refused .range f rest)) ∧
    (∀ (a : Byte) (rest' : List Byte), s.serves .preset f rest → f.payload = a :: rest' →
      rest'.length = 200 → 8 ≤ a.toNat → exec .preset s = .next (s.refused .range f rest))

/-- LOCK and UNLOCK: LOCK is refused with STATE while an entry that the lock bars is queued, and UNLOCK with
LOCKED unless SERVICE was latched asserted. A change of the flag queues the CONTRACT block that carries it, and
while the supply monitor is not NORMAL the save is called again, the monitor staying SAVING or SAVED as it was
(R165, R171). Where the spec leaves it open this is the model's choice: assumptions 4, 19 and 30. -/
def Obligations.LockAndUnlock : Prop :=
  ∀ (s : State) (f : MsgFrame) (rest : List MsgFrame), f.payload = [] →
    let changed (locked : Bool) (t : State) : Prop :=
      t.cm = { s.cm with locked := locked } ∧ t.mlc = (s.acked [] f rest).mlc ∧
      t.rsc = { s.rsc with
        configQueue := joinConfig
          ⟨.contract s.cm.tables.contract s.cm.mode locked, s.cm.generation⟩ s.rsc.configQueue
        saveQueue := if s.sm.state = .normal then s.rsc.saveQueue else some .save } ∧
      t.sm.state = s.sm.state ∧ t = { s with cm := t.cm, mlc := t.mlc, rsc := t.rsc, sm := t.sm }
    (s.serves .lock f rest →
      (s.cm.locked = true → exec .lock s = .next (s.acked [] f rest)) ∧
      (s.cm.locked = false → (∃ e ∈ s.cm.queue, e.change.lockable = true) →
        exec .lock s = .next (s.refused .state f rest)) ∧
      (s.cm.locked = false → (∀ e ∈ s.cm.queue, e.change.lockable = false) →
        ∃ t, exec .lock s = .next t ∧ changed true t)) ∧
    (s.serves .unlock f rest →
      (s.straps.service = false → exec .unlock s = .next (s.refused .locked f rest)) ∧
      (s.straps.service = true → s.cm.locked = false →
        exec .unlock s = .next (s.acked [] f rest)) ∧
      (s.straps.service = true → s.cm.locked = true →
        ∃ t, exec .unlock s = .next t ∧ changed false t))

/-- LOG.READ of one or two records joins class 5, and the request waits; when its read has been made it is
answered GONE, NOT-FOUND, CORRUPT, or with the records read, a failing second one left out; a record whose read
fails is unusable from then on, and no other slot changes (R142, R200). Where the spec leaves it open this is
the model's choice: assumptions 4, 5, 23, 61 and 62. -/
def Obligations.LogReadAnswers : Prop :=
  ∀ (s : State) (f : MsgFrame) (rest : List MsgFrame),
    (∀ (first : Nat) (count : Byte), s.serves .logRead f rest →
      f.payload = leBytes 4 first ++ [count] → first ≤ 4294967295 →
      (count = 1 ∨ count = 2 → exec .logRead s = .next { s with
        rsc := { s.rsc with readQueue := some ⟨first, count == 2⟩ }
        mlc := { s.mlc with inService := some .logRead } }) ∧
      (count ≠ 1 → count ≠ 2 → exec .logRead s = .next (s.refused .range f rest))) ∧
    (∀ (v : ReadVerdict) (second : Bool) (n : Nat) (ok₁ ok₂ : Bool), s.powered = true →
      s.mlc.buffer = f :: rest → s.rsc.running = some ⟨.read v second, n⟩ →
      let u : State := { s with rsc := { s.rsc with running := none } }
      let held (q : Nat) := s.store.findRecord s.rsc.map.badSlots q
      let corrupt (slots : List (Nat × IntervalRecord)) : Host.Outcome State Fault Refusal :=
        .next { u.refused .corrupt f rest with
          store := { s.store with slots := slots }
          rsc := { u.rsc with
            counters := { s.rsc.counters with recordErrors := countUp s.rsc.counters.recordErrors } } }
      let one (r : IntervalRecord) (slots : List (Nat × IntervalRecord)) :
          Host.Outcome State Fault Refusal :=
        .next { u.acked (1 :: r.image) f rest with store := { s.store with slots := slots } }
      (v = .gone → exec (.logReadJobDone ok₁ ok₂) s = .next (u.refused .gone f rest)) ∧
      (v = .notFound → exec (.logReadJobDone ok₁ ok₂) s = .next (u.refused .notFound f rest)) ∧
      (∀ q q', v = .read q q' → held q = none →
        exec (.logReadJobDone ok₁ ok₂) s = corrupt s.store.slots) ∧
      (∀ q q' slot r, v = .read q q' → held q = some (slot, r) → ok₁ = false →
        exec (.logReadJobDone ok₁ ok₂) s = corrupt (eraseSlot slot s.store.slots)) ∧
      (∀ q r, v = .read q none → ok₁ = true → (held q).map (·.2) = some r →
        exec (.logReadJobDone ok₁ ok₂) s = .next (u.acked (1 :: r.image) f rest)) ∧
      (∀ q q' r r', v = .read q (some q') → ok₁ = true → ok₂ = true →
        (held q).map (·.2) = some r → (held q').map (·.2) = some r' →
        exec (.logReadJobDone ok₁ ok₂) s = .next (u.acked (2 :: (r.image ++ r'.image)) f rest)) ∧
      (∀ q q' r, v = .read q (some q') → ok₁ = true → (held q).map (·.2) = some r →
        (held q' = none → exec (.logReadJobDone ok₁ ok₂) s = one r s.store.slots) ∧
        ∀ slot r', held q' = some (slot, r') → ok₂ = false →
          exec (.logReadJobDone ok₁ ok₂) s = one r (eraseSlot slot s.store.slots)))

/-- LINK.RESTART: RANGE outside 0..3, HALTED while the part is HALTED, STATE for a DISABLED link; else ACK,
and the link enters BREAKING with its hold of 1,500 ms, leaving UP if it is UP, so that no frame of it is
handed on from then (R124). Where the spec leaves it open this is the model's choice: assumption 4. -/
def Obligations.LinkRestart : Prop :=
  ∀ (s : State) (f : MsgFrame) (rest : List MsgFrame) (n : Byte), s.takes f rest →
    f.kind = RequestKind.linkRestart.code → f.payload = [n] →
    (s.rsc.halted = true → exec .linkRestart s = .next (s.refused .halted f rest)) ∧
    (s.rsc.halted = false → 4 ≤ n.toNat → exec .linkRestart s = .next (s.refused .range f rest)) ∧
    (∀ l : LinkId, s.rsc.halted = false → n.toNat = l.val →
      ((s.links[l]).state = .disabled → exec .linkRestart s = .next (s.refused .state f rest)) ∧
      ((s.links[l]).state ≠ .disabled →
        ∃ t, exec .linkRestart s = .next t ∧ t.mlc = (s.acked [] f rest).mlc ∧
          { t with mlc := s.mlc } = { s with links := t.links, cu := t.cu, wa := t.wa } ∧
          (∀ m : LinkId, m ≠ l → t.links[m] = s.links[m]) ∧
          (t.links[l]).state = .breaking ∧ (t.links[l]).breakHold = some 1500 ∧
          (t.links[l]).silence = none ∧ (t.links[l]).waiting = [] ∧ (t.links[l]).sending = none ∧
          (t.links[l]).counters =
            { (s.links[l]).counters with restarts := countUp (s.links[l]).counters.restarts } ∧
          (if (s.links[l]).isUp then
            (t.links[l]).resolved = none ∧ (t.links[l]).offset = none ∧ (t.links[l]).lost = [] ∧
              (t.links[l]).errorRun = 0 ∧ s.wa.left l t.wa ∧
              t.cu = s.cu.rise s.cm.tables.notice.masked .linkChange
          else t.wa = s.wa ∧ t.cu = s.cu) ∧
          ∀ g : WindowFrame, exec (.windowFrame l g) t = .next t))

/-- POINT.SUBSTITUTE and POINT.RESTORE: their refusals; a DIRECT point with a substitute enters SHADOW with its
counts at 0 and the period N in force; a SHADOW point, and a SUBSTITUTED one that is HEALTHY, become DIRECT, and
a stored mode that changes is written with the POINTS block. SUBSTITUTION and POINT-FAULT then have their
sources from the points as they stand (R63, R66, R67, R68). Where the spec leaves it open this is the model's
choice: assumption 4. -/
def Obligations.PointModeRequests : Prop :=
  ∀ (s : State) (f : MsgFrame) (rest : List MsgFrame) (n : Byte), f.payload = [n] →
    (16 ≤ n.toNat →
      (s.serves .pointSubstitute f rest →
        exec .pointSubstitute s = .next (s.refused .range f rest)) ∧
      (s.serves .pointRestore f rest → exec .pointRestore s = .next (s.refused .range f rest))) ∧
    ∀ p : PointId, n.toNat = p.val →
      let q := s.points[p]
      let one (r : Point) (t : State) : Prop :=
        t.points = s.points.set p r ∧ t.pointLevels ∧ t.mlc = (s.acked [] f rest).mlc ∧
          t = { s with points := t.points, mlc := t.mlc, cu := t.cu, cm := t.cm, rsc := t.rsc }
      (s.serves .pointSubstitute f rest →
        ((s.cm.tables.points[p]).substitute = .none →
          exec .pointSubstitute s = .next (s.refused .reference f rest)) ∧
        ((s.cm.tables.points[p]).substitute ≠ .none → q.mode ≠ .direct →
          exec .pointSubstitute s = .next (s.refused .state f rest)) ∧
        ((s.cm.tables.points[p]).substitute ≠ .none → q.mode = .direct →
          ∃ t, exec .pointSubstitute s = .next t ∧
            one { q with
              mode := .shadow
              shadow := some ⟨0, s.cm.tables.contract.shadowPeriod, 0, 0, 0⟩ } t ∧
            t.cm = s.cm ∧ t.rsc = s.rsc)) ∧
      (s.serves .pointRestore f rest →
        ((q.mode = .direct ∨ (q.mode = .substituted ∧ q.fault = true)) →
          exec .pointRestore s = .next (s.refused .state f rest)) ∧
        ((q.mode = .shadow ∨ (q.mode = .substituted ∧ q.fault = false)) →
          ∃ t, exec .pointRestore s = .next t ∧
            one { q with mode := .direct, shadow := none } t ∧
            t.cm = { s.cm with
              stored := s.cm.stored.set p { s.cm.stored[p] with substituted := false } } ∧
            t.rsc = (if (s.cm.stored[p]).substituted then
                { s.rsc with
                  configQueue :=
                    joinConfig ⟨.points s.cm.tables.points t.cm.stored, s.cm.generation⟩
                      s.rsc.configQueue }
              else s.rsc)))

/-- RESET: refused with STATE while the supply monitor is not NORMAL and the part is not HALTED; else it is
taken, and answered, and no request is served after it. Not HALTED, it drops a queued patrol read, and in
METERING every OPEN account closes with cause RESET, none opening after it; while the record class lacks the
places, or an earlier event waits, the event joins those that wait (R35, R133, R181, R201). Where the spec
leaves it open this is the model's choice: assumptions 4 and 71. -/
def Obligations.ResetIsTaken : Prop :=
  ∀ (s : State) (f : MsgFrame) (rest : List MsgFrame), s.serves .reset f rest → f.payload = [] →
    let taken : MsgController := { (s.acked [] f rest).mlc with resetTaken := true }
    (s.rsc.halted = false → s.sm.state ≠ .normal →
      exec .reset s = .next (s.refused .state f rest)) ∧
    (s.rsc.halted = true → exec .reset s = .next { s with mlc := taken }) ∧
    (s.cm.mode = .commissioning → s.rsc.halted = false → s.sm.state = .normal →
      exec .reset s = .next { s with mlc := taken, rsc := { s.rsc with patrolQueued := false } }) ∧
    (s.cm.mode = .metering → s.closesReady →
      ∃ t, exec .reset s = .next t ∧ t.mlc = taken ∧
        closesMade .reset (if s.tk.valid then s.tk.seconds else 0) none s t ∧
        t.rsc.patrolQueued = false ∧ t.store = s.store ∧ t.cm = s.cm ∧ t.points = s.points ∧
        t.wa = s.wa ∧ t.links = s.links ∧ t.tk = s.tk ∧
        ∀ k : RequestKind, exec k.command t = .next t) ∧
    (s.cm.mode = .metering → s.closesWait →
      exec .reset s = .next { s with
        mlc := taken
        rsc := { s.rsc with patrolQueued := false }
        ia := { s.ia with
          waiting := s.ia.waiting ++
            [⟨.reset, if s.tk.valid then s.tk.seconds else 0, .nothing, false, false⟩] } })

/-! ## The acquisition links -/

/-- A valid OFFER in OFFERING becomes the last OFFER. Equal to the refused content it has no further effect;
else it raises the run, or begins one at 1; at 3 it is resolved: with the latched class and a common profile
the link enters ACKNOWLEDGING with the candidate, its ACCEPT due and the silence timer started, else the
content is refused and LINK-ERROR raised (R113, R114, R116). Where the spec leaves it open this is the
model's choice: assumptions 15 and 16. -/
def Obligations.OfferInOffering : Prop :=
  ∀ (l : LinkId) (c : OfferContent) (s : State), s.receives l = true → c.wf = true →
    (s.links[l]).state = .offering →
    let k := s.links[l]
    let run := if 0 < k.offerRun ∧ k.offerRunContent = some c then k.offerRun + 1 else 1
    let common := c.profiles.resolve (s.cm.tables.links[l]).highest.offered
    ∃ t, exec (.offerFrame l c) s = .next t ∧ s.sameButLink l t ∧ t.wa = s.wa ∧
      (t.links[l]).lastOffer = some c ∧ (t.links[l]).counters = k.counters.good ∧
      (k.refused = some c →
        t.links[l] = { k with lastOffer := some c, counters := k.counters.good } ∧ t.cu = s.cu) ∧
      (k.refused ≠ some c → run ≠ 3 →
        (t.links[l]).state = .offering ∧ (t.links[l]).offerRun = run ∧
          (t.links[l]).offerRunContent = some c ∧ (t.links[l]).refused = none ∧ t.cu = s.cu) ∧
      (∀ p, k.refused ≠ some c → run = 3 → c.freq = s.straps.freq → common = some p →
        (t.links[l]).state = .acknowledging ∧
          (t.links[l]).candidate = some ⟨s.straps.freq, p, c.kinds⟩ ∧
          (t.links[l]).acceptRun = 0 ∧ (t.links[l]).windowRun = 0 ∧ (t.links[l]).offerRun = 0 ∧
          (t.links[l]).silence = some 600 ∧ (t.links[l]).sendTimer = some 20 ∧
          (t.links[l]).waiting = k.waiting.filter (fun x => !x.isPeriodic) ++
            [.accept ⟨s.straps.freq, p, c.kinds⟩] ∧ t.cu = s.cu) ∧
      (k.refused ≠ some c → run = 3 → c.freq ≠ s.straps.freq ∨ common = none →
        (t.links[l]).state = .offering ∧ (t.links[l]).refused = some c ∧
          (t.links[l]).offerRun = 0 ∧
          t.cu = s.cu.rise s.cm.tables.notice.masked .linkError)

/-- A valid ACCEPT equal to the candidate raises the ACCEPT run; the third takes the link UP with the
candidate's content, offset 0, an empty lost list, error run 0, the silence timer started, START due and one
LINK-CHANGE pulse. A different ACCEPT returns the link to OFFERING. In negotiated UP, before a WINDOW, an
equal ACCEPT makes START due again. In OFFERING it is counted and discarded (R113, R116, R118, R119). Where
the spec leaves it open this is the model's choice: assumptions 15 and 16. -/
def Obligations.AcceptTakesLinkUp : Prop :=
  ∀ (l : LinkId) (c : AcceptContent) (s : State), s.receives l = true → c.wf = true →
    let k := s.links[l]
    ∃ t, exec (.acceptFrame l c) s = .next t ∧ s.sameButLink l t ∧
      (t.links[l]).counters = k.counters.good ∧
      (k.state = .acknowledging → k.candidate = some c → k.acceptRun + 1 < 3 →
        t.links[l] = { k with
          acceptRun := k.acceptRun + 1, silence := some 600, counters := k.counters.good } ∧
        t.cu = s.cu ∧ t.wa = s.wa) ∧
      (k.state = .acknowledging → k.candidate = some c → k.acceptRun + 1 = 3 →
        (t.links[l]).state = .up false ∧ (t.links[l]).resolved = some c ∧
        (t.links[l]).offset = some 0 ∧ (t.links[l]).lost = [] ∧ (t.links[l]).errorRun = 0 ∧
        (t.links[l]).windowSinceUp = false ∧ (t.links[l]).silence = some 600 ∧
        (t.links[l]).waiting = k.waiting ++ [.start] ∧
        t.cu = s.cu.rise s.cm.tables.notice.masked .linkChange ∧ t.wa = s.wa) ∧
      (k.state = .acknowledging → k.candidate ≠ some c → k.resolved = none → k.offset = none →
        k.backToOffering (s.ownOffer l) t.links[l]) ∧
      (k.state = .up false → k.resolved = some c → k.windowSinceUp = false →
        t.links[l] = { k with
          waiting := k.waiting ++ [.start], silence := some 600, counters := k.counters.good } ∧
        t.cu = s.cu ∧ t.wa = s.wa) ∧
      (k.state = .up true ∨ (k.state = .up false ∧ k.resolved ≠ some c) →
        k.backToOffering (s.ownOffer l) t.links[l] ∧ s.wa.left l t.wa ∧
        t.cu = s.cu.rise s.cm.tables.notice.masked .linkChange) ∧
      (k.state = .offering → t.links[l] = { k with counters := k.counters.good } ∧
        t.cu = s.cu ∧ t.wa = s.wa)

/-- A valid WINDOW frame that fits an UP link, in range and not a duplicate: it is buffered in order, its
lost-list entry ends and the error run becomes 0; it joins the open record of its sequence, or opens one with
its duration clamped to 150,000..250,000 and marked when the clamp acts, the links that are UP as its expected
set, and its deadline A ms ahead. A duplicate is counted and changes neither buffers nor records (R17, R91, R94,
R95, R122). Where the spec leaves it open this is the model's choice: assumption 52. -/
def Obligations.WindowFrameInRange : Prop :=
  ∀ (l : LinkId) (f : WindowFrame) (s : State), s.receives l = true → f.wf = true →
    (s.links[l]).isUp = true → (s.links[l]).matchesFrame f = true →
    let k := s.links[l]
    let seq := f.seq + k.offset.getD 0
    let d := f.duration.toNat
    seq - s.wa.front ≤ 3 →
    ∃ t, exec (.windowFrame l f) s = .next t ∧ s.sameButLink l t ∧ t.cu = s.cu ∧
      t.wa.front = s.wa.front ∧ t.wa.processing = s.wa.processing ∧
      (t.links[l]).state = k.state ∧ (t.links[l]).silence = some 600 ∧
      ((∃ b ∈ s.wa.buffers[l], b.seq = seq) →
        t.wa = s.wa ∧ (t.links[l]).counters =
          { k.counters.good with duplicates := countUp k.counters.duplicates }) ∧
      ((∀ b ∈ s.wa.buffers[l], b.seq ≠ seq) →
        (t.links[l]).counters = k.counters.good ∧ (t.links[l]).errorRun = 0 ∧
        (t.links[l]).lost = k.lost.filter (· != seq) ∧
        t.wa.buffers = s.wa.buffers.set l (insertFrame s.wa.front ⟨seq, f⟩ s.wa.buffers[l]) ∧
        ((∃ r ∈ s.wa.records, r.seq = seq) →
          t.wa.records = s.wa.records.map fun r =>
            if r.seq = seq then { r with arrived := r.arrived ||| only l } else r) ∧
        ((∀ r ∈ s.wa.records, r.seq ≠ seq) → ∃ r, t.wa.records = s.wa.records ++ [r] ∧
          r.seq = seq ∧ r.firstArrival = s.timeBase ∧ r.arrived = only l ∧
          (∀ m : LinkId, r.expected.getLsbD m = (s.links[m]).isUp) ∧
          r.deadline = s.timeBase + s.cm.tables.contract.allowance ∧
          r.duration = max 150000 (min 250000 d) ∧
          (r.offFreq = true ↔ d < 150000 ∨ 250000 < d)))

/-- A frame that is ahead, with d in 4..32,767, is out-of-step: it is discarded, the link leaves UP and enters
BREAKING, with its frames and its places in the records removed, and LINK-ERROR is raised (R92). One that is
behind, with d in 32,768..65,535, is late: it is discarded, the late counter rises by 1, the link state does
not change, and no record, buffer or window changes (R93). -/
def Obligations.WindowFrameOutOfRange : Prop :=
  ∀ (l : LinkId) (f : WindowFrame) (s : State) (fixed : Bool), s.receives l = true → f.wf = true →
    (s.links[l]).state = .up fixed → (s.links[l]).matchesFrame f = true →
    let k := s.links[l]
    let d := (f.seq + k.offset.getD 0 - s.wa.front).toNat
    (4 ≤ d → d ≤ 32767 →
      ∃ t, exec (.windowFrame l f) s = .next t ∧ s.sameButLink l t ∧
        (t.links[l]).state = .breaking ∧ (t.links[l]).breakHold = some 1500 ∧
        (t.links[l]).resolved = none ∧ (t.links[l]).waiting = [] ∧ s.wa.left l t.wa ∧
        (t.links[l]).counters =
          { k.counters.good with restarts := countUp k.counters.restarts } ∧
        t.cu.flags[1] = true ∧ t.cu.flags[2] = true) ∧
    (32768 ≤ d → exec (.windowFrame l f) s = .next { s with links := s.links.set l { k with
      silence := some 600
      windowSinceUp := k.windowSinceUp || !fixed
      counters := { k.counters.good with late := countUp k.counters.late } } })

/-- WINDOW frames in OFFERING where fixed format is allowed: the third in sequence that fits the fixed entry
takes the link UP in fixed format, with the profile BASIC, the entry's descriptors and the offset that
brings the third frame to W + 2, where it is buffered when no frame is held there; no START is sent. A frame
that does not fit zeroes the run. Where fixed format is not allowed, and in ACKNOWLEDGING, a frame is only
counted; an UP link's frame that does not match the profile is invalid (R108, R115, R116). Where the spec
leaves it open this is the model's choice: assumption 16. -/
def Obligations.WindowFrameElsewhere : Prop :=
  ∀ (l : LinkId) (f : WindowFrame) (s : State), s.receives l = true → f.wf = true →
    let k := s.links[l]
    let e := s.cm.tables.links[l]
    let fits := f.orders = 25 ∧ f.channels = e.fixedCount
    let n := if (k.windowRun = 1 ∨ k.windowRun = 2) ∧ k.windowRunSeq = some (f.seq - 1) then k.windowRun
      else 0
    (k.state = .acknowledging → exec (.windowFrame l f) s = .next { s with
      links := s.links.set l { k with silence := some 600, counters := k.counters.good } }) ∧
    (k.state = .offering → e.fixedAllowed = false → exec (.windowFrame l f) s = .next { s with
      links := s.links.set l { k with counters := k.counters.good } }) ∧
    (k.state = .offering → e.fixedAllowed = true → ¬ fits →
      exec (.windowFrame l f) s = .next { s with links := s.links.set l { k with
        windowRun := 0, windowRunSeq := none, counters := k.counters.good } }) ∧
    (k.state = .offering → e.fixedAllowed = true → fits →
      (n < 2 → exec (.windowFrame l f) s = .next { s with links := s.links.set l { k with
        windowRun := n + 1, windowRunSeq := some f.seq, counters := k.counters.good } }) ∧
      (n = 2 → ∃ t, exec (.windowFrame l f) s = .next t ∧ s.sameButLink l t ∧
        (t.links[l]).state = .up true ∧
        (t.links[l]).resolved = some ⟨s.straps.freq, .basic, e.fixedKinds.toList.take e.fixedCount⟩ ∧
        (t.links[l]).offset = some (s.wa.front + 2 - f.seq) ∧
        (t.links[l]).silence = some 600 ∧ (t.links[l]).waiting = k.waiting ∧
        t.cu = s.cu.rise s.cm.tables.notice.masked .linkChange ∧
        ((∀ b ∈ s.wa.buffers[l], b.seq ≠ s.wa.front + 2) → t.wa.buffers =
          s.wa.buffers.set l (insertFrame s.wa.front ⟨s.wa.front + 2, f⟩ s.wa.buffers[l])))) ∧
    (k.isUp = true → k.matchesFrame f = false → exec (.windowFrame l f) s = .next { s with
      links := s.links.set l { k with counters := k.counters.crcError } })

/-- A frame received in UP that fails its CRC-32 is counted in every case and does not take the link out of UP.
With an intact header, and its adjusted sequence within W..W+3 and neither lost nor buffered, the sequence
joins the lost list and a REPEAT naming the frame's own is due; else nothing more happens (R121). -/
def Obligations.DamagedWindow : Prop :=
  ∀ (l : LinkId) (seq : Seq) (s : State), s.receives l = true → (s.links[l]).isUp = true →
    let k := s.links[l]
    let adjusted := seq + k.offset.getD 0
    let counted : Link := { k with
      counters := { k.counters with crcErrors := countUp k.counters.crcErrors } }
    exec (.invalidFrame l) s = .next { s with links := s.links.set l counted } ∧
    ((adjusted - s.wa.front).toNat ≤ 3 → adjusted ∉ k.lost →
      (∀ b ∈ s.wa.buffers[l], b.seq ≠ adjusted) →
      exec (.damagedWindow l seq) s = .next { s with links := s.links.set l { counted with
        lost := k.lost ++ [adjusted], waiting := k.waiting ++ [.again seq] } }) ∧
    (4 ≤ (adjusted - s.wa.front).toNat ∨ adjusted ∈ k.lost ∨
        (∃ b ∈ s.wa.buffers[l], b.seq = adjusted) →
      exec (.damagedWindow l seq) s = .next { s with links := s.links.set l counted })

/-- An OFFER received in UP, or one of other content in ACKNOWLEDGING than the last one, returns the link to
OFFERING and begins the OFFER run there at 1 with this content; one equal to the last OFFER in ACKNOWLEDGING is
counted, restarts the silence timer and has no further effect. Invalid frames outside UP, and jabber cuts, reset
the runs, a cut with LINK-ERROR; the receive pair is ignored from the cut until it has been idle for 1 ms (R107,
R109, R110, R116 to R118). Where the spec leaves it open this is the model's choice: assumptions 15, 17 and
18. -/
def Obligations.OfferElsewhereAndBadFrames : Prop :=
  ∀ (l : LinkId) (s : State), s.powered = true →
    let k := s.links[l]
    let counted : Link := { k.resetRuns with
      counters := { k.counters with crcErrors := countUp k.counters.crcErrors } }
    (k.ignoring = none → exec (.jabberIdleEnd l) s = .next s) ∧
    (∀ n, k.ignoring = some n → ∃ t, exec (.jabberIdleEnd l) s = .next t ∧
      t = { s.advance n with links := t.links } ∧
      (∀ m : LinkId, m ≠ l → t.links[m] = (s.links[m]).advance n) ∧
      t.links[l] = { k.advance n with ignoring := none }) ∧
    (s.receives l = true →
      (∀ c : OfferContent, c.wf = true →
        k.isUp = true ∨ (k.state = .acknowledging ∧ k.lastOffer ≠ some c) →
        ∃ t, exec (.offerFrame l c) s = .next t ∧ s.sameButLink l t ∧
          (t.links[l]).state = .offering ∧ (t.links[l]).offerRun = 1 ∧
          (t.links[l]).offerRunContent = some c ∧ (t.links[l]).lastOffer = some c ∧
          (t.links[l]).candidate = none ∧ (t.links[l]).silence = none ∧
          (t.links[l]).waiting = k.waiting.filter (fun x => !x.isPeriodic) ++ [s.ownOffer l] ∧
          (k.isUp = true → s.wa.left l t.wa ∧
            t.cu = s.cu.rise s.cm.tables.notice.masked .linkChange)) ∧
      (∀ c : OfferContent, c.wf = true → k.state = .acknowledging → k.lastOffer = some c →
        exec (.offerFrame l c) s = .next { s with links := s.links.set l { k with
          silence := some 600, counters := k.counters.good } }) ∧
      ∀ seq : Seq,
        (k.state = .offering ∨ k.state = .acknowledging →
          exec (.invalidFrame l) s = .next { s with links := s.links.set l counted } ∧
          exec (.damagedWindow l seq) s = exec (.invalidFrame l) s) ∧
        ∃ t, exec (.jabberCut l) s = .next t ∧ s.sameButLink l t ∧ t.wa = s.wa ∧
          t.links[l] = { k.resetRuns with
            ignoring := some 1
            counters := { k.counters with jabberCuts := countUp k.counters.jabberCuts } } ∧
          t.cu = s.cu.rise s.cm.tables.notice.masked .linkError ∧
          ∀ f : WindowFrame, exec (.windowFrame l f) t = .next t)

/-- The transmitter: OFFER falls due each period in OFFERING and ACCEPT in ACKNOWLEDGING, unless one still
waits; the first waiting frame is sent, a START with the base W + 2 of that instant, a REPEAT counted; while a
frame is being sent the others wait (R110, R113, R116, R125). Where the spec leaves it open this is the model's
choice: assumption 3. -/
def Obligations.LinkSends : Prop :=
  ∀ (l : LinkId) (s : State), s.powered = true →
    let k := s.links[l]
    let u := s.advance (k.sendTimer.getD 0)
    let due (x : LinkTx) (t : State) : Prop :=
      t = { u with links := t.links } ∧ (∀ m : LinkId, m ≠ l → t.links[m] = u.links[m]) ∧
        t.links[l] = { u.links[l] with
          sendTimer := some 20
          waiting := if k.waiting.any LinkTx.isPeriodic then k.waiting else k.waiting ++ [x] }
    (k.state = .offering → ∃ t, exec (.offerSendPeriod l) s = .next t ∧
      due (.offer ⟨s.straps.freq, (s.cm.tables.links[l]).highest.offered, []⟩) t) ∧
    (∀ c, k.state = .acknowledging → k.candidate = some c →
      ∃ t, exec (.acceptSendPeriod l) s = .next t ∧ due (.accept c) t) ∧
    (k.sending ≠ none → exec (.linkFrameSend l) s = .next s) ∧
    (∀ x rest, k.sending = none → k.waiting = x :: rest → ∃ t, exec (.linkFrameSend l) s = .next t ∧
      t = { s with links := s.links.set l { k with
        waiting := rest, sending := (t.links[l]).sending, counters := (t.links[l]).counters } } ∧
      (x = .start → (t.links[l]).sending = some (linkFrame 3 (leBytes 2 (s.wa.front + 2).toNat))) ∧
      (∀ c, x = .offer c → (t.links[l]).sending = some (linkFrame 1 c.payload)) ∧
      (∀ c, x = .accept c → (t.links[l]).sending = some (linkFrame 2 c.payload)) ∧
      (∀ q, x = .again q → (t.links[l]).sending = some (linkFrame 5 (leBytes 2 q.toNat)) ∧
        (t.links[l]).counters =
          { k.counters with repeatsSent := countUp k.counters.repeatsSent }) ∧
      ((∀ q, x ≠ .again q) → (t.links[l]).counters = k.counters))

/-- The timers of a link: silence in ACKNOWLEDGING or UP, and the end of the break hold, bring it to
OFFERING with OFFER due; from UP it leaves UP first. At its deadline an open record is ready (R96, R104,
R117, R119). Where the spec leaves it open this is the model's choice: assumptions 3 and 15. -/
def Obligations.LinkTimers : Prop :=
  ∀ (s : State), s.powered = true →
    (∀ (l : LinkId) (n : Nat), (s.links[l]).silence = some n →
      (s.links[l]).isUp = true ∨ (s.links[l]).state = .acknowledging →
      ∃ t, exec (.silenceTimerExpiry l) s = .next t ∧ (s.advance n).sameButLink l t ∧
        t.timeBase = s.timeBase + n ∧ (t.links[l]).state = .offering ∧
        (t.links[l]).candidate = none ∧ (t.links[l]).offerRun = 0 ∧ (t.links[l]).silence = none ∧
        (t.links[l]).waiting =
          (s.links[l]).waiting.filter (fun x => !x.isPeriodic) ++ [s.ownOffer l] ∧
        ((s.links[l]).isUp = true → (t.links[l]).resolved = none ∧ s.wa.left l t.wa ∧
          t.cu.flags[1] = true)) ∧
    (∀ (l : LinkId) (n : Nat), (s.links[l]).breakHold = some n → (s.links[l]).state = .breaking →
      ∃ t, exec (.breakHoldExpiry l) s = .next t ∧ (s.advance n).sameButLink l t ∧
        t.timeBase = s.timeBase + n ∧ t.wa = s.wa ∧ (t.links[l]).state = .offering ∧
        (t.links[l]).breakHold = none ∧ (t.links[l]).sendTimer = some 20 ∧
        (t.links[l]).waiting =
          (s.links[l]).waiting.filter (fun x => !x.isPeriodic) ++ [s.ownOffer l]) ∧
    (∀ q : Seq, (∃ r ∈ s.wa.records, r.seq = q) →
      ∃ t, exec (.assemblyDeadlineExpiry q) s = .next t ∧ t.wa = s.wa ∧
        ∃ r ∈ t.wa.records, r.seq = q ∧ r.ready t.timeBase = true ∧
          t = s.advance (r.deadline - s.timeBase))

/-! ## Windows and the change queue -/

/-- A window is taken when some open record is ready and none is in processing; in NORMAL and not HALTED it is
handed on: W rises by 1, its record and its frames are removed, the point stage finds each point's direct
results and settles its mode, the topology resolver resolves the window, every account's contribution is the
signed sum of the effective vectors of its terms in the map in force, with its status and flags, and in
METERING, no soft reset waiting, the interval accountant applies the results as one whole, when they are applied
within this step (the model's operand, assumption 8). A point enters SUBSTITUTED by automatic substitution or at
the end of its shadow period, whose comparisons count where both results are FRESH in a window that is not void;
stored values that change queue the POINTS block; a MISSING point pulses WINDOW-GAP. A window without a record
is void, with D = 200,000 (R11, R12, R20, R23, R27, R28, R51, R61, R62, R64, R65, R67, R68, R97 to R100, R159,
R181). Where the spec leaves it open this is the model's choice: assumptions 8, 51 and 59. -/
def Obligations.TakeWindowHandsOn : Prop :=
  ∀ (s : State) (applied : Bool), s.powered = true → s.wa.processing = none →
    (∃ r ∈ s.wa.records, r.ready s.timeBase = true) → s.cm.walking = false → s.sm.state = .normal →
    s.rsc.halted = false → s.ia.waiting = [] →
    let w := s.wa.windowAt
    ((∀ r ∈ s.wa.records, r.seq ≠ s.wa.front) → w.duration = 200000 ∧ w.offFreq = false ∧
      ∀ l : LinkId, w.frames[l] = none) ∧
    ∃ t, exec (.takeWindow applied) s = .next t ∧
      t.wa.front = s.wa.front + 1 ∧ (∀ r ∈ t.wa.records, r.seq ≠ s.wa.front) ∧
      (∀ (l : LinkId), ∀ b ∈ t.wa.buffers[l], b.seq ≠ s.wa.front ∧ b ∈ s.wa.buffers[l]) ∧
      t.tr = s.tr.resolve s.cm.tables w ∧
      (let ds : Vector Direct 16 := Vector.ofFn fun p =>
        directPoint s.cm.tables t.links w s.cm.tables.points[p] s.points[p]
      let sub (p : PointId) := substituteOf ds (s.cm.tables.points[p]).substitute
      let handed (p : PointId) : PointVector × Status :=
        if (s.points[p]).mode = .substituted then (sub p).getD ((ds[p]).vector, (ds[p]).status)
        else ((ds[p]).vector, (ds[p]).status)
      (∀ p : PointId,
        let d := (ds[p]).point
        let switches := d.fault = true ∧ (s.points[p]).fault = false ∧
          (s.cm.tables.points[p]).autoSub = true ∧ (s.points[p]).mode ≠ .substituted
        let plain : Prop := t.points[p] = d ∧ t.cm.stored[p] = s.cm.stored[p]
        (switches → t.points[p] = { d with mode := .substituted, shadow := none } ∧
          t.cm.stored[p] = { s.cm.stored[p] with substituted := true }) ∧
        (¬ switches → (s.points[p]).mode ≠ .shadow → plain) ∧
        (¬ switches → (s.points[p]).shadow = none → plain) ∧
        ∀ sh, ¬ switches → (s.points[p]).mode = .shadow → (s.points[p]).shadow = some sh →
          let after (sh' : Shadow) : Prop :=
            (sh.windows + 1 < sh.period →
              t.points[p] = { d with shadow := some sh' } ∧ t.cm.stored[p] = s.cm.stored[p]) ∧
            (sh.period ≤ sh.windows + 1 →
              t.points[p] = { d with mode := .substituted, shadow := none } ∧
              t.cm.stored[p] =
                ⟨true, some ⟨shadowMean sh'.p1Sum sh'.comparisons,
                  shadowMean sh'.q1Sum sh'.comparisons, s.wa.front⟩⟩)
          (∀ v, (∃ l : LinkId, w.frames[l] ≠ none) → (ds[p]).status = .fresh →
            sub p = some (v, .fresh) → after { sh with
              windows := sh.windows + 1, comparisons := sh.comparisons + 1
              p1Sum := sh.p1Sum + (v.p1 - (ds[p]).vector.p1)
              q1Sum := sh.q1Sum + (v.q1 - (ds[p]).vector.q1) }) ∧
          ((∀ l : LinkId, w.frames[l] = none) ∨ (ds[p]).status ≠ .fresh ∨
              (∀ v, sub p ≠ some (v, .fresh)) →
            after { sh with windows := sh.windows + 1 })) ∧
      t.cm = { s.cm with stored := t.cm.stored } ∧
      t.rsc = (if t.cm.stored = s.cm.stored then s.rsc else { s.rsc with
        configQueue := joinConfig ⟨.points s.cm.tables.points t.cm.stored, s.cm.generation⟩
          s.rsc.configQueue }) ∧
      t.pointLevels ∧
      ((∃ p : PointId, (ds[p]).status = .missing ∧ (s.cm.tables.points[p]).used ≠ []) →
        t.cu.flags[3] = true ∧
        t.cu.rises[3] = if s.cu.flags[3] then min 255 (s.cu.rises[3] + 1) else 1) ∧
      ((∀ p : PointId, (ds[p]).status = .missing → (s.cm.tables.points[p]).used = []) →
        t.cu.flags[3] = s.cu.flags[3] ∧ t.cu.rises[3] = s.cu.rises[3]) ∧
      ∃ results : Vector AccountWindow 8,
        (∀ a : AccountId,
          let terms := (s.cm.tables.composition[t.tr.map])[a]
          (results[a]).vector = sumTerms (fun p => (handed p).1) terms ∧
          (results[a]).status = worstStatus (fun p => (handed p).2) terms ∧
          ((results[a]).partialOrders = true ↔ ∃ x ∈ terms, ∃ (i : BandId) (b : Band),
            s.cm.tables.bands[i] = some b ∧ (ds[x.point]).point.orders < b.hi) ∧
          ((results[a]).suspect = true ↔ ∃ x ∈ terms, (s.points[x.point]).mode ≠ .substituted ∧
            (ds[x.point]).point.fault = true) ∧
          ((results[a]).substituted = true ↔ ∃ x ∈ terms,
            (s.points[x.point]).mode = .substituted)) ∧
        t.wa.processing =
          some ⟨s.wa.front, w.duration, t.tr.map,
            if applied = true ∧ s.mlc.resetTaken = false then none else some results⟩ ∧
        (∀ a : AccountId, t.pau[a] =
          some ⟨s.wa.front, t.tr.map, w.duration, w.offFreq, s.cm.mode, (results[a]).vector⟩ ∧
          (results[a]).offFreq = w.offFreq ∧ (results[a]).transfer = t.tr.transfer ∧
          (results[a]).undefTopo = !t.tr.matched) ∧
        (applied = true → s.mlc.resetTaken = false → s.cm.mode = .metering → ∀ a : AccountId,
          t.ia.accounts[a] =
          (s.ia.accounts[a]).applyWindow s.cm.tables.bands w.duration t.tr.map results[a])) ∧
      (applied = false ∨ s.mlc.resetTaken = true ∨ s.cm.mode = .commissioning → t.ia = s.ia) ∧
      (∀ a : AccountId, (t.ia.accounts[a]).regs = (s.ia.accounts[a]).regs) ∧
      t.store = s.store ∧ t.tk = s.tk ∧ t.sm = s.sm ∧ t.mlc = s.mlc ∧ t.timeBase = s.timeBase ∧
      t.cm.tables = s.cm.tables ∧ t.cm.queue = s.cm.queue

/-- While the supply monitor is not NORMAL or the part is HALTED a taken window is discarded: W rises by 1,
its record and frames go, and no point, breaker, contribution or account changes. Handed on or discarded,
the take of W is reported to each link whose lost list holds it: the entry ends and the error run rises by
1; at 3 the link enters BREAKING with LINK-ERROR (R20, R34, R98, R103, R122). Where the spec leaves it open
this is the model's choice: assumption 13. -/
def Obligations.TakeWindowReports : Prop :=
  ∀ (s : State) (applied : Bool), s.powered = true → s.wa.processing = none →
    (∃ r ∈ s.wa.records, r.ready s.timeBase = true) → s.cm.walking = false →
    s.ia.waiting = [] ∨ s.sm.state ≠ .normal ∨ s.rsc.halted = true →
    ∃ t, exec (.takeWindow applied) s = .next t ∧
      (s.sm.state ≠ .normal ∨ s.rsc.halted = true →
        t = { s with wa := t.wa, links := t.links, cu := t.cu } ∧
        t.wa.front = s.wa.front + 1 ∧ t.wa.processing = none ∧
        (∀ r ∈ t.wa.records, r.seq ≠ s.wa.front) ∧
        ∀ (l : LinkId), ∀ b ∈ t.wa.buffers[l], b.seq ≠ s.wa.front ∧ b ∈ s.wa.buffers[l]) ∧
      ∀ l : LinkId,
        let k := s.links[l]
        (s.wa.front ∉ k.lost → t.links[l] = k) ∧
        (s.wa.front ∈ k.lost → k.errorRun < 2 → t.links[l] =
          { k with lost := k.lost.filter (· != s.wa.front), errorRun := k.errorRun + 1 }) ∧
        (s.wa.front ∈ k.lost → k.errorRun = 2 → (t.links[l]).state = .breaking ∧
          (t.links[l]).breakHold = some 1500 ∧
          (t.links[l]).counters = { k.counters with restarts := countUp k.counters.restarts } ∧
          t.cu.flags[2] = true)

/-- The window boundary with an empty change queue: results that still stand are applied in METERING, but during
the wait of a soft reset, the window is no longer in processing, and nothing else changes (R22, R99, R159,
R181). Where the spec leaves it open this is the model's choice: assumptions 8 and 43. -/
def Obligations.WindowBoundaryFalls : Prop :=
  ∀ (s : State) (p : Processing), s.powered = true → s.wa.processing = some p →
    s.rsc.halted = false → s.sm.state = .normal → s.ia.waiting = [] → s.cm.queue = [] →
    ∃ t, exec .windowBoundary s = .next t ∧
      t = { s with
        wa := { s.wa with processing := none }, ia := { s.ia with accounts := t.ia.accounts }
        cm := { s.cm with queue := [], stop := none, walking := false } } ∧
      (p.results = none ∨ s.mlc.resetTaken = true ∨ s.cm.mode = .commissioning → t.ia = s.ia) ∧
      ∀ r, p.results = some r → s.mlc.resetTaken = false → s.cm.mode = .metering →
        ∀ a : AccountId, t.ia.accounts[a] =
          (s.ia.accounts[a]).applyWindow s.cm.tables.bands p.duration p.map r[a]

/-- The walk judges the entry at the head in order, at the boundary and as it goes on: outside NORMAL, so after a
PFW assertion between two entries, it stops with SUPPLY; a touched account with a close in flight stops it with
IN-FLIGHT; too few record places stop it with RECORD-PLACES, the entry staying at the head each time; an entry
that has become invalid is discarded with a CHANGE-REJECTED pulse. Past an entry applied or discarded it goes on to
the next, and no window is taken before it has ended (R159, R160). Where the spec leaves it open this is the
model's choice: assumptions 8 and 43. -/
def Obligations.WalkTests : Prop :=
  ∀ (s : State) (e : ChangeEntry) (rest : List ChangeEntry), s.powered = true →
    (∃ p, s.wa.processing = some p ∧ p.results = none) ∨
      (s.wa.processing = none ∧ s.cm.walking = true) →
    s.rsc.halted = false → s.ia.waiting = [] → s.cm.queue = e :: rest →
    let stopped (reason : StopReason) : Host.Outcome State Fault Refusal := .next { s with
      wa := { s.wa with processing := none }
      cm := { s.cm with stop := some (e.number, reason), walking := false } }
    let past (m : Manager) : Manager := { m with
      queue := rest, walking := decide (rest ≠ []), stop := if rest = [] then none else s.cm.stop }
    let busy := ∃ a ∈ s.cm.touches e.change, (s.ia.accounts[a]).inFlight = true
    let places := s.openAmong (s.cm.closes e.change) ≤ s.rsc.freePlaces
    (s.sm.state ≠ .normal → exec .windowBoundary s = stopped .supply) ∧
    (s.sm.state = .normal → busy ∨ (e.change = .erase ∧ s.rsc.records ≠ []) →
      exec .windowBoundary s = stopped .inFlight) ∧
    (s.sm.state = .normal → ¬ busy → e.change ≠ .erase → ¬ places →
      exec .windowBoundary s = stopped .recordPlaces) ∧
    (∀ part, e.change = .table part → s.sm.state = .normal → ¬ busy → places →
      part.inRange = false ∨ part.consistent s.cm.tables = false →
      ∃ t, exec .windowBoundary s = .next t ∧
        t = { s with
          wa := { s.wa with processing := none }
          cu := s.cu.rise s.cm.tables.notice.masked .changeRejected
          cm := past { s.cm with
            lastDiscarded := some e.number, discards := countUp s.cm.discards } }) ∧
    (s.walkVerdict e.change = .applies → ∃ t, exec .windowBoundary s = .next t ∧
      t.cm = past { t.cm with lastApplied := some e.number } ∧ t.wa.processing = none ∧
      t.sm = s.sm ∧ t.tk = s.tk ∧ t.store = s.store) ∧
    (s.cm.walking = true → ∀ applied : Bool, exec (.takeWindow applied) s = .next s)

/-- A TABLE entry that passes the walk: in METERING every OPEN account that it touches closes first with cause
CONFIG, under the table as it was, and opens afresh; then its part replaces that of the table, links, points,
breakers, next boundary and condition unit adjust to it, each by its own rule (R50, R60, R75, R120, R186), the
generation rises by 1, and the block's write carries both. An entry equal to the part in force changes nothing;
in COMMISSIONING no account changes (R32, R36, R158, R161). Where the spec leaves it open this is the model's
choice: assumptions 27, 45 and 50. -/
def Obligations.TableEntryApplies : Prop :=
  ∀ (s : State) (p : Processing) (n : Nat) (part : TablePart), s.powered = true →
    s.wa.processing = some p → p.results = none → s.rsc.halted = false → s.ia.waiting = [] →
    s.cm.queue = [⟨n, .table part⟩] → s.walkVerdict (.table part) = .applies →
    let closing := if s.cm.mode = .metering then s.cm.touches (.table part) else []
    ∃ t, exec .windowBoundary s = .next t ∧ t.cm.queue = [] ∧ t.cm.stop = none ∧
      t.cm.walking = false ∧ t.cm.lastApplied = some n ∧ t.wa.processing = none ∧
      t.cm.mode = s.cm.mode ∧ t.cm.locked = s.cm.locked ∧ t.store = s.store ∧
      (s.cm.tables.holds part = true → t.cm.tables = s.cm.tables ∧
        t.cm.generation = s.cm.generation ∧ t.rsc = s.rsc ∧ t.ia = s.ia ∧
        t = { s with cm := t.cm, wa := { s.wa with processing := none } }) ∧
      (s.cm.tables.holds part = false → t.cm.tables = s.cm.tables.put part ∧
        t.cm.tables.holds part = true ∧
        State.adjusted part { s with wa := { s.wa with processing := none } } t ∧
        t.cm.generation = countUp s.cm.generation ∧
        ⟨t.contentOf part.table, t.cm.generation⟩ ∈ t.rsc.configQueue ∧
        (∀ a : AccountId, a ∉ closing → t.ia.accounts[a] = s.ia.accounts[a]) ∧
        (∀ a : AccountId, a ∈ closing →
          accountClosed s.cm.tables.contract s.tk.valid (some s.tk.seconds) s.ia.accounts[a]
            t.ia.accounts[a] ∧
          ((s.ia.accounts[a]).interval ≠ none →
            ⟨a, (t.ia.accounts[a]).regs, (t.ia.accounts[a]).residues⟩ ∈ t.rsc.blockQueue)) ∧
        t.ia.nextSeq = s.ia.nextSeq + s.openAmong closing ∧
        ∃ l, t.rsc.recordQueue = s.rsc.recordQueue ++ l ∧
          l.map (·.seq) = List.range' s.ia.nextSeq (s.openAmong closing) ∧
          ∀ r ∈ l, r.cause = .config ∧ r.account ∈ closing ∧
            r.minutes = s.cm.tables.contract.minutes ∧
            r.endTime = if s.tk.valid then s.tk.seconds else 0)

/-- PRESET: the account, closed first with cause PRESET if it is OPEN in METERING, holds the given values with no
mark and residues 0, and a write of it is queued; no other account changes (R44, R163). -/
def Obligations.PresetEntryApplies : Prop :=
  ∀ (s : State) (p : Processing) (n : Nat) (a : AccountId) (values : Vector Nat 25),
    s.powered = true → s.wa.processing = some p → p.results = none → s.rsc.halted = false →
    s.ia.waiting = [] → s.cm.queue = [⟨n, .preset a values⟩] →
    s.walkVerdict (.preset a values) = .applies →
    let before := s.ia.accounts[a]
    ∃ t, exec .windowBoundary s = .next t ∧ t.cm = { s.cm with
        queue := [], stop := none, walking := false, lastApplied := some n } ∧
      (∀ i : Fin 25, ((t.ia.accounts[a]).regs)[i] = ⟨values[i], false, false, false⟩) ∧
      (∀ i : Fin 24, ((t.ia.accounts[a]).residues)[i] = 0) ∧
      (t.ia.accounts[a]).inFlight = true ∧
      (∀ b : AccountId, b ≠ a → t.ia.accounts[b] = s.ia.accounts[b]) ∧
      ⟨a, (t.ia.accounts[a]).regs, (t.ia.accounts[a]).residues⟩ ∈ t.rsc.blockQueue ∧
      t.store = s.store ∧ t.points = s.points ∧
      (s.cm.mode = .commissioning ∨ before.interval = none →
        (t.ia.accounts[a]).interval = before.interval ∧ t.ia.nextSeq = s.ia.nextSeq ∧
        t.rsc.recordQueue = s.rsc.recordQueue) ∧
      (∀ iv, s.cm.mode = .metering → before.interval = some iv →
        (t.ia.accounts[a]).interval = some (.fresh s.tk.valid s.tk.seconds before.gapMark) ∧
        t.ia.nextSeq = s.ia.nextSeq + 1 ∧
        t.rsc.recordQueue = s.rsc.recordQueue ++
          [buildRecord s.cm.tables.contract s.ia.nextSeq a .preset
            (if s.tk.valid then s.tk.seconds else 0) iv
            (closedRegs s.cm.tables.contract.ratio iv before.regs)])

/-- MODE to METERING opens a fresh interval for every account, which consumes its gap mark; MODE to
COMMISSIONING closes every OPEN account with cause MODE, and none opens. Either queues the CONTRACT block with
the mode; a target equal to the mode changes nothing (R32, R36, R162, R178). Where the spec leaves it open this
is the model's choice: assumption 47. -/
def Obligations.ModeEntryApplies : Prop :=
  ∀ (s : State) (p : Processing) (n : Nat) (target : DeviceMode), s.powered = true →
    s.wa.processing = some p → p.results = none → s.rsc.halted = false → s.ia.waiting = [] →
    s.cm.queue = [⟨n, .mode target⟩] → s.walkVerdict (.mode target) = .applies →
    ∃ t, exec .windowBoundary s = .next t ∧
      t.cm = { s.cm with
        queue := [], stop := none, walking := false, lastApplied := some n, mode := target } ∧
      t.store = s.store ∧ t.points = s.points ∧
      (target = s.cm.mode → t = { s with
        cm := t.cm, wa := { s.wa with processing := none } }) ∧
      (target ≠ s.cm.mode →
        ⟨.contract s.cm.tables.contract target s.cm.locked, s.cm.generation⟩ ∈ t.rsc.configQueue) ∧
      (target ≠ s.cm.mode → target = .metering → ∀ a : AccountId, t.ia.accounts[a] =
        { s.ia.accounts[a] with
          interval := some (.fresh s.tk.valid s.tk.seconds (s.ia.accounts[a]).gapMark)
          gapMark := false }) ∧
      (target ≠ s.cm.mode → target = .commissioning →
        closesMade .mode (if s.tk.valid then s.tk.seconds else 0) none s t)

/-- ERASE: every account NONE with registers, marks, residues and gap mark cleared and a write of it queued;
the log empty from the next record sequence on, which stands; the mode COMMISSIONING and the lock clear;
tables and generation as they were (R45, R150, R164, R178). Where the spec leaves it open this is the
model's choice: assumption 40. -/
def Obligations.EraseEntryApplies : Prop :=
  ∀ (s : State) (p : Processing) (n : Nat), s.powered = true →
    s.wa.processing = some p → p.results = none → s.rsc.halted = false → s.ia.waiting = [] →
    s.cm.queue = [⟨n, .erase⟩] → s.walkVerdict .erase = .applies →
    ∃ t, exec .windowBoundary s = .next t ∧
      t.cm = { s.cm with
        queue := [], stop := none, walking := false, lastApplied := some n, mode := .commissioning
        locked := false } ∧
      (∀ a : AccountId, (t.ia.accounts[a]).interval = none ∧
        (t.ia.accounts[a]).regs = Vector.replicate 25 Register.zero ∧
        (t.ia.accounts[a]).residues = Vector.replicate 24 0 ∧
        (t.ia.accounts[a]).gapMark = false ∧ (t.ia.accounts[a]).inFlight = true ∧
        ⟨a, Vector.replicate 25 Register.zero, Vector.replicate 24 0⟩ ∈ t.rsc.blockQueue) ∧
      t.ia.nextSeq = s.ia.nextSeq ∧ t.rsc.oldest = s.ia.nextSeq ∧
      t.rsc.newest = s.ia.nextSeq - 1 ∧ t.rsc.map.logFloor = s.ia.nextSeq ∧
      t.rsc.map.badSlots = s.rsc.map.badSlots ∧ t.rsc.map.spares = s.rsc.map.spares ∧
      t.rsc.saveQueue = some .running ∧ t.cu.sources[12] = false ∧ t.store = s.store ∧
      t.points = s.points ∧
      ⟨.contract s.cm.tables.contract .commissioning false, s.cm.generation⟩ ∈ t.rsc.configQueue

/-! ## The retained store -/

/-- With no job running the arbiter starts the save, else a preempted job, else the oldest job of the lowest
class that holds one; a record write chooses its slot and a full log loses its oldest record; with nothing
queued nothing starts. A patrol read takes the first unit of the round, from the position on, that has no job,
and where every one has one the round ends (R143). Between the two reads of a LOG.READ the save preempts, in a
state in which no job stands preempted beside a running read, as every step keeps it (CapacitiesAreKept) (R132,
R134, R137, R141, R142). Where the spec leaves it open this is the model's choice: assumptions 24, 26, 45, 56
and 57. -/
def Obligations.StoreJobStarts : Prop :=
  ∀ s : State, s.powered = true → s.rsc.halted = false →
    let r := s.rsc
    let starts (r : Controller) : Prop := exec .storeJobStart s = .next { s with rsc := r }
    (∀ q q' n j, s.jobsOk → r.running = some ⟨.read (.read q (some q')) false, n⟩ →
      r.saveQueue = some j →
      starts { r with
        saveQueue := none, running := some ⟨.save (s.saveContent j), 1⟩
        preempted := some ⟨.read (.read q (some q')) true, n⟩ }) ∧
    (r.running = none →
      (∀ j, r.saveQueue = some j →
        starts { r with saveQueue := none, running := some ⟨.save (s.saveContent j), 1⟩ }) ∧
      (r.saveQueue = none →
        (∀ job n, r.preempted = some ⟨job, n⟩ →
          (job.isWrite = true → starts { r with
            preempted := none, running := some ⟨job, n + 1⟩
            counters := { r.counters with
              retries := if n = 0 then r.counters.retries else countUp r.counters.retries } }) ∧
          (job.isWrite = false → starts { r with
            preempted := none, running := some ⟨job, n⟩ })) ∧
        (r.preempted = none →
          (∀ c rest, r.blockQueue = c :: rest → starts { r with
            blockQueue := rest, running := some ⟨.block c (r.map.blockOf c.account), 1⟩ }) ∧
          (r.blockQueue = [] →
            (∀ q rest, r.recordQueue = q :: rest → starts { r with
              recordQueue := rest, running := some ⟨.record q r.nextSlot, 1⟩
              oldest := if 4096 - r.map.badSlots.length ≤ r.newest + 1 - r.oldest then r.oldest + 1
                else r.oldest }) ∧
            (r.recordQueue = [] →
              (∀ c g rest, r.configQueue = ⟨c, g⟩ :: rest →
                (c.table ≠ .patrol → starts { r with
                  configQueue := rest, running := some ⟨.config c g, 1⟩ }) ∧
                (∀ period m, c = .patrol period m →
                  let map := { r.map with nextSeq := s.ia.nextSeq }
                  starts { r with
                    configQueue := rest, map := map
                    running := some ⟨.config (.patrol period map) g, 1⟩ })) ∧
              (r.configQueue = [] →
                (∀ j, r.readQueue = some j → starts { r with
                  readQueue := none, running := some ⟨.read (r.judge j) false, 1⟩ }) ∧
                (r.readQueue = none → r.patrolQueued = false → starts r) ∧
                (r.readQueue = none → r.patrolQueued = true →
                  (∀ skipped u later, r.roundFrom r.patrolPos = skipped ++ u :: later →
                    (∀ x ∈ skipped, r.busy x = true) → r.busy u = false → starts { r with
                      patrolQueued := false, patrolPos := u, running := some ⟨.patrol u false, 1⟩ }) ∧
                  ((∀ x ∈ r.roundFrom r.patrolPos, r.busy x = true) → starts { r with
                    patrolQueued := false, patrolPos := .account 0 }))))))))

/-- A verified write stands in its unit and completes its job. A record is the newest of the log from then on,
and a close in flight ends with the last record and the register block of its account; a save is reported
VERIFIED and takes SAVING to SAVED (R42, R134, R135, R171, R172). The last verified write of those that the load
queued from a SAVED block has the RUNNING write queued that consumes it, unless a save was called since the
start (R147). Where the spec leaves it open this is the model's choice: assumptions 5, 22, 25, 69 and 70. -/
def Obligations.WriteVerifies : Prop :=
  ∀ (s : State) (job : Job) (n : Nat), s.powered = true → s.rsc.running = some ⟨job, n⟩ →
    job.isWrite = true →
    let consumed (f : Consumption → Consumption) (t : State) : Prop :=
      (s.rsc.consumption = none →
        t.rsc.consumption = none ∧ t.rsc.saveQueue = s.rsc.saveQueue) ∧
      ∀ k, s.rsc.consumption = some k →
        ((f k).blocks = [] ∧ (f k).records = [] → t.rsc.consumption = none ∧
          t.rsc.saveQueue = if s.sm.saveCalled then s.rsc.saveQueue else some .running) ∧
        (¬ ((f k).blocks = [] ∧ (f k).records = []) →
          t.rsc.consumption = some (f k) ∧ t.rsc.saveQueue = s.rsc.saveQueue)
    ∃ t, exec (.storeWriteAttemptDone .verified) s = .next t ∧ t.store = s.store.put job ∧
      t.rsc.running = none ∧ t.rsc.counters = s.rsc.counters ∧ t.rsc.map = s.rsc.map ∧
      t.points = s.points ∧ t.cm = s.cm ∧ t.tk = s.tk ∧
      (s.sm.deassertHeld = false →
        t.mlc = s.mlc ∧ ∀ a : AccountId, t.energies a = s.energies a) ∧
      (∀ c g, job = .config c g → t = { s with store := t.store, rsc := { s.rsc with running := none } }) ∧
      (job = .save .running ∨ job = .save .clean →
        t = { s with store := t.store, rsc := { s.rsc with running := none } }) ∧
      (∀ q slot, job = .record q slot →
        consumed (fun k => { k with records := k.records.filter (· != q.seq) }) t ∧
        t.rsc.newest = q.seq ∧ t.rsc.newestSlot = slot ∧
        t.rsc.oldest = (if s.rsc.newest < s.rsc.oldest then q.seq else s.rsc.oldest) ∧
        (t.ia.accounts[q.account]).inFlight =
          ((s.ia.accounts[q.account]).inFlight && ((s.ia.accounts[q.account]).blockOwed ||
            t.rsc.records.any (·.account == q.account)))) ∧
      (∀ c loc, job = .block c loc →
        consumed (fun k => { k with blocks := k.blocks.filter (· != c.account) }) t ∧
        (t.ia.accounts[c.account]).inFlight =
        ((s.ia.accounts[c.account]).inFlight &&
          (((s.ia.accounts[c.account]).blockOwed && s.rsc.blockQueue.any (·.account == c.account)) ||
            t.rsc.records.any (·.account == c.account)))) ∧
      (∀ saved, job = .save (.saved saved) → t.rsc.saveFailed = false ∧
        t.sm.lastSave = some (true, saved.time) ∧
        (s.sm.state = .saving → s.sm.deassertHeld = false → s.rsc.saveQueue ≠ some .save →
          t.sm.state = .saved) ∧
        (s.sm.state = .saving → s.sm.deassertHeld = true → s.rsc.saveQueue ≠ some .save →
          t.sm.state = .normal))

/-- A mismatch below the 20th attempt starts the next one, counted as a retry, unless a queued save preempts the
job, which keeps its count. After the 20th: a record's slot joins the bad-slot list and the record goes to the
next slot; an account moves to the lowest FREE spare; a save fails, is remembered and leaves the save block
unusable; a configuration block, a 65th bad slot, and an account without a FREE spare take the part to HALTED
(R134, R135, R138 to R140, R148). Where the spec leaves it open this is the model's choice: assumptions 5, 25,
26, 46 and 54. -/
def Obligations.WriteMismatches : Prop :=
  ∀ (s : State) (job : Job) (n : Nat) (left : UnitLeft), s.powered = true →
    s.rsc.running = some ⟨job, n⟩ → job.isWrite = true →
    let done := exec (.storeWriteAttemptDone (.mismatch left)) s
    let store := s.store.leave left job
    (1 ≤ n → n < 20 →
      (s.rsc.saveQueue = none ∨ job.class = 1 → done = .next { s with
        store := store
        rsc := { s.rsc with
          running := some ⟨job, n + 1⟩
          counters := { s.rsc.counters with retries := countUp s.rsc.counters.retries } } }) ∧
      (s.rsc.saveQueue ≠ none → job.class ≠ 1 → done = .next { s with
        store := store, rsc := { s.rsc with running := none, preempted := some ⟨job, n⟩ } })) ∧
    (n = 20 → s.rsc.halted = false → s.rsc.saveQueue = none →
      let halts : Prop := ∃ t, done = .next t ∧ t.rsc.halted = true ∧ t.rsc.running = none ∧
        t.wa.processing = none ∧ t.cu.sources[0] = true ∧ t.store = store ∧ t.ia = s.ia
      let goesOn (t : State) : Prop := t.rsc.halted = false ∧ t.store = store ∧ t.ia = s.ia ∧
        ∃ j ∈ t.rsc.configQueue, j.content.table = .patrol
      (∀ c g, job = .config c g → halts) ∧
      (∀ c loc, job = .block c loc → (∀ i : SpareId, s.rsc.map.spares[i] ≠ .free) → halts) ∧
      (∀ c loc i, job = .block c loc → s.rsc.map.spares[i] = SpareState.free →
        (∀ j : SpareId, j < i → s.rsc.map.spares[j] ≠ .free) →
        ∃ t, done = .next t ∧ goesOn t ∧ t.rsc.running = some ⟨.block c (.spare i), 1⟩ ∧
          t.rsc.map.spares[i] = .assigned c.account ∧
          ∀ j : SpareId, j ≠ i → t.rsc.map.spares[j] =
            if s.rsc.map.spares[j] = .assigned c.account then .retired else s.rsc.map.spares[j]) ∧
      (∀ q slot, job = .record q slot → 64 ≤ s.rsc.map.badSlots.length → halts) ∧
      (∀ q slot, job = .record q slot → s.rsc.map.badSlots.length < 64 →
        ∃ t, done = .next t ∧ goesOn t ∧ t.rsc.map.badSlots = s.rsc.map.badSlots ++ [slot] ∧
          t.rsc.running = some ⟨.record q (t.rsc.map.goodFrom (slot + 1)), 1⟩) ∧
      (∀ b, job = .save b → ∃ t, done = .next t ∧ t.rsc.saveFailed = true ∧
        t.store = { store with save := none } ∧
        t.rsc.running = none ∧ t.rsc.counters =
          { s.rsc.counters with saveFailures := countUp s.rsc.counters.saveFailures }))

/-- A patrol step falls due after P ms, half of it under STORE-ALERT, and queues one read. A read that agrees
passes and the position moves on; a first mismatch has the unit read again, before which a queued save preempts
the patrol; agreement then is counted as transient; a second mismatch is persistent: an account's block image or
the configuration table is queued again with a STORE-REPAIR pulse, a record is counted as an error (R134, R143,
R144, R149). STORE-ALERT is set at the third persistent mismatch within 1,024 steps and cleared when 1,024 have
passed with none, and its source follows it (R145). Where the spec leaves it open this is the model's choice:
assumptions 3, 5, 26, 55, 61 and 62. -/
def Obligations.PatrolChecks : Prop :=
  ∀ s : State, s.powered = true →
    (s.rsc.halted = false → s.mlc.resetTaken = false → ∃ t, exec .patrolStepDue s = .next t ∧
      t.rsc.patrolQueued = true ∧
      t.rsc.patrolTimer =
        (if s.rsc.alert then s.cm.tables.patrol / 2 else s.cm.tables.patrol) ∧
      t.timeBase = s.timeBase + s.rsc.patrolTimer ∧
      t = { s.advance s.rsc.patrolTimer with rsc := t.rsc } ∧
      t.rsc = { s.rsc with patrolQueued := true, patrolTimer := t.rsc.patrolTimer }) ∧
    ∀ (u : PatrolPos) (second agrees : Bool) (n : Nat), s.rsc.running = some ⟨.patrol u second, n⟩ →
      let earlier := s.rsc.history.map (· + 1)
      let lasting := second && !(agrees && s.unitIntact u)
      let moved (c : StoreCounters) (t : State) : Prop :=
        t.rsc = { s.rsc with
          running := none, patrolPos := s.rsc.positionAfter u
          counters := { c with patrolSteps := countUp s.rsc.counters.patrolSteps }
          history := if lasting then (0 :: earlier).take 2 else earlier
          alert := t.rsc.alert, blockQueue := t.rsc.blockQueue, configQueue := t.rsc.configQueue } ∧
        (t.rsc.alert = true ↔
          if lasting then s.rsc.alert = true ∨ 2 ≤ (earlier.filter (· ≤ 1023)).length
          else s.rsc.alert = true ∧ ∃ d ∈ earlier, d < 1024) ∧
        t.cu.sources[10] = t.rsc.alert ∧
        t = { s with store := t.store, rsc := t.rsc, cu := t.cu }
      (agrees = true → s.unitIntact u = true → ∃ t, exec (.patrolReadDone agrees) s = .next t ∧
        t.store = s.store ∧ t.rsc.blockQueue = s.rsc.blockQueue ∧
        t.rsc.configQueue = s.rsc.configQueue ∧
        moved (if second then
            { s.rsc.counters with transients := countUp s.rsc.counters.transients }
          else s.rsc.counters) t) ∧
      (agrees = false ∨ s.unitIntact u = false →
        (second = false → s.rsc.saveQueue = none → exec (.patrolReadDone agrees) s = .next { s with
          rsc := { s.rsc with running := some ⟨.patrol u true, n⟩ } }) ∧
        (second = false → s.rsc.saveQueue ≠ none → exec (.patrolReadDone agrees) s = .next { s with
          rsc := { s.rsc with running := none, preempted := some ⟨.patrol u true, n⟩ } }) ∧
        (second = true → ∃ t, exec (.patrolReadDone agrees) s = .next t ∧
          (∀ a, u = .account a →
            t.store = s.store.setBlock (s.rsc.map.blockOf a) none ∧
            t.rsc.blockQueue = joinBlock s.rsc.images[a] s.rsc.blockQueue ∧
            t.rsc.configQueue = s.rsc.configQueue ∧ t.cu.flags[11] = true ∧
            moved { s.rsc.counters with repairs := countUp s.rsc.counters.repairs } t) ∧
          (∀ x, u = .config x →
            t.store = { s.store with config := s.store.config.set x.idx none } ∧
            t.rsc.blockQueue = s.rsc.blockQueue ∧
            t.rsc.configQueue =
              joinConfig ⟨s.contentOf x, s.cm.generation⟩ s.rsc.configQueue ∧
            t.cu.flags[11] = true ∧
            moved { s.rsc.counters with repairs := countUp s.rsc.counters.repairs } t) ∧
          (∀ q, u = .record q →
            (s.store.findRecord s.rsc.map.badSlots q = none → t.store = s.store) ∧
            (∀ slot r, s.store.findRecord s.rsc.map.badSlots q = some (slot, r) →
              t.store = { s.store with slots := eraseSlot slot s.store.slots }) ∧
            t.rsc.blockQueue = s.rsc.blockQueue ∧ t.rsc.configQueue = s.rsc.configQueue ∧
            moved { s.rsc.counters with
              recordErrors := countUp s.rsc.counters.recordErrors } t)))
end

