-- ==== Sys2Proof/Laws/State.lean ====
section
/-! SUPPORT. The named updates of the state, field by field: what each writes, and that it leaves every
other field alone. -/

namespace Sys2Proof.Machine

variable (s : State)

@[simp] theorem State.updLink_powered (l : LinkId) (f : Link → Link) : (s.updLink l f).powered = s.powered := rfl
@[simp] theorem State.updLink_pfw (l : LinkId) (f : Link → Link) : (s.updLink l f).pfw = s.pfw := rfl
@[simp] theorem State.updLink_straps (l : LinkId) (f : Link → Link) : (s.updLink l f).straps = s.straps := rfl
@[simp] theorem State.updLink_tk (l : LinkId) (f : Link → Link) : (s.updLink l f).tk = s.tk := rfl
@[simp] theorem State.updLink_timeBase (l : LinkId) (f : Link → Link) : (s.updLink l f).timeBase = s.timeBase := rfl
@[simp] theorem State.updLink_cu (l : LinkId) (f : Link → Link) : (s.updLink l f).cu = s.cu := rfl
@[simp] theorem State.updLink_links (l : LinkId) (f : Link → Link) : (s.updLink l f).links = s.links.set l (f s.links[l]) := rfl
@[simp] theorem State.updLink_wa (l : LinkId) (f : Link → Link) : (s.updLink l f).wa = s.wa := rfl
@[simp] theorem State.updLink_points (l : LinkId) (f : Link → Link) : (s.updLink l f).points = s.points := rfl
@[simp] theorem State.updLink_tr (l : LinkId) (f : Link → Link) : (s.updLink l f).tr = s.tr := rfl
@[simp] theorem State.updLink_pau (l : LinkId) (f : Link → Link) : (s.updLink l f).pau = s.pau := rfl
@[simp] theorem State.updLink_ia (l : LinkId) (f : Link → Link) : (s.updLink l f).ia = s.ia := rfl
@[simp] theorem State.updLink_store (l : LinkId) (f : Link → Link) : (s.updLink l f).store = s.store := rfl
@[simp] theorem State.updLink_rsc (l : LinkId) (f : Link → Link) : (s.updLink l f).rsc = s.rsc := rfl
@[simp] theorem State.updLink_cm (l : LinkId) (f : Link → Link) : (s.updLink l f).cm = s.cm := rfl
@[simp] theorem State.updLink_sm (l : LinkId) (f : Link → Link) : (s.updLink l f).sm = s.sm := rfl
@[simp] theorem State.updLink_mlc (l : LinkId) (f : Link → Link) : (s.updLink l f).mlc = s.mlc := rfl
@[simp] theorem State.updLink_pending (l : LinkId) (f : Link → Link) : (s.updLink l f).pending = s.pending := rfl

@[simp] theorem State.updWa_powered (f : Assembler → Assembler) : (s.updWa f).powered = s.powered := rfl
@[simp] theorem State.updWa_pfw (f : Assembler → Assembler) : (s.updWa f).pfw = s.pfw := rfl
@[simp] theorem State.updWa_straps (f : Assembler → Assembler) : (s.updWa f).straps = s.straps := rfl
@[simp] theorem State.updWa_tk (f : Assembler → Assembler) : (s.updWa f).tk = s.tk := rfl
@[simp] theorem State.updWa_timeBase (f : Assembler → Assembler) : (s.updWa f).timeBase = s.timeBase := rfl
@[simp] theorem State.updWa_cu (f : Assembler → Assembler) : (s.updWa f).cu = s.cu := rfl
@[simp] theorem State.updWa_links (f : Assembler → Assembler) : (s.updWa f).links = s.links := rfl
@[simp] theorem State.updWa_wa (f : Assembler → Assembler) : (s.updWa f).wa = f s.wa := rfl
@[simp] theorem State.updWa_points (f : Assembler → Assembler) : (s.updWa f).points = s.points := rfl
@[simp] theorem State.updWa_tr (f : Assembler → Assembler) : (s.updWa f).tr = s.tr := rfl
@[simp] theorem State.updWa_pau (f : Assembler → Assembler) : (s.updWa f).pau = s.pau := rfl
@[simp] theorem State.updWa_ia (f : Assembler → Assembler) : (s.updWa f).ia = s.ia := rfl
@[simp] theorem State.updWa_store (f : Assembler → Assembler) : (s.updWa f).store = s.store := rfl
@[simp] theorem State.updWa_rsc (f : Assembler → Assembler) : (s.updWa f).rsc = s.rsc := rfl
@[simp] theorem State.updWa_cm (f : Assembler → Assembler) : (s.updWa f).cm = s.cm := rfl
@[simp] theorem State.updWa_sm (f : Assembler → Assembler) : (s.updWa f).sm = s.sm := rfl
@[simp] theorem State.updWa_mlc (f : Assembler → Assembler) : (s.updWa f).mlc = s.mlc := rfl
@[simp] theorem State.updWa_pending (f : Assembler → Assembler) : (s.updWa f).pending = s.pending := rfl

@[simp] theorem State.updIa_powered (f : Accountant → Accountant) : (s.updIa f).powered = s.powered := rfl
@[simp] theorem State.updIa_pfw (f : Accountant → Accountant) : (s.updIa f).pfw = s.pfw := rfl
@[simp] theorem State.updIa_straps (f : Accountant → Accountant) : (s.updIa f).straps = s.straps := rfl
@[simp] theorem State.updIa_tk (f : Accountant → Accountant) : (s.updIa f).tk = s.tk := rfl
@[simp] theorem State.updIa_timeBase (f : Accountant → Accountant) : (s.updIa f).timeBase = s.timeBase := rfl
@[simp] theorem State.updIa_cu (f : Accountant → Accountant) : (s.updIa f).cu = s.cu := rfl
@[simp] theorem State.updIa_links (f : Accountant → Accountant) : (s.updIa f).links = s.links := rfl
@[simp] theorem State.updIa_wa (f : Accountant → Accountant) : (s.updIa f).wa = s.wa := rfl
@[simp] theorem State.updIa_points (f : Accountant → Accountant) : (s.updIa f).points = s.points := rfl
@[simp] theorem State.updIa_tr (f : Accountant → Accountant) : (s.updIa f).tr = s.tr := rfl
@[simp] theorem State.updIa_pau (f : Accountant → Accountant) : (s.updIa f).pau = s.pau := rfl
@[simp] theorem State.updIa_ia (f : Accountant → Accountant) : (s.updIa f).ia = f s.ia := rfl
@[simp] theorem State.updIa_store (f : Accountant → Accountant) : (s.updIa f).store = s.store := rfl
@[simp] theorem State.updIa_rsc (f : Accountant → Accountant) : (s.updIa f).rsc = s.rsc := rfl
@[simp] theorem State.updIa_cm (f : Accountant → Accountant) : (s.updIa f).cm = s.cm := rfl
@[simp] theorem State.updIa_sm (f : Accountant → Accountant) : (s.updIa f).sm = s.sm := rfl
@[simp] theorem State.updIa_mlc (f : Accountant → Accountant) : (s.updIa f).mlc = s.mlc := rfl
@[simp] theorem State.updIa_pending (f : Accountant → Accountant) : (s.updIa f).pending = s.pending := rfl

@[simp] theorem State.updStore_powered (f : Store → Store) : (s.updStore f).powered = s.powered := rfl
@[simp] theorem State.updStore_pfw (f : Store → Store) : (s.updStore f).pfw = s.pfw := rfl
@[simp] theorem State.updStore_straps (f : Store → Store) : (s.updStore f).straps = s.straps := rfl
@[simp] theorem State.updStore_tk (f : Store → Store) : (s.updStore f).tk = s.tk := rfl
@[simp] theorem State.updStore_timeBase (f : Store → Store) : (s.updStore f).timeBase = s.timeBase := rfl
@[simp] theorem State.updStore_cu (f : Store → Store) : (s.updStore f).cu = s.cu := rfl
@[simp] theorem State.updStore_links (f : Store → Store) : (s.updStore f).links = s.links := rfl
@[simp] theorem State.updStore_wa (f : Store → Store) : (s.updStore f).wa = s.wa := rfl
@[simp] theorem State.updStore_points (f : Store → Store) : (s.updStore f).points = s.points := rfl
@[simp] theorem State.updStore_tr (f : Store → Store) : (s.updStore f).tr = s.tr := rfl
@[simp] theorem State.updStore_pau (f : Store → Store) : (s.updStore f).pau = s.pau := rfl
@[simp] theorem State.updStore_ia (f : Store → Store) : (s.updStore f).ia = s.ia := rfl
@[simp] theorem State.updStore_store (f : Store → Store) : (s.updStore f).store = f s.store := rfl
@[simp] theorem State.updStore_rsc (f : Store → Store) : (s.updStore f).rsc = s.rsc := rfl
@[simp] theorem State.updStore_cm (f : Store → Store) : (s.updStore f).cm = s.cm := rfl
@[simp] theorem State.updStore_sm (f : Store → Store) : (s.updStore f).sm = s.sm := rfl
@[simp] theorem State.updStore_mlc (f : Store → Store) : (s.updStore f).mlc = s.mlc := rfl
@[simp] theorem State.updStore_pending (f : Store → Store) : (s.updStore f).pending = s.pending := rfl

@[simp] theorem State.updRsc_powered (f : Controller → Controller) : (s.updRsc f).powered = s.powered := rfl
@[simp] theorem State.updRsc_pfw (f : Controller → Controller) : (s.updRsc f).pfw = s.pfw := rfl
@[simp] theorem State.updRsc_straps (f : Controller → Controller) : (s.updRsc f).straps = s.straps := rfl
@[simp] theorem State.updRsc_tk (f : Controller → Controller) : (s.updRsc f).tk = s.tk := rfl
@[simp] theorem State.updRsc_timeBase (f : Controller → Controller) : (s.updRsc f).timeBase = s.timeBase := rfl
@[simp] theorem State.updRsc_cu (f : Controller → Controller) : (s.updRsc f).cu = s.cu := rfl
@[simp] theorem State.updRsc_links (f : Controller → Controller) : (s.updRsc f).links = s.links := rfl
@[simp] theorem State.updRsc_wa (f : Controller → Controller) : (s.updRsc f).wa = s.wa := rfl
@[simp] theorem State.updRsc_points (f : Controller → Controller) : (s.updRsc f).points = s.points := rfl
@[simp] theorem State.updRsc_tr (f : Controller → Controller) : (s.updRsc f).tr = s.tr := rfl
@[simp] theorem State.updRsc_pau (f : Controller → Controller) : (s.updRsc f).pau = s.pau := rfl
@[simp] theorem State.updRsc_ia (f : Controller → Controller) : (s.updRsc f).ia = s.ia := rfl
@[simp] theorem State.updRsc_store (f : Controller → Controller) : (s.updRsc f).store = s.store := rfl
@[simp] theorem State.updRsc_rsc (f : Controller → Controller) : (s.updRsc f).rsc = f s.rsc := rfl
@[simp] theorem State.updRsc_cm (f : Controller → Controller) : (s.updRsc f).cm = s.cm := rfl
@[simp] theorem State.updRsc_sm (f : Controller → Controller) : (s.updRsc f).sm = s.sm := rfl
@[simp] theorem State.updRsc_mlc (f : Controller → Controller) : (s.updRsc f).mlc = s.mlc := rfl
@[simp] theorem State.updRsc_pending (f : Controller → Controller) : (s.updRsc f).pending = s.pending := rfl

@[simp] theorem State.updCm_powered (f : Manager → Manager) : (s.updCm f).powered = s.powered := rfl
@[simp] theorem State.updCm_pfw (f : Manager → Manager) : (s.updCm f).pfw = s.pfw := rfl
@[simp] theorem State.updCm_straps (f : Manager → Manager) : (s.updCm f).straps = s.straps := rfl
@[simp] theorem State.updCm_tk (f : Manager → Manager) : (s.updCm f).tk = s.tk := rfl
@[simp] theorem State.updCm_timeBase (f : Manager → Manager) : (s.updCm f).timeBase = s.timeBase := rfl
@[simp] theorem State.updCm_cu (f : Manager → Manager) : (s.updCm f).cu = s.cu := rfl
@[simp] theorem State.updCm_links (f : Manager → Manager) : (s.updCm f).links = s.links := rfl
@[simp] theorem State.updCm_wa (f : Manager → Manager) : (s.updCm f).wa = s.wa := rfl
@[simp] theorem State.updCm_points (f : Manager → Manager) : (s.updCm f).points = s.points := rfl
@[simp] theorem State.updCm_tr (f : Manager → Manager) : (s.updCm f).tr = s.tr := rfl
@[simp] theorem State.updCm_pau (f : Manager → Manager) : (s.updCm f).pau = s.pau := rfl
@[simp] theorem State.updCm_ia (f : Manager → Manager) : (s.updCm f).ia = s.ia := rfl
@[simp] theorem State.updCm_store (f : Manager → Manager) : (s.updCm f).store = s.store := rfl
@[simp] theorem State.updCm_rsc (f : Manager → Manager) : (s.updCm f).rsc = s.rsc := rfl
@[simp] theorem State.updCm_cm (f : Manager → Manager) : (s.updCm f).cm = f s.cm := rfl
@[simp] theorem State.updCm_sm (f : Manager → Manager) : (s.updCm f).sm = s.sm := rfl
@[simp] theorem State.updCm_mlc (f : Manager → Manager) : (s.updCm f).mlc = s.mlc := rfl
@[simp] theorem State.updCm_pending (f : Manager → Manager) : (s.updCm f).pending = s.pending := rfl

@[simp] theorem State.updSm_powered (f : SupplyMonitor → SupplyMonitor) : (s.updSm f).powered = s.powered := rfl
@[simp] theorem State.updSm_pfw (f : SupplyMonitor → SupplyMonitor) : (s.updSm f).pfw = s.pfw := rfl
@[simp] theorem State.updSm_straps (f : SupplyMonitor → SupplyMonitor) : (s.updSm f).straps = s.straps := rfl
@[simp] theorem State.updSm_tk (f : SupplyMonitor → SupplyMonitor) : (s.updSm f).tk = s.tk := rfl
@[simp] theorem State.updSm_timeBase (f : SupplyMonitor → SupplyMonitor) : (s.updSm f).timeBase = s.timeBase := rfl
@[simp] theorem State.updSm_cu (f : SupplyMonitor → SupplyMonitor) : (s.updSm f).cu = s.cu := rfl
@[simp] theorem State.updSm_links (f : SupplyMonitor → SupplyMonitor) : (s.updSm f).links = s.links := rfl
@[simp] theorem State.updSm_wa (f : SupplyMonitor → SupplyMonitor) : (s.updSm f).wa = s.wa := rfl
@[simp] theorem State.updSm_points (f : SupplyMonitor → SupplyMonitor) : (s.updSm f).points = s.points := rfl
@[simp] theorem State.updSm_tr (f : SupplyMonitor → SupplyMonitor) : (s.updSm f).tr = s.tr := rfl
@[simp] theorem State.updSm_pau (f : SupplyMonitor → SupplyMonitor) : (s.updSm f).pau = s.pau := rfl
@[simp] theorem State.updSm_ia (f : SupplyMonitor → SupplyMonitor) : (s.updSm f).ia = s.ia := rfl
@[simp] theorem State.updSm_store (f : SupplyMonitor → SupplyMonitor) : (s.updSm f).store = s.store := rfl
@[simp] theorem State.updSm_rsc (f : SupplyMonitor → SupplyMonitor) : (s.updSm f).rsc = s.rsc := rfl
@[simp] theorem State.updSm_cm (f : SupplyMonitor → SupplyMonitor) : (s.updSm f).cm = s.cm := rfl
@[simp] theorem State.updSm_sm (f : SupplyMonitor → SupplyMonitor) : (s.updSm f).sm = f s.sm := rfl
@[simp] theorem State.updSm_mlc (f : SupplyMonitor → SupplyMonitor) : (s.updSm f).mlc = s.mlc := rfl
@[simp] theorem State.updSm_pending (f : SupplyMonitor → SupplyMonitor) : (s.updSm f).pending = s.pending := rfl

@[simp] theorem State.updMlc_powered (f : MsgController → MsgController) : (s.updMlc f).powered = s.powered := rfl
@[simp] theorem State.updMlc_pfw (f : MsgController → MsgController) : (s.updMlc f).pfw = s.pfw := rfl
@[simp] theorem State.updMlc_straps (f : MsgController → MsgController) : (s.updMlc f).straps = s.straps := rfl
@[simp] theorem State.updMlc_tk (f : MsgController → MsgController) : (s.updMlc f).tk = s.tk := rfl
@[simp] theorem State.updMlc_timeBase (f : MsgController → MsgController) : (s.updMlc f).timeBase = s.timeBase := rfl
@[simp] theorem State.updMlc_cu (f : MsgController → MsgController) : (s.updMlc f).cu = s.cu := rfl
@[simp] theorem State.updMlc_links (f : MsgController → MsgController) : (s.updMlc f).links = s.links := rfl
@[simp] theorem State.updMlc_wa (f : MsgController → MsgController) : (s.updMlc f).wa = s.wa := rfl
@[simp] theorem State.updMlc_points (f : MsgController → MsgController) : (s.updMlc f).points = s.points := rfl
@[simp] theorem State.updMlc_tr (f : MsgController → MsgController) : (s.updMlc f).tr = s.tr := rfl
@[simp] theorem State.updMlc_pau (f : MsgController → MsgController) : (s.updMlc f).pau = s.pau := rfl
@[simp] theorem State.updMlc_ia (f : MsgController → MsgController) : (s.updMlc f).ia = s.ia := rfl
@[simp] theorem State.updMlc_store (f : MsgController → MsgController) : (s.updMlc f).store = s.store := rfl
@[simp] theorem State.updMlc_rsc (f : MsgController → MsgController) : (s.updMlc f).rsc = s.rsc := rfl
@[simp] theorem State.updMlc_cm (f : MsgController → MsgController) : (s.updMlc f).cm = s.cm := rfl
@[simp] theorem State.updMlc_sm (f : MsgController → MsgController) : (s.updMlc f).sm = s.sm := rfl
@[simp] theorem State.updMlc_mlc (f : MsgController → MsgController) : (s.updMlc f).mlc = f s.mlc := rfl
@[simp] theorem State.updMlc_pending (f : MsgController → MsgController) : (s.updMlc f).pending = s.pending := rfl

@[simp] theorem State.updPoint_powered (p : PointId) (f : Point → Point) : (s.updPoint p f).powered = s.powered := rfl
@[simp] theorem State.updPoint_pfw (p : PointId) (f : Point → Point) : (s.updPoint p f).pfw = s.pfw := rfl
@[simp] theorem State.updPoint_straps (p : PointId) (f : Point → Point) : (s.updPoint p f).straps = s.straps := rfl
@[simp] theorem State.updPoint_tk (p : PointId) (f : Point → Point) : (s.updPoint p f).tk = s.tk := rfl
@[simp] theorem State.updPoint_timeBase (p : PointId) (f : Point → Point) : (s.updPoint p f).timeBase = s.timeBase := rfl
@[simp] theorem State.updPoint_cu (p : PointId) (f : Point → Point) : (s.updPoint p f).cu = s.cu := rfl
@[simp] theorem State.updPoint_links (p : PointId) (f : Point → Point) : (s.updPoint p f).links = s.links := rfl
@[simp] theorem State.updPoint_wa (p : PointId) (f : Point → Point) : (s.updPoint p f).wa = s.wa := rfl
@[simp] theorem State.updPoint_points (p : PointId) (f : Point → Point) : (s.updPoint p f).points = s.points.set p (f s.points[p]) := rfl
@[simp] theorem State.updPoint_tr (p : PointId) (f : Point → Point) : (s.updPoint p f).tr = s.tr := rfl
@[simp] theorem State.updPoint_pau (p : PointId) (f : Point → Point) : (s.updPoint p f).pau = s.pau := rfl
@[simp] theorem State.updPoint_ia (p : PointId) (f : Point → Point) : (s.updPoint p f).ia = s.ia := rfl
@[simp] theorem State.updPoint_store (p : PointId) (f : Point → Point) : (s.updPoint p f).store = s.store := rfl
@[simp] theorem State.updPoint_rsc (p : PointId) (f : Point → Point) : (s.updPoint p f).rsc = s.rsc := rfl
@[simp] theorem State.updPoint_cm (p : PointId) (f : Point → Point) : (s.updPoint p f).cm = s.cm := rfl
@[simp] theorem State.updPoint_sm (p : PointId) (f : Point → Point) : (s.updPoint p f).sm = s.sm := rfl
@[simp] theorem State.updPoint_mlc (p : PointId) (f : Point → Point) : (s.updPoint p f).mlc = s.mlc := rfl
@[simp] theorem State.updPoint_pending (p : PointId) (f : Point → Point) : (s.updPoint p f).pending = s.pending := rfl

@[simp] theorem State.pulse_powered (c : Condition) : (s.pulse c).powered = s.powered := rfl
@[simp] theorem State.pulse_pfw (c : Condition) : (s.pulse c).pfw = s.pfw := rfl
@[simp] theorem State.pulse_straps (c : Condition) : (s.pulse c).straps = s.straps := rfl
@[simp] theorem State.pulse_tk (c : Condition) : (s.pulse c).tk = s.tk := rfl
@[simp] theorem State.pulse_timeBase (c : Condition) : (s.pulse c).timeBase = s.timeBase := rfl
@[simp] theorem State.pulse_cu (c : Condition) : (s.pulse c).cu = s.cu.rise s.cm.tables.notice.masked c := rfl
@[simp] theorem State.pulse_links (c : Condition) : (s.pulse c).links = s.links := rfl
@[simp] theorem State.pulse_wa (c : Condition) : (s.pulse c).wa = s.wa := rfl
@[simp] theorem State.pulse_points (c : Condition) : (s.pulse c).points = s.points := rfl
@[simp] theorem State.pulse_tr (c : Condition) : (s.pulse c).tr = s.tr := rfl
@[simp] theorem State.pulse_pau (c : Condition) : (s.pulse c).pau = s.pau := rfl
@[simp] theorem State.pulse_ia (c : Condition) : (s.pulse c).ia = s.ia := rfl
@[simp] theorem State.pulse_store (c : Condition) : (s.pulse c).store = s.store := rfl
@[simp] theorem State.pulse_rsc (c : Condition) : (s.pulse c).rsc = s.rsc := rfl
@[simp] theorem State.pulse_cm (c : Condition) : (s.pulse c).cm = s.cm := rfl
@[simp] theorem State.pulse_sm (c : Condition) : (s.pulse c).sm = s.sm := rfl
@[simp] theorem State.pulse_mlc (c : Condition) : (s.pulse c).mlc = s.mlc := rfl
@[simp] theorem State.pulse_pending (c : Condition) : (s.pulse c).pending = s.pending := rfl

@[simp] theorem State.level_powered (c : Condition) (v : Bool) : (s.level c v).powered = s.powered := rfl
@[simp] theorem State.level_pfw (c : Condition) (v : Bool) : (s.level c v).pfw = s.pfw := rfl
@[simp] theorem State.level_straps (c : Condition) (v : Bool) : (s.level c v).straps = s.straps := rfl
@[simp] theorem State.level_tk (c : Condition) (v : Bool) : (s.level c v).tk = s.tk := rfl
@[simp] theorem State.level_timeBase (c : Condition) (v : Bool) : (s.level c v).timeBase = s.timeBase := rfl
@[simp] theorem State.level_cu (c : Condition) (v : Bool) : (s.level c v).cu = s.cu.give s.cm.tables.notice c v := rfl
@[simp] theorem State.level_links (c : Condition) (v : Bool) : (s.level c v).links = s.links := rfl
@[simp] theorem State.level_wa (c : Condition) (v : Bool) : (s.level c v).wa = s.wa := rfl
@[simp] theorem State.level_points (c : Condition) (v : Bool) : (s.level c v).points = s.points := rfl
@[simp] theorem State.level_tr (c : Condition) (v : Bool) : (s.level c v).tr = s.tr := rfl
@[simp] theorem State.level_pau (c : Condition) (v : Bool) : (s.level c v).pau = s.pau := rfl
@[simp] theorem State.level_ia (c : Condition) (v : Bool) : (s.level c v).ia = s.ia := rfl
@[simp] theorem State.level_store (c : Condition) (v : Bool) : (s.level c v).store = s.store := rfl
@[simp] theorem State.level_rsc (c : Condition) (v : Bool) : (s.level c v).rsc = s.rsc := rfl
@[simp] theorem State.level_cm (c : Condition) (v : Bool) : (s.level c v).cm = s.cm := rfl
@[simp] theorem State.level_sm (c : Condition) (v : Bool) : (s.level c v).sm = s.sm := rfl
@[simp] theorem State.level_mlc (c : Condition) (v : Bool) : (s.level c v).mlc = s.mlc := rfl
@[simp] theorem State.level_pending (c : Condition) (v : Bool) : (s.level c v).pending = s.pending := rfl

@[simp] theorem State.transmit_powered (b : List Byte) : (s.transmit b).powered = s.powered := rfl
@[simp] theorem State.transmit_pfw (b : List Byte) : (s.transmit b).pfw = s.pfw := rfl
@[simp] theorem State.transmit_straps (b : List Byte) : (s.transmit b).straps = s.straps := rfl
@[simp] theorem State.transmit_tk (b : List Byte) : (s.transmit b).tk = s.tk := rfl
@[simp] theorem State.transmit_timeBase (b : List Byte) : (s.transmit b).timeBase = s.timeBase := rfl
@[simp] theorem State.transmit_cu (b : List Byte) : (s.transmit b).cu = s.cu := rfl
@[simp] theorem State.transmit_links (b : List Byte) : (s.transmit b).links = s.links := rfl
@[simp] theorem State.transmit_wa (b : List Byte) : (s.transmit b).wa = s.wa := rfl
@[simp] theorem State.transmit_points (b : List Byte) : (s.transmit b).points = s.points := rfl
@[simp] theorem State.transmit_tr (b : List Byte) : (s.transmit b).tr = s.tr := rfl
@[simp] theorem State.transmit_pau (b : List Byte) : (s.transmit b).pau = s.pau := rfl
@[simp] theorem State.transmit_ia (b : List Byte) : (s.transmit b).ia = s.ia := rfl
@[simp] theorem State.transmit_store (b : List Byte) : (s.transmit b).store = s.store := rfl
@[simp] theorem State.transmit_rsc (b : List Byte) : (s.transmit b).rsc = s.rsc := rfl
@[simp] theorem State.transmit_cm (b : List Byte) : (s.transmit b).cm = s.cm := rfl
@[simp] theorem State.transmit_sm (b : List Byte) : (s.transmit b).sm = s.sm := rfl
@[simp] theorem State.transmit_mlc (b : List Byte) : (s.transmit b).mlc = { s.mlc with tx := s.mlc.tx ++ [b] } := rfl
@[simp] theorem State.transmit_pending (b : List Byte) : (s.transmit b).pending = s.pending := rfl

@[simp] theorem State.queueSave_powered (j : SaveJob) : (s.queueSave j).powered = s.powered := rfl
@[simp] theorem State.queueSave_pfw (j : SaveJob) : (s.queueSave j).pfw = s.pfw := rfl
@[simp] theorem State.queueSave_straps (j : SaveJob) : (s.queueSave j).straps = s.straps := rfl
@[simp] theorem State.queueSave_tk (j : SaveJob) : (s.queueSave j).tk = s.tk := rfl
@[simp] theorem State.queueSave_timeBase (j : SaveJob) : (s.queueSave j).timeBase = s.timeBase := rfl
@[simp] theorem State.queueSave_cu (j : SaveJob) : (s.queueSave j).cu = s.cu := rfl
@[simp] theorem State.queueSave_links (j : SaveJob) : (s.queueSave j).links = s.links := rfl
@[simp] theorem State.queueSave_wa (j : SaveJob) : (s.queueSave j).wa = s.wa := rfl
@[simp] theorem State.queueSave_points (j : SaveJob) : (s.queueSave j).points = s.points := rfl
@[simp] theorem State.queueSave_tr (j : SaveJob) : (s.queueSave j).tr = s.tr := rfl
@[simp] theorem State.queueSave_pau (j : SaveJob) : (s.queueSave j).pau = s.pau := rfl
@[simp] theorem State.queueSave_ia (j : SaveJob) : (s.queueSave j).ia = s.ia := rfl
@[simp] theorem State.queueSave_store (j : SaveJob) : (s.queueSave j).store = s.store := rfl
@[simp] theorem State.queueSave_rsc (j : SaveJob) : (s.queueSave j).rsc = { s.rsc with saveQueue := some j } := rfl
@[simp] theorem State.queueSave_cm (j : SaveJob) : (s.queueSave j).cm = s.cm := rfl
@[simp] theorem State.queueSave_sm (j : SaveJob) : (s.queueSave j).sm = s.sm := rfl
@[simp] theorem State.queueSave_mlc (j : SaveJob) : (s.queueSave j).mlc = s.mlc := rfl
@[simp] theorem State.queueSave_pending (j : SaveJob) : (s.queueSave j).pending = s.pending := rfl

@[simp] theorem State.queueBlock_powered (c : RegContent) : (s.queueBlock c).powered = s.powered := rfl
@[simp] theorem State.queueBlock_pfw (c : RegContent) : (s.queueBlock c).pfw = s.pfw := rfl
@[simp] theorem State.queueBlock_straps (c : RegContent) : (s.queueBlock c).straps = s.straps := rfl
@[simp] theorem State.queueBlock_tk (c : RegContent) : (s.queueBlock c).tk = s.tk := rfl
@[simp] theorem State.queueBlock_timeBase (c : RegContent) : (s.queueBlock c).timeBase = s.timeBase := rfl
@[simp] theorem State.queueBlock_cu (c : RegContent) : (s.queueBlock c).cu = s.cu := rfl
@[simp] theorem State.queueBlock_links (c : RegContent) : (s.queueBlock c).links = s.links := rfl
@[simp] theorem State.queueBlock_wa (c : RegContent) : (s.queueBlock c).wa = s.wa := rfl
@[simp] theorem State.queueBlock_points (c : RegContent) : (s.queueBlock c).points = s.points := rfl
@[simp] theorem State.queueBlock_tr (c : RegContent) : (s.queueBlock c).tr = s.tr := rfl
@[simp] theorem State.queueBlock_pau (c : RegContent) : (s.queueBlock c).pau = s.pau := rfl
@[simp] theorem State.queueBlock_ia (c : RegContent) : (s.queueBlock c).ia = s.ia := rfl
@[simp] theorem State.queueBlock_store (c : RegContent) : (s.queueBlock c).store = s.store := rfl
@[simp] theorem State.queueBlock_rsc (c : RegContent) : (s.queueBlock c).rsc = { s.rsc with blockQueue := joinBlock c s.rsc.blockQueue } := rfl
@[simp] theorem State.queueBlock_cm (c : RegContent) : (s.queueBlock c).cm = s.cm := rfl
@[simp] theorem State.queueBlock_sm (c : RegContent) : (s.queueBlock c).sm = s.sm := rfl
@[simp] theorem State.queueBlock_mlc (c : RegContent) : (s.queueBlock c).mlc = s.mlc := rfl
@[simp] theorem State.queueBlock_pending (c : RegContent) : (s.queueBlock c).pending = s.pending := rfl

@[simp] theorem State.handRecord_powered (r : IntervalRecord) : (s.handRecord r).powered = s.powered := rfl
@[simp] theorem State.handRecord_pfw (r : IntervalRecord) : (s.handRecord r).pfw = s.pfw := rfl
@[simp] theorem State.handRecord_straps (r : IntervalRecord) : (s.handRecord r).straps = s.straps := rfl
@[simp] theorem State.handRecord_tk (r : IntervalRecord) : (s.handRecord r).tk = s.tk := rfl
@[simp] theorem State.handRecord_timeBase (r : IntervalRecord) : (s.handRecord r).timeBase = s.timeBase := rfl
@[simp] theorem State.handRecord_cu (r : IntervalRecord) : (s.handRecord r).cu = s.cu := rfl
@[simp] theorem State.handRecord_links (r : IntervalRecord) : (s.handRecord r).links = s.links := rfl
@[simp] theorem State.handRecord_wa (r : IntervalRecord) : (s.handRecord r).wa = s.wa := rfl
@[simp] theorem State.handRecord_points (r : IntervalRecord) : (s.handRecord r).points = s.points := rfl
@[simp] theorem State.handRecord_tr (r : IntervalRecord) : (s.handRecord r).tr = s.tr := rfl
@[simp] theorem State.handRecord_pau (r : IntervalRecord) : (s.handRecord r).pau = s.pau := rfl
@[simp] theorem State.handRecord_ia (r : IntervalRecord) : (s.handRecord r).ia = s.ia := rfl
@[simp] theorem State.handRecord_store (r : IntervalRecord) : (s.handRecord r).store = s.store := rfl
@[simp] theorem State.handRecord_rsc (r : IntervalRecord) : (s.handRecord r).rsc = { s.rsc with recordQueue := s.rsc.recordQueue ++ [r] } := rfl
@[simp] theorem State.handRecord_cm (r : IntervalRecord) : (s.handRecord r).cm = s.cm := rfl
@[simp] theorem State.handRecord_sm (r : IntervalRecord) : (s.handRecord r).sm = s.sm := rfl
@[simp] theorem State.handRecord_mlc (r : IntervalRecord) : (s.handRecord r).mlc = s.mlc := rfl
@[simp] theorem State.handRecord_pending (r : IntervalRecord) : (s.handRecord r).pending = s.pending := rfl

@[simp] theorem State.handConfig_powered (t : TableId) : (s.handConfig t).powered = s.powered := rfl
@[simp] theorem State.handConfig_pfw (t : TableId) : (s.handConfig t).pfw = s.pfw := rfl
@[simp] theorem State.handConfig_straps (t : TableId) : (s.handConfig t).straps = s.straps := rfl
@[simp] theorem State.handConfig_tk (t : TableId) : (s.handConfig t).tk = s.tk := rfl
@[simp] theorem State.handConfig_timeBase (t : TableId) : (s.handConfig t).timeBase = s.timeBase := rfl
@[simp] theorem State.handConfig_cu (t : TableId) : (s.handConfig t).cu = s.cu := rfl
@[simp] theorem State.handConfig_links (t : TableId) : (s.handConfig t).links = s.links := rfl
@[simp] theorem State.handConfig_wa (t : TableId) : (s.handConfig t).wa = s.wa := rfl
@[simp] theorem State.handConfig_points (t : TableId) : (s.handConfig t).points = s.points := rfl
@[simp] theorem State.handConfig_tr (t : TableId) : (s.handConfig t).tr = s.tr := rfl
@[simp] theorem State.handConfig_pau (t : TableId) : (s.handConfig t).pau = s.pau := rfl
@[simp] theorem State.handConfig_ia (t : TableId) : (s.handConfig t).ia = s.ia := rfl
@[simp] theorem State.handConfig_store (t : TableId) : (s.handConfig t).store = s.store := rfl
@[simp] theorem State.handConfig_rsc (t : TableId) : (s.handConfig t).rsc = { s.rsc with configQueue := joinConfig ⟨s.contentOf t, s.cm.generation⟩ s.rsc.configQueue } := rfl
@[simp] theorem State.handConfig_cm (t : TableId) : (s.handConfig t).cm = s.cm := rfl
@[simp] theorem State.handConfig_sm (t : TableId) : (s.handConfig t).sm = s.sm := rfl
@[simp] theorem State.handConfig_mlc (t : TableId) : (s.handConfig t).mlc = s.mlc := rfl
@[simp] theorem State.handConfig_pending (t : TableId) : (s.handConfig t).pending = s.pending := rfl

@[simp] theorem State.startJob_powered (j : Job) : (s.startJob j).powered = s.powered := rfl
@[simp] theorem State.startJob_pfw (j : Job) : (s.startJob j).pfw = s.pfw := rfl
@[simp] theorem State.startJob_straps (j : Job) : (s.startJob j).straps = s.straps := rfl
@[simp] theorem State.startJob_tk (j : Job) : (s.startJob j).tk = s.tk := rfl
@[simp] theorem State.startJob_timeBase (j : Job) : (s.startJob j).timeBase = s.timeBase := rfl
@[simp] theorem State.startJob_cu (j : Job) : (s.startJob j).cu = s.cu := rfl
@[simp] theorem State.startJob_links (j : Job) : (s.startJob j).links = s.links := rfl
@[simp] theorem State.startJob_wa (j : Job) : (s.startJob j).wa = s.wa := rfl
@[simp] theorem State.startJob_points (j : Job) : (s.startJob j).points = s.points := rfl
@[simp] theorem State.startJob_tr (j : Job) : (s.startJob j).tr = s.tr := rfl
@[simp] theorem State.startJob_pau (j : Job) : (s.startJob j).pau = s.pau := rfl
@[simp] theorem State.startJob_ia (j : Job) : (s.startJob j).ia = s.ia := rfl
@[simp] theorem State.startJob_store (j : Job) : (s.startJob j).store = s.store := rfl
@[simp] theorem State.startJob_rsc (j : Job) : (s.startJob j).rsc = { s.rsc with running := some ⟨j, 1⟩ } := rfl
@[simp] theorem State.startJob_cm (j : Job) : (s.startJob j).cm = s.cm := rfl
@[simp] theorem State.startJob_sm (j : Job) : (s.startJob j).sm = s.sm := rfl
@[simp] theorem State.startJob_mlc (j : Job) : (s.startJob j).mlc = s.mlc := rfl
@[simp] theorem State.startJob_pending (j : Job) : (s.startJob j).pending = s.pending := rfl

@[simp] theorem State.jobEnds_powered : (s.jobEnds).powered = s.powered := rfl
@[simp] theorem State.jobEnds_pfw : (s.jobEnds).pfw = s.pfw := rfl
@[simp] theorem State.jobEnds_straps : (s.jobEnds).straps = s.straps := rfl
@[simp] theorem State.jobEnds_tk : (s.jobEnds).tk = s.tk := rfl
@[simp] theorem State.jobEnds_timeBase : (s.jobEnds).timeBase = s.timeBase := rfl
@[simp] theorem State.jobEnds_cu : (s.jobEnds).cu = s.cu := rfl
@[simp] theorem State.jobEnds_links : (s.jobEnds).links = s.links := rfl
@[simp] theorem State.jobEnds_wa : (s.jobEnds).wa = s.wa := rfl
@[simp] theorem State.jobEnds_points : (s.jobEnds).points = s.points := rfl
@[simp] theorem State.jobEnds_tr : (s.jobEnds).tr = s.tr := rfl
@[simp] theorem State.jobEnds_pau : (s.jobEnds).pau = s.pau := rfl
@[simp] theorem State.jobEnds_ia : (s.jobEnds).ia = s.ia := rfl
@[simp] theorem State.jobEnds_store : (s.jobEnds).store = s.store := rfl
@[simp] theorem State.jobEnds_rsc : (s.jobEnds).rsc = { s.rsc with running := none } := rfl
@[simp] theorem State.jobEnds_cm : (s.jobEnds).cm = s.cm := rfl
@[simp] theorem State.jobEnds_sm : (s.jobEnds).sm = s.sm := rfl
@[simp] theorem State.jobEnds_mlc : (s.jobEnds).mlc = s.mlc := rfl
@[simp] theorem State.jobEnds_pending : (s.jobEnds).pending = s.pending := rfl

@[simp] theorem State.preempt_powered (j : ActiveJob) : (s.preempt j).powered = s.powered := rfl
@[simp] theorem State.preempt_pfw (j : ActiveJob) : (s.preempt j).pfw = s.pfw := rfl
@[simp] theorem State.preempt_straps (j : ActiveJob) : (s.preempt j).straps = s.straps := rfl
@[simp] theorem State.preempt_tk (j : ActiveJob) : (s.preempt j).tk = s.tk := rfl
@[simp] theorem State.preempt_timeBase (j : ActiveJob) : (s.preempt j).timeBase = s.timeBase := rfl
@[simp] theorem State.preempt_cu (j : ActiveJob) : (s.preempt j).cu = s.cu := rfl
@[simp] theorem State.preempt_links (j : ActiveJob) : (s.preempt j).links = s.links := rfl
@[simp] theorem State.preempt_wa (j : ActiveJob) : (s.preempt j).wa = s.wa := rfl
@[simp] theorem State.preempt_points (j : ActiveJob) : (s.preempt j).points = s.points := rfl
@[simp] theorem State.preempt_tr (j : ActiveJob) : (s.preempt j).tr = s.tr := rfl
@[simp] theorem State.preempt_pau (j : ActiveJob) : (s.preempt j).pau = s.pau := rfl
@[simp] theorem State.preempt_ia (j : ActiveJob) : (s.preempt j).ia = s.ia := rfl
@[simp] theorem State.preempt_store (j : ActiveJob) : (s.preempt j).store = s.store := rfl
@[simp] theorem State.preempt_rsc (j : ActiveJob) : (s.preempt j).rsc = { s.rsc with running := none, preempted := some j } := rfl
@[simp] theorem State.preempt_cm (j : ActiveJob) : (s.preempt j).cm = s.cm := rfl
@[simp] theorem State.preempt_sm (j : ActiveJob) : (s.preempt j).sm = s.sm := rfl
@[simp] theorem State.preempt_mlc (j : ActiveJob) : (s.preempt j).mlc = s.mlc := rfl
@[simp] theorem State.preempt_pending (j : ActiveJob) : (s.preempt j).pending = s.pending := rfl

@[simp] theorem State.waitFor_powered (w : ServiceWait) : (s.waitFor w).powered = s.powered := rfl
@[simp] theorem State.waitFor_pfw (w : ServiceWait) : (s.waitFor w).pfw = s.pfw := rfl
@[simp] theorem State.waitFor_straps (w : ServiceWait) : (s.waitFor w).straps = s.straps := rfl
@[simp] theorem State.waitFor_tk (w : ServiceWait) : (s.waitFor w).tk = s.tk := rfl
@[simp] theorem State.waitFor_timeBase (w : ServiceWait) : (s.waitFor w).timeBase = s.timeBase := rfl
@[simp] theorem State.waitFor_cu (w : ServiceWait) : (s.waitFor w).cu = s.cu := rfl
@[simp] theorem State.waitFor_links (w : ServiceWait) : (s.waitFor w).links = s.links := rfl
@[simp] theorem State.waitFor_wa (w : ServiceWait) : (s.waitFor w).wa = s.wa := rfl
@[simp] theorem State.waitFor_points (w : ServiceWait) : (s.waitFor w).points = s.points := rfl
@[simp] theorem State.waitFor_tr (w : ServiceWait) : (s.waitFor w).tr = s.tr := rfl
@[simp] theorem State.waitFor_pau (w : ServiceWait) : (s.waitFor w).pau = s.pau := rfl
@[simp] theorem State.waitFor_ia (w : ServiceWait) : (s.waitFor w).ia = s.ia := rfl
@[simp] theorem State.waitFor_store (w : ServiceWait) : (s.waitFor w).store = s.store := rfl
@[simp] theorem State.waitFor_rsc (w : ServiceWait) : (s.waitFor w).rsc = s.rsc := rfl
@[simp] theorem State.waitFor_cm (w : ServiceWait) : (s.waitFor w).cm = s.cm := rfl
@[simp] theorem State.waitFor_sm (w : ServiceWait) : (s.waitFor w).sm = s.sm := rfl
@[simp] theorem State.waitFor_mlc (w : ServiceWait) : (s.waitFor w).mlc = { s.mlc with inService := some w } := rfl
@[simp] theorem State.waitFor_pending (w : ServiceWait) : (s.waitFor w).pending = s.pending := rfl

@[simp] theorem State.handBlock_accounts (a : AccountId) :
    (s.handBlock a).ia.accounts =
      s.ia.accounts.set a { s.ia.accounts[a] with inFlight := true, blockOwed := true } := rfl
@[simp] theorem State.handBlock_nextSeq (a : AccountId) : (s.handBlock a).ia.nextSeq = s.ia.nextSeq := rfl
@[simp] theorem State.handBlock_waiting (a : AccountId) : (s.handBlock a).ia.waiting = s.ia.waiting := rfl
@[simp] theorem State.handBlock_recordQueue (a : AccountId) :
    (s.handBlock a).rsc.recordQueue = s.rsc.recordQueue := rfl
@[simp] theorem State.handBlock_powered (a : AccountId) : (s.handBlock a).powered = s.powered := rfl
@[simp] theorem State.handBlock_pfw (a : AccountId) : (s.handBlock a).pfw = s.pfw := rfl
@[simp] theorem State.handBlock_straps (a : AccountId) : (s.handBlock a).straps = s.straps := rfl
@[simp] theorem State.handBlock_tk (a : AccountId) : (s.handBlock a).tk = s.tk := rfl
@[simp] theorem State.handBlock_timeBase (a : AccountId) : (s.handBlock a).timeBase = s.timeBase := rfl
@[simp] theorem State.handBlock_cu (a : AccountId) : (s.handBlock a).cu = s.cu := rfl
@[simp] theorem State.handBlock_links (a : AccountId) : (s.handBlock a).links = s.links := rfl
@[simp] theorem State.handBlock_wa (a : AccountId) : (s.handBlock a).wa = s.wa := rfl
@[simp] theorem State.handBlock_points (a : AccountId) : (s.handBlock a).points = s.points := rfl
@[simp] theorem State.handBlock_tr (a : AccountId) : (s.handBlock a).tr = s.tr := rfl
@[simp] theorem State.handBlock_pau (a : AccountId) : (s.handBlock a).pau = s.pau := rfl
@[simp] theorem State.handBlock_store (a : AccountId) : (s.handBlock a).store = s.store := rfl
@[simp] theorem State.handBlock_cm (a : AccountId) : (s.handBlock a).cm = s.cm := rfl
@[simp] theorem State.handBlock_sm (a : AccountId) : (s.handBlock a).sm = s.sm := rfl
@[simp] theorem State.handBlock_mlc (a : AccountId) : (s.handBlock a).mlc = s.mlc := rfl
@[simp] theorem State.handBlock_pending (a : AccountId) : (s.handBlock a).pending = s.pending := rfl

end Sys2Proof.Machine
end

