-- ==== Sys2Proof/Laws/Frame.lean ====
section
/-! SUPPORT. What each shared operation leaves alone: one lemma for each, over every field that it does not touch. -/

set_option linter.unusedTactic false
set_option linter.unnecessarySeqFocus false

namespace Sys2Proof.Machine

@[simp] theorem State.pulses_frame (c : Condition) (n : Nat) (s : State) :
    (s.pulses c n).powered = s.powered ∧ (s.pulses c n).pfw = s.pfw ∧ (s.pulses c n).straps = s.straps ∧
      (s.pulses c n).tk = s.tk ∧ (s.pulses c n).timeBase = s.timeBase ∧ (s.pulses c n).links = s.links ∧
      (s.pulses c n).wa = s.wa ∧ (s.pulses c n).points = s.points ∧ (s.pulses c n).tr = s.tr ∧
      (s.pulses c n).pau = s.pau ∧ (s.pulses c n).ia = s.ia ∧ (s.pulses c n).store = s.store ∧
      (s.pulses c n).rsc = s.rsc ∧ (s.pulses c n).cm = s.cm ∧ (s.pulses c n).sm = s.sm ∧
      (s.pulses c n).mlc = s.mlc ∧ (s.pulses c n).pending = s.pending := by
  induction n generalizing s with
  | zero => simp [State.pulses]
  | succ n ih => simp [State.pulses, ih]

@[simp] theorem State.giveRegisterFlag_frame (s : State) :
    (s.giveRegisterFlag).powered = s.powered ∧ (s.giveRegisterFlag).pfw = s.pfw ∧ (s.giveRegisterFlag).straps = s.straps ∧
      (s.giveRegisterFlag).tk = s.tk ∧ (s.giveRegisterFlag).timeBase = s.timeBase ∧ (s.giveRegisterFlag).links = s.links ∧
      (s.giveRegisterFlag).wa = s.wa ∧ (s.giveRegisterFlag).points = s.points ∧ (s.giveRegisterFlag).tr = s.tr ∧
      (s.giveRegisterFlag).pau = s.pau ∧ (s.giveRegisterFlag).ia = s.ia ∧ (s.giveRegisterFlag).store = s.store ∧
      (s.giveRegisterFlag).rsc = s.rsc ∧ (s.giveRegisterFlag).cm = s.cm ∧ (s.giveRegisterFlag).sm = s.sm ∧
      (s.giveRegisterFlag).mlc = s.mlc ∧ (s.giveRegisterFlag).pending = s.pending := by
  unfold State.giveRegisterFlag
  refine ⟨?_, ?_, ?_, ?_, ?_, ?_, ?_, ?_, ?_, ?_, ?_, ?_, ?_, ?_, ?_, ?_, ?_⟩ <;> ((repeat' split) <;> simp)

@[simp] theorem State.givePointLevels_frame (s : State) :
    (s.givePointLevels).powered = s.powered ∧ (s.givePointLevels).pfw = s.pfw ∧ (s.givePointLevels).straps = s.straps ∧
      (s.givePointLevels).tk = s.tk ∧ (s.givePointLevels).timeBase = s.timeBase ∧ (s.givePointLevels).links = s.links ∧
      (s.givePointLevels).wa = s.wa ∧ (s.givePointLevels).points = s.points ∧ (s.givePointLevels).tr = s.tr ∧
      (s.givePointLevels).pau = s.pau ∧ (s.givePointLevels).ia = s.ia ∧ (s.givePointLevels).store = s.store ∧
      (s.givePointLevels).rsc = s.rsc ∧ (s.givePointLevels).cm = s.cm ∧ (s.givePointLevels).sm = s.sm ∧
      (s.givePointLevels).mlc = s.mlc ∧ (s.givePointLevels).pending = s.pending := by
  unfold State.givePointLevels
  refine ⟨?_, ?_, ?_, ?_, ?_, ?_, ?_, ?_, ?_, ?_, ?_, ?_, ?_, ?_, ?_, ?_, ?_⟩ <;> ((repeat' split) <;> simp)

@[simp] theorem State.giveBreakerUnknown_frame (s : State) :
    (s.giveBreakerUnknown).powered = s.powered ∧ (s.giveBreakerUnknown).pfw = s.pfw ∧ (s.giveBreakerUnknown).straps = s.straps ∧
      (s.giveBreakerUnknown).tk = s.tk ∧ (s.giveBreakerUnknown).timeBase = s.timeBase ∧ (s.giveBreakerUnknown).links = s.links ∧
      (s.giveBreakerUnknown).wa = s.wa ∧ (s.giveBreakerUnknown).points = s.points ∧ (s.giveBreakerUnknown).tr = s.tr ∧
      (s.giveBreakerUnknown).pau = s.pau ∧ (s.giveBreakerUnknown).ia = s.ia ∧ (s.giveBreakerUnknown).store = s.store ∧
      (s.giveBreakerUnknown).rsc = s.rsc ∧ (s.giveBreakerUnknown).cm = s.cm ∧ (s.giveBreakerUnknown).sm = s.sm ∧
      (s.giveBreakerUnknown).mlc = s.mlc ∧ (s.giveBreakerUnknown).pending = s.pending := by
  unfold State.giveBreakerUnknown
  refine ⟨?_, ?_, ?_, ?_, ?_, ?_, ?_, ?_, ?_, ?_, ?_, ?_, ?_, ?_, ?_, ?_, ?_⟩ <;> ((repeat' split) <;> simp)

@[simp] theorem State.giveTimeInvalid_frame (s : State) :
    (s.giveTimeInvalid).powered = s.powered ∧ (s.giveTimeInvalid).pfw = s.pfw ∧ (s.giveTimeInvalid).straps = s.straps ∧
      (s.giveTimeInvalid).tk = s.tk ∧ (s.giveTimeInvalid).timeBase = s.timeBase ∧ (s.giveTimeInvalid).links = s.links ∧
      (s.giveTimeInvalid).wa = s.wa ∧ (s.giveTimeInvalid).points = s.points ∧ (s.giveTimeInvalid).tr = s.tr ∧
      (s.giveTimeInvalid).pau = s.pau ∧ (s.giveTimeInvalid).ia = s.ia ∧ (s.giveTimeInvalid).store = s.store ∧
      (s.giveTimeInvalid).rsc = s.rsc ∧ (s.giveTimeInvalid).cm = s.cm ∧ (s.giveTimeInvalid).sm = s.sm ∧
      (s.giveTimeInvalid).mlc = s.mlc ∧ (s.giveTimeInvalid).pending = s.pending := by
  unfold State.giveTimeInvalid
  refine ⟨?_, ?_, ?_, ?_, ?_, ?_, ?_, ?_, ?_, ?_, ?_, ?_, ?_, ?_, ?_, ?_, ?_⟩ <;> ((repeat' split) <;> simp)

@[simp] theorem State.giveSupply_frame (s : State) :
    (s.giveSupply).powered = s.powered ∧ (s.giveSupply).pfw = s.pfw ∧ (s.giveSupply).straps = s.straps ∧
      (s.giveSupply).tk = s.tk ∧ (s.giveSupply).timeBase = s.timeBase ∧ (s.giveSupply).links = s.links ∧
      (s.giveSupply).wa = s.wa ∧ (s.giveSupply).points = s.points ∧ (s.giveSupply).tr = s.tr ∧
      (s.giveSupply).pau = s.pau ∧ (s.giveSupply).ia = s.ia ∧ (s.giveSupply).store = s.store ∧
      (s.giveSupply).rsc = s.rsc ∧ (s.giveSupply).cm = s.cm ∧ (s.giveSupply).sm = s.sm ∧
      (s.giveSupply).mlc = s.mlc ∧ (s.giveSupply).pending = s.pending := by
  unfold State.giveSupply
  refine ⟨?_, ?_, ?_, ?_, ?_, ?_, ?_, ?_, ?_, ?_, ?_, ?_, ?_, ?_, ?_, ?_, ?_⟩ <;> ((repeat' split) <;> simp)

@[simp] theorem State.giveStoreAlert_frame (s : State) :
    (s.giveStoreAlert).powered = s.powered ∧ (s.giveStoreAlert).pfw = s.pfw ∧ (s.giveStoreAlert).straps = s.straps ∧
      (s.giveStoreAlert).tk = s.tk ∧ (s.giveStoreAlert).timeBase = s.timeBase ∧ (s.giveStoreAlert).links = s.links ∧
      (s.giveStoreAlert).wa = s.wa ∧ (s.giveStoreAlert).points = s.points ∧ (s.giveStoreAlert).tr = s.tr ∧
      (s.giveStoreAlert).pau = s.pau ∧ (s.giveStoreAlert).ia = s.ia ∧ (s.giveStoreAlert).store = s.store ∧
      (s.giveStoreAlert).rsc = s.rsc ∧ (s.giveStoreAlert).cm = s.cm ∧ (s.giveStoreAlert).sm = s.sm ∧
      (s.giveStoreAlert).mlc = s.mlc ∧ (s.giveStoreAlert).pending = s.pending := by
  unfold State.giveStoreAlert
  refine ⟨?_, ?_, ?_, ?_, ?_, ?_, ?_, ?_, ?_, ?_, ?_, ?_, ?_, ?_, ?_, ?_, ?_⟩ <;> ((repeat' split) <;> simp)

@[simp] theorem State.giveFatal_frame (s : State) :
    (s.giveFatal).powered = s.powered ∧ (s.giveFatal).pfw = s.pfw ∧ (s.giveFatal).straps = s.straps ∧
      (s.giveFatal).tk = s.tk ∧ (s.giveFatal).timeBase = s.timeBase ∧ (s.giveFatal).links = s.links ∧
      (s.giveFatal).wa = s.wa ∧ (s.giveFatal).points = s.points ∧ (s.giveFatal).tr = s.tr ∧
      (s.giveFatal).pau = s.pau ∧ (s.giveFatal).ia = s.ia ∧ (s.giveFatal).store = s.store ∧
      (s.giveFatal).rsc = s.rsc ∧ (s.giveFatal).cm = s.cm ∧ (s.giveFatal).sm = s.sm ∧
      (s.giveFatal).mlc = s.mlc ∧ (s.giveFatal).pending = s.pending := by
  unfold State.giveFatal
  refine ⟨?_, ?_, ?_, ?_, ?_, ?_, ?_, ?_, ?_, ?_, ?_, ?_, ?_, ?_, ?_, ?_, ?_⟩ <;> ((repeat' split) <;> simp)

@[simp] theorem State.updAccount_frame (a : AccountId) (f : Account → Account) (s : State) :
    (s.updAccount a f).powered = s.powered ∧ (s.updAccount a f).pfw = s.pfw ∧ (s.updAccount a f).straps = s.straps ∧
      (s.updAccount a f).tk = s.tk ∧ (s.updAccount a f).timeBase = s.timeBase ∧ (s.updAccount a f).cu = s.cu ∧
      (s.updAccount a f).links = s.links ∧ (s.updAccount a f).wa = s.wa ∧ (s.updAccount a f).points = s.points ∧
      (s.updAccount a f).tr = s.tr ∧ (s.updAccount a f).pau = s.pau ∧ (s.updAccount a f).store = s.store ∧
      (s.updAccount a f).rsc = s.rsc ∧ (s.updAccount a f).cm = s.cm ∧ (s.updAccount a f).sm = s.sm ∧
      (s.updAccount a f).mlc = s.mlc ∧ (s.updAccount a f).pending = s.pending := by
  unfold State.updAccount
  refine ⟨?_, ?_, ?_, ?_, ?_, ?_, ?_, ?_, ?_, ?_, ?_, ?_, ?_, ?_, ?_, ?_, ?_⟩ <;> ((repeat' split) <;> simp)

@[simp] theorem State.updCounters_frame (l : LinkId) (f : LinkCounters → LinkCounters) (s : State) :
    (s.updCounters l f).powered = s.powered ∧ (s.updCounters l f).pfw = s.pfw ∧ (s.updCounters l f).straps = s.straps ∧
      (s.updCounters l f).tk = s.tk ∧ (s.updCounters l f).timeBase = s.timeBase ∧ (s.updCounters l f).cu = s.cu ∧
      (s.updCounters l f).wa = s.wa ∧ (s.updCounters l f).points = s.points ∧ (s.updCounters l f).tr = s.tr ∧
      (s.updCounters l f).pau = s.pau ∧ (s.updCounters l f).ia = s.ia ∧ (s.updCounters l f).store = s.store ∧
      (s.updCounters l f).rsc = s.rsc ∧ (s.updCounters l f).cm = s.cm ∧ (s.updCounters l f).sm = s.sm ∧
      (s.updCounters l f).mlc = s.mlc ∧ (s.updCounters l f).pending = s.pending := by
  unfold State.updCounters
  refine ⟨?_, ?_, ?_, ?_, ?_, ?_, ?_, ?_, ?_, ?_, ?_, ?_, ?_, ?_, ?_, ?_, ?_⟩ <;> ((repeat' split) <;> simp)

@[simp] theorem State.updStoreCounters_frame (f : StoreCounters → StoreCounters) (s : State) :
    (s.updStoreCounters f).powered = s.powered ∧ (s.updStoreCounters f).pfw = s.pfw ∧ (s.updStoreCounters f).straps = s.straps ∧
      (s.updStoreCounters f).tk = s.tk ∧ (s.updStoreCounters f).timeBase = s.timeBase ∧ (s.updStoreCounters f).cu = s.cu ∧
      (s.updStoreCounters f).links = s.links ∧ (s.updStoreCounters f).wa = s.wa ∧ (s.updStoreCounters f).points = s.points ∧
      (s.updStoreCounters f).tr = s.tr ∧ (s.updStoreCounters f).pau = s.pau ∧ (s.updStoreCounters f).ia = s.ia ∧
      (s.updStoreCounters f).store = s.store ∧ (s.updStoreCounters f).cm = s.cm ∧ (s.updStoreCounters f).sm = s.sm ∧
      (s.updStoreCounters f).mlc = s.mlc ∧ (s.updStoreCounters f).pending = s.pending := by
  unfold State.updStoreCounters
  refine ⟨?_, ?_, ?_, ?_, ?_, ?_, ?_, ?_, ?_, ?_, ?_, ?_, ?_, ?_, ?_, ?_, ?_⟩ <;> ((repeat' split) <;> simp)

@[simp] theorem State.updMsgCounters_frame (f : MsgCounters → MsgCounters) (s : State) :
    (s.updMsgCounters f).powered = s.powered ∧ (s.updMsgCounters f).pfw = s.pfw ∧ (s.updMsgCounters f).straps = s.straps ∧
      (s.updMsgCounters f).tk = s.tk ∧ (s.updMsgCounters f).timeBase = s.timeBase ∧ (s.updMsgCounters f).cu = s.cu ∧
      (s.updMsgCounters f).links = s.links ∧ (s.updMsgCounters f).wa = s.wa ∧ (s.updMsgCounters f).points = s.points ∧
      (s.updMsgCounters f).tr = s.tr ∧ (s.updMsgCounters f).pau = s.pau ∧ (s.updMsgCounters f).ia = s.ia ∧
      (s.updMsgCounters f).store = s.store ∧ (s.updMsgCounters f).rsc = s.rsc ∧ (s.updMsgCounters f).cm = s.cm ∧
      (s.updMsgCounters f).sm = s.sm ∧ (s.updMsgCounters f).pending = s.pending := by
  unfold State.updMsgCounters
  refine ⟨?_, ?_, ?_, ?_, ?_, ?_, ?_, ?_, ?_, ?_, ?_, ?_, ?_, ?_, ?_, ?_, ?_⟩ <;> ((repeat' split) <;> simp)

@[simp] theorem State.advance_frame (dt : Nat) (s : State) :
    (s.advance dt).powered = s.powered ∧ (s.advance dt).pfw = s.pfw ∧ (s.advance dt).straps = s.straps ∧
      (s.advance dt).wa = s.wa ∧ (s.advance dt).points = s.points ∧ (s.advance dt).tr = s.tr ∧
      (s.advance dt).pau = s.pau ∧ (s.advance dt).store = s.store ∧ (s.advance dt).cm = s.cm ∧
      (s.advance dt).sm = s.sm ∧ (s.advance dt).pending = s.pending := by
  unfold State.advance
  dsimp only
  split
  · split <;> simp
  · simp

@[simp] theorem State.finish_frame (k : Byte) (p : List Byte) (s : State) :
    (s.finish k p).powered = s.powered ∧ (s.finish k p).pfw = s.pfw ∧ (s.finish k p).straps = s.straps ∧
      (s.finish k p).tk = s.tk ∧ (s.finish k p).timeBase = s.timeBase ∧ (s.finish k p).cu = s.cu ∧
      (s.finish k p).links = s.links ∧ (s.finish k p).wa = s.wa ∧ (s.finish k p).points = s.points ∧
      (s.finish k p).tr = s.tr ∧ (s.finish k p).pau = s.pau ∧ (s.finish k p).ia = s.ia ∧
      (s.finish k p).store = s.store ∧ (s.finish k p).rsc = s.rsc ∧ (s.finish k p).cm = s.cm ∧
      (s.finish k p).sm = s.sm ∧ (s.finish k p).pending = s.pending := by
  unfold State.finish
  dsimp only
  refine ⟨?_, ?_, ?_, ?_, ?_, ?_, ?_, ?_, ?_, ?_, ?_, ?_, ?_, ?_, ?_, ?_, ?_⟩ <;> ((repeat' split) <;> simp)

@[simp] theorem State.ack_frame (p : List Byte) (s : State) :
    (s.ack p).powered = s.powered ∧ (s.ack p).pfw = s.pfw ∧ (s.ack p).straps = s.straps ∧
      (s.ack p).tk = s.tk ∧ (s.ack p).timeBase = s.timeBase ∧ (s.ack p).cu = s.cu ∧
      (s.ack p).links = s.links ∧ (s.ack p).wa = s.wa ∧ (s.ack p).points = s.points ∧
      (s.ack p).tr = s.tr ∧ (s.ack p).pau = s.pau ∧ (s.ack p).ia = s.ia ∧
      (s.ack p).store = s.store ∧ (s.ack p).rsc = s.rsc ∧ (s.ack p).cm = s.cm ∧
      (s.ack p).sm = s.sm ∧ (s.ack p).pending = s.pending := by
  unfold State.ack
  refine ⟨?_, ?_, ?_, ?_, ?_, ?_, ?_, ?_, ?_, ?_, ?_, ?_, ?_, ?_, ?_, ?_, ?_⟩ <;> ((repeat' split) <;> simp)

@[simp] theorem State.refuse_frame (r : Reason) (s : State) :
    (s.refuse r).powered = s.powered ∧ (s.refuse r).pfw = s.pfw ∧ (s.refuse r).straps = s.straps ∧
      (s.refuse r).tk = s.tk ∧ (s.refuse r).timeBase = s.timeBase ∧ (s.refuse r).cu = s.cu ∧
      (s.refuse r).links = s.links ∧ (s.refuse r).wa = s.wa ∧ (s.refuse r).points = s.points ∧
      (s.refuse r).tr = s.tr ∧ (s.refuse r).pau = s.pau ∧ (s.refuse r).ia = s.ia ∧
      (s.refuse r).store = s.store ∧ (s.refuse r).rsc = s.rsc ∧ (s.refuse r).cm = s.cm ∧
      (s.refuse r).sm = s.sm ∧ (s.refuse r).pending = s.pending := by
  unfold State.refuse
  refine ⟨?_, ?_, ?_, ?_, ?_, ?_, ?_, ?_, ?_, ?_, ?_, ?_, ?_, ?_, ?_, ?_, ?_⟩ <;> ((repeat' split) <;> simp)

@[simp] theorem State.enterHalted_frame (s : State) :
    (s.enterHalted).powered = s.powered ∧ (s.enterHalted).pfw = s.pfw ∧ (s.enterHalted).straps = s.straps ∧
      (s.enterHalted).tk = s.tk ∧ (s.enterHalted).timeBase = s.timeBase ∧ (s.enterHalted).links = s.links ∧
      (s.enterHalted).points = s.points ∧ (s.enterHalted).tr = s.tr ∧ (s.enterHalted).pau = s.pau ∧
      (s.enterHalted).ia = s.ia ∧ (s.enterHalted).store = s.store ∧ (s.enterHalted).cm = s.cm ∧
      (s.enterHalted).sm = s.sm ∧ (s.enterHalted).pending = s.pending := by
  unfold State.enterHalted
  dsimp only
  refine ⟨?_, ?_, ?_, ?_, ?_, ?_, ?_, ?_, ?_, ?_, ?_, ?_, ?_, ?_⟩ <;> ((repeat' split) <;> simp)

@[simp] theorem State.freshBoundary_frame (s : State) :
    (s.freshBoundary).powered = s.powered ∧ (s.freshBoundary).pfw = s.pfw ∧ (s.freshBoundary).straps = s.straps ∧
      (s.freshBoundary).tk = s.tk ∧ (s.freshBoundary).timeBase = s.timeBase ∧ (s.freshBoundary).cu = s.cu ∧
      (s.freshBoundary).links = s.links ∧ (s.freshBoundary).wa = s.wa ∧ (s.freshBoundary).points = s.points ∧
      (s.freshBoundary).tr = s.tr ∧ (s.freshBoundary).pau = s.pau ∧ (s.freshBoundary).store = s.store ∧
      (s.freshBoundary).rsc = s.rsc ∧ (s.freshBoundary).cm = s.cm ∧ (s.freshBoundary).sm = s.sm ∧
      (s.freshBoundary).mlc = s.mlc ∧ (s.freshBoundary).pending = s.pending := by
  unfold State.freshBoundary
  dsimp only
  refine ⟨?_, ?_, ?_, ?_, ?_, ?_, ?_, ?_, ?_, ?_, ?_, ?_, ?_, ?_, ?_, ?_, ?_⟩ <;> ((repeat' split) <;> simp)

@[simp] theorem State.openAccount_frame (n : Nat) (a : AccountId) (s : State) :
    (s.openAccount n a).powered = s.powered ∧ (s.openAccount n a).pfw = s.pfw ∧ (s.openAccount n a).straps = s.straps ∧
      (s.openAccount n a).tk = s.tk ∧ (s.openAccount n a).timeBase = s.timeBase ∧ (s.openAccount n a).cu = s.cu ∧
      (s.openAccount n a).links = s.links ∧ (s.openAccount n a).wa = s.wa ∧ (s.openAccount n a).points = s.points ∧
      (s.openAccount n a).tr = s.tr ∧ (s.openAccount n a).pau = s.pau ∧ (s.openAccount n a).store = s.store ∧
      (s.openAccount n a).rsc = s.rsc ∧ (s.openAccount n a).cm = s.cm ∧ (s.openAccount n a).sm = s.sm ∧
      (s.openAccount n a).mlc = s.mlc ∧ (s.openAccount n a).pending = s.pending := by
  unfold State.openAccount
  refine ⟨?_, ?_, ?_, ?_, ?_, ?_, ?_, ?_, ?_, ?_, ?_, ?_, ?_, ?_, ?_, ?_, ?_⟩ <;> ((repeat' split) <;> simp)

@[simp] theorem State.closeAccount_frame (c : EndCause) (e : Nat) (r : Reopen) (a : AccountId) (s : State) :
    (s.closeAccount c e r a).powered = s.powered ∧ (s.closeAccount c e r a).pfw = s.pfw ∧ (s.closeAccount c e r a).straps = s.straps ∧
      (s.closeAccount c e r a).tk = s.tk ∧ (s.closeAccount c e r a).timeBase = s.timeBase ∧ (s.closeAccount c e r a).links = s.links ∧
      (s.closeAccount c e r a).wa = s.wa ∧ (s.closeAccount c e r a).points = s.points ∧ (s.closeAccount c e r a).tr = s.tr ∧
      (s.closeAccount c e r a).pau = s.pau ∧ (s.closeAccount c e r a).store = s.store ∧ (s.closeAccount c e r a).cm = s.cm ∧
      (s.closeAccount c e r a).sm = s.sm ∧ (s.closeAccount c e r a).mlc = s.mlc ∧ (s.closeAccount c e r a).pending = s.pending := by
  unfold State.closeAccount
  dsimp only
  refine ⟨?_, ?_, ?_, ?_, ?_, ?_, ?_, ?_, ?_, ?_, ?_, ?_, ?_, ?_, ?_⟩ <;> ((repeat' split) <;> simp)

@[simp] theorem State.closeList_frame (c : EndCause) (e : Nat) (r : Reopen) (l : List AccountId) (s : State) :
    (s.closeList c e r l).powered = s.powered ∧ (s.closeList c e r l).pfw = s.pfw ∧ (s.closeList c e r l).straps = s.straps ∧
      (s.closeList c e r l).tk = s.tk ∧ (s.closeList c e r l).timeBase = s.timeBase ∧ (s.closeList c e r l).links = s.links ∧
      (s.closeList c e r l).wa = s.wa ∧ (s.closeList c e r l).points = s.points ∧ (s.closeList c e r l).tr = s.tr ∧
      (s.closeList c e r l).pau = s.pau ∧ (s.closeList c e r l).store = s.store ∧ (s.closeList c e r l).cm = s.cm ∧
      (s.closeList c e r l).sm = s.sm ∧ (s.closeList c e r l).mlc = s.mlc ∧ (s.closeList c e r l).pending = s.pending := by
  induction l generalizing s with
  | nil => simp [State.closeList]
  | cons x rest ih => simp [State.closeList, ih]

@[simp] theorem State.closeAll_frame (c : EndCause) (e : Nat) (r : Reopen) (s : State) :
    (s.closeAll c e r).powered = s.powered ∧ (s.closeAll c e r).pfw = s.pfw ∧ (s.closeAll c e r).straps = s.straps ∧
      (s.closeAll c e r).tk = s.tk ∧ (s.closeAll c e r).timeBase = s.timeBase ∧ (s.closeAll c e r).links = s.links ∧
      (s.closeAll c e r).wa = s.wa ∧ (s.closeAll c e r).points = s.points ∧ (s.closeAll c e r).tr = s.tr ∧
      (s.closeAll c e r).pau = s.pau ∧ (s.closeAll c e r).store = s.store ∧ (s.closeAll c e r).cm = s.cm ∧
      (s.closeAll c e r).sm = s.sm ∧ (s.closeAll c e r).mlc = s.mlc ∧ (s.closeAll c e r).pending = s.pending := by
  unfold State.closeAll
  refine ⟨?_, ?_, ?_, ?_, ?_, ?_, ?_, ?_, ?_, ?_, ?_, ?_, ?_, ?_, ?_⟩ <;> ((repeat' split) <;> simp)

@[simp] theorem State.runEvent_frame (e : CloseEvent) (s : State) :
    (s.runEvent e).powered = s.powered ∧ (s.runEvent e).pfw = s.pfw ∧ (s.runEvent e).straps = s.straps ∧
      (s.runEvent e).tk = s.tk ∧ (s.runEvent e).timeBase = s.timeBase ∧ (s.runEvent e).links = s.links ∧
      (s.runEvent e).wa = s.wa ∧ (s.runEvent e).points = s.points ∧ (s.runEvent e).tr = s.tr ∧
      (s.runEvent e).pau = s.pau ∧ (s.runEvent e).store = s.store ∧ (s.runEvent e).cm = s.cm ∧
      (s.runEvent e).sm = s.sm ∧ (s.runEvent e).mlc = s.mlc ∧ (s.runEvent e).pending = s.pending := by
  unfold State.runEvent
  dsimp only
  refine ⟨?_, ?_, ?_, ?_, ?_, ?_, ?_, ?_, ?_, ?_, ?_, ?_, ?_, ?_, ?_⟩ <;> ((repeat' split) <;> simp)

@[simp] theorem State.waitEvent_frame (e : CloseEvent) (s : State) :
    (s.waitEvent e).powered = s.powered ∧ (s.waitEvent e).pfw = s.pfw ∧ (s.waitEvent e).straps = s.straps ∧
      (s.waitEvent e).tk = s.tk ∧ (s.waitEvent e).timeBase = s.timeBase ∧ (s.waitEvent e).cu = s.cu ∧
      (s.waitEvent e).links = s.links ∧ (s.waitEvent e).wa = s.wa ∧ (s.waitEvent e).points = s.points ∧
      (s.waitEvent e).tr = s.tr ∧ (s.waitEvent e).pau = s.pau ∧ (s.waitEvent e).store = s.store ∧
      (s.waitEvent e).rsc = s.rsc ∧ (s.waitEvent e).cm = s.cm ∧ (s.waitEvent e).sm = s.sm ∧
      (s.waitEvent e).mlc = s.mlc ∧ (s.waitEvent e).pending = s.pending := by
  unfold State.waitEvent
  refine ⟨?_, ?_, ?_, ?_, ?_, ?_, ?_, ?_, ?_, ?_, ?_, ?_, ?_, ?_, ?_, ?_, ?_⟩ <;> ((repeat' split) <;> simp)

@[simp] theorem State.raiseEvent_frame (e : CloseEvent) (s : State) :
    (s.raiseEvent e).powered = s.powered ∧ (s.raiseEvent e).pfw = s.pfw ∧ (s.raiseEvent e).straps = s.straps ∧
      (s.raiseEvent e).tk = s.tk ∧ (s.raiseEvent e).timeBase = s.timeBase ∧ (s.raiseEvent e).links = s.links ∧
      (s.raiseEvent e).points = s.points ∧ (s.raiseEvent e).tr = s.tr ∧ (s.raiseEvent e).pau = s.pau ∧
      (s.raiseEvent e).store = s.store ∧ (s.raiseEvent e).cm = s.cm ∧ (s.raiseEvent e).sm = s.sm ∧
      (s.raiseEvent e).pending = s.pending := by
  unfold State.raiseEvent
  refine ⟨?_, ?_, ?_, ?_, ?_, ?_, ?_, ?_, ?_, ?_, ?_, ?_, ?_⟩ <;> ((repeat' split) <;> simp)

@[simp] theorem State.releaseTimeSet_frame (s : State) :
    (s.releaseTimeSet).powered = s.powered ∧ (s.releaseTimeSet).pfw = s.pfw ∧ (s.releaseTimeSet).straps = s.straps ∧
      (s.releaseTimeSet).tk = s.tk ∧ (s.releaseTimeSet).timeBase = s.timeBase ∧ (s.releaseTimeSet).cu = s.cu ∧
      (s.releaseTimeSet).links = s.links ∧ (s.releaseTimeSet).wa = s.wa ∧ (s.releaseTimeSet).points = s.points ∧
      (s.releaseTimeSet).tr = s.tr ∧ (s.releaseTimeSet).pau = s.pau ∧ (s.releaseTimeSet).ia = s.ia ∧
      (s.releaseTimeSet).store = s.store ∧ (s.releaseTimeSet).rsc = s.rsc ∧ (s.releaseTimeSet).cm = s.cm ∧
      (s.releaseTimeSet).sm = s.sm ∧ (s.releaseTimeSet).pending = s.pending := by
  unfold State.releaseTimeSet
  refine ⟨?_, ?_, ?_, ?_, ?_, ?_, ?_, ?_, ?_, ?_, ?_, ?_, ?_, ?_, ?_, ?_, ?_⟩ <;> ((repeat' split) <;> simp)

@[simp] theorem State.beginWaiting_frame (s : State) :
    (s.beginWaiting).powered = s.powered ∧ (s.beginWaiting).pfw = s.pfw ∧ (s.beginWaiting).straps = s.straps ∧
      (s.beginWaiting).tk = s.tk ∧ (s.beginWaiting).timeBase = s.timeBase ∧ (s.beginWaiting).links = s.links ∧
      (s.beginWaiting).points = s.points ∧ (s.beginWaiting).tr = s.tr ∧ (s.beginWaiting).pau = s.pau ∧
      (s.beginWaiting).store = s.store ∧ (s.beginWaiting).cm = s.cm ∧ (s.beginWaiting).sm = s.sm ∧
      (s.beginWaiting).pending = s.pending := by
  unfold State.beginWaiting
  refine ⟨?_, ?_, ?_, ?_, ?_, ?_, ?_, ?_, ?_, ?_, ?_, ?_, ?_⟩ <;> ((repeat' split) <;> simp)

@[simp] theorem State.boundaryFalls_frame (w : Bool) (s : State) :
    (s.boundaryFalls w).powered = s.powered ∧ (s.boundaryFalls w).pfw = s.pfw ∧ (s.boundaryFalls w).straps = s.straps ∧
      (s.boundaryFalls w).tk = s.tk ∧ (s.boundaryFalls w).timeBase = s.timeBase ∧ (s.boundaryFalls w).links = s.links ∧
      (s.boundaryFalls w).points = s.points ∧ (s.boundaryFalls w).tr = s.tr ∧ (s.boundaryFalls w).pau = s.pau ∧
      (s.boundaryFalls w).store = s.store ∧ (s.boundaryFalls w).cm = s.cm ∧ (s.boundaryFalls w).sm = s.sm ∧
      (s.boundaryFalls w).pending = s.pending := by
  unfold State.boundaryFalls
  dsimp only
  refine ⟨?_, ?_, ?_, ?_, ?_, ?_, ?_, ?_, ?_, ?_, ?_, ?_, ?_⟩ <;> ((repeat' split) <;> simp)

@[simp] theorem State.presetAccount_frame (a : AccountId) (v : Vector Nat 25) (s : State) :
    (s.presetAccount a v).powered = s.powered ∧ (s.presetAccount a v).pfw = s.pfw ∧ (s.presetAccount a v).straps = s.straps ∧
      (s.presetAccount a v).tk = s.tk ∧ (s.presetAccount a v).timeBase = s.timeBase ∧ (s.presetAccount a v).links = s.links ∧
      (s.presetAccount a v).wa = s.wa ∧ (s.presetAccount a v).points = s.points ∧ (s.presetAccount a v).tr = s.tr ∧
      (s.presetAccount a v).pau = s.pau ∧ (s.presetAccount a v).store = s.store ∧ (s.presetAccount a v).cm = s.cm ∧
      (s.presetAccount a v).sm = s.sm ∧ (s.presetAccount a v).mlc = s.mlc ∧ (s.presetAccount a v).pending = s.pending := by
  unfold State.presetAccount
  dsimp only
  refine ⟨?_, ?_, ?_, ?_, ?_, ?_, ?_, ?_, ?_, ?_, ?_, ?_, ?_, ?_, ?_⟩ <;> ((repeat' split) <;> simp)

@[simp] theorem State.handBlocks_frame (l : List AccountId) (s : State) :
    (s.handBlocks l).powered = s.powered ∧ (s.handBlocks l).pfw = s.pfw ∧ (s.handBlocks l).straps = s.straps ∧
      (s.handBlocks l).tk = s.tk ∧ (s.handBlocks l).timeBase = s.timeBase ∧ (s.handBlocks l).cu = s.cu ∧
      (s.handBlocks l).links = s.links ∧ (s.handBlocks l).wa = s.wa ∧ (s.handBlocks l).points = s.points ∧
      (s.handBlocks l).tr = s.tr ∧ (s.handBlocks l).pau = s.pau ∧ (s.handBlocks l).store = s.store ∧
      (s.handBlocks l).cm = s.cm ∧ (s.handBlocks l).sm = s.sm ∧ (s.handBlocks l).mlc = s.mlc ∧
      (s.handBlocks l).pending = s.pending := by
  induction l generalizing s with
  | nil => simp [State.handBlocks]
  | cons x rest ih => simp [State.handBlocks, ih]

@[simp] theorem State.eraseAccounts_frame (s : State) :
    (s.eraseAccounts).powered = s.powered ∧ (s.eraseAccounts).pfw = s.pfw ∧ (s.eraseAccounts).straps = s.straps ∧
      (s.eraseAccounts).tk = s.tk ∧ (s.eraseAccounts).timeBase = s.timeBase ∧ (s.eraseAccounts).links = s.links ∧
      (s.eraseAccounts).wa = s.wa ∧ (s.eraseAccounts).points = s.points ∧ (s.eraseAccounts).tr = s.tr ∧
      (s.eraseAccounts).pau = s.pau ∧ (s.eraseAccounts).store = s.store ∧ (s.eraseAccounts).cm = s.cm ∧
      (s.eraseAccounts).sm = s.sm ∧ (s.eraseAccounts).mlc = s.mlc ∧ (s.eraseAccounts).pending = s.pending := by
  unfold State.eraseAccounts
  dsimp only
  refine ⟨?_, ?_, ?_, ?_, ?_, ?_, ?_, ?_, ?_, ?_, ?_, ?_, ?_, ?_, ?_⟩ <;> ((repeat' split) <;> simp)

@[simp] theorem State.callSave_frame (s : State) :
    (s.callSave).powered = s.powered ∧ (s.callSave).pfw = s.pfw ∧ (s.callSave).straps = s.straps ∧
      (s.callSave).tk = s.tk ∧ (s.callSave).timeBase = s.timeBase ∧ (s.callSave).cu = s.cu ∧
      (s.callSave).links = s.links ∧ (s.callSave).wa = s.wa ∧ (s.callSave).points = s.points ∧
      (s.callSave).tr = s.tr ∧ (s.callSave).pau = s.pau ∧ (s.callSave).ia = s.ia ∧
      (s.callSave).store = s.store ∧ (s.callSave).cm = s.cm ∧ (s.callSave).mlc = s.mlc ∧
      (s.callSave).pending = s.pending := by
  unfold State.callSave
  refine ⟨?_, ?_, ?_, ?_, ?_, ?_, ?_, ?_, ?_, ?_, ?_, ?_, ?_, ?_, ?_, ?_⟩ <;> ((repeat' split) <;> simp)

@[simp] theorem State.pfwAsserted_frame (s : State) :
    (s.pfwAsserted).powered = s.powered ∧ (s.pfwAsserted).pfw = s.pfw ∧ (s.pfwAsserted).straps = s.straps ∧
      (s.pfwAsserted).tk = s.tk ∧ (s.pfwAsserted).timeBase = s.timeBase ∧ (s.pfwAsserted).links = s.links ∧
      (s.pfwAsserted).points = s.points ∧ (s.pfwAsserted).tr = s.tr ∧ (s.pfwAsserted).pau = s.pau ∧
      (s.pfwAsserted).store = s.store ∧ (s.pfwAsserted).cm = s.cm ∧ (s.pfwAsserted).pending = s.pending := by
  unfold State.pfwAsserted
  dsimp only
  refine ⟨?_, ?_, ?_, ?_, ?_, ?_, ?_, ?_, ?_, ?_, ?_, ?_⟩ <;> ((repeat' split) <;> simp)

@[simp] theorem State.returnToNormal_frame (s : State) :
    (s.returnToNormal).powered = s.powered ∧ (s.returnToNormal).pfw = s.pfw ∧ (s.returnToNormal).straps = s.straps ∧
      (s.returnToNormal).tk = s.tk ∧ (s.returnToNormal).timeBase = s.timeBase ∧ (s.returnToNormal).links = s.links ∧
      (s.returnToNormal).points = s.points ∧ (s.returnToNormal).tr = s.tr ∧ (s.returnToNormal).pau = s.pau ∧
      (s.returnToNormal).store = s.store ∧ (s.returnToNormal).cm = s.cm ∧ (s.returnToNormal).pending = s.pending := by
  unfold State.returnToNormal
  dsimp only
  refine ⟨?_, ?_, ?_, ?_, ?_, ?_, ?_, ?_, ?_, ?_, ?_, ?_⟩ <;> ((repeat' split) <;> simp)

@[simp] theorem State.pfwDeasserted_frame (s : State) :
    (s.pfwDeasserted).powered = s.powered ∧ (s.pfwDeasserted).pfw = s.pfw ∧ (s.pfwDeasserted).straps = s.straps ∧
      (s.pfwDeasserted).tk = s.tk ∧ (s.pfwDeasserted).timeBase = s.timeBase ∧ (s.pfwDeasserted).links = s.links ∧
      (s.pfwDeasserted).points = s.points ∧ (s.pfwDeasserted).tr = s.tr ∧ (s.pfwDeasserted).pau = s.pau ∧
      (s.pfwDeasserted).store = s.store ∧ (s.pfwDeasserted).cm = s.cm ∧ (s.pfwDeasserted).pending = s.pending := by
  unfold State.pfwDeasserted
  refine ⟨?_, ?_, ?_, ?_, ?_, ?_, ?_, ?_, ?_, ?_, ?_, ?_⟩ <;> ((repeat' split) <;> simp)

@[simp] theorem State.saveComplete_frame (v : Bool) (t : TimeStamp) (s : State) :
    (s.saveComplete v t).powered = s.powered ∧ (s.saveComplete v t).pfw = s.pfw ∧ (s.saveComplete v t).straps = s.straps ∧
      (s.saveComplete v t).tk = s.tk ∧ (s.saveComplete v t).timeBase = s.timeBase ∧ (s.saveComplete v t).links = s.links ∧
      (s.saveComplete v t).points = s.points ∧ (s.saveComplete v t).tr = s.tr ∧ (s.saveComplete v t).pau = s.pau ∧
      (s.saveComplete v t).store = s.store ∧ (s.saveComplete v t).cm = s.cm ∧ (s.saveComplete v t).pending = s.pending := by
  unfold State.saveComplete
  dsimp only
  refine ⟨?_, ?_, ?_, ?_, ?_, ?_, ?_, ?_, ?_, ?_, ?_, ?_⟩ <;> ((repeat' split) <;> simp)

@[simp] theorem State.interrupt_frame (l : UnitLeft) (s : State) :
    (s.interrupt l).powered = s.powered ∧ (s.interrupt l).pfw = s.pfw ∧ (s.interrupt l).straps = s.straps ∧
      (s.interrupt l).tk = s.tk ∧ (s.interrupt l).timeBase = s.timeBase ∧ (s.interrupt l).cu = s.cu ∧
      (s.interrupt l).links = s.links ∧ (s.interrupt l).wa = s.wa ∧ (s.interrupt l).points = s.points ∧
      (s.interrupt l).tr = s.tr ∧ (s.interrupt l).pau = s.pau ∧ (s.interrupt l).ia = s.ia ∧
      (s.interrupt l).rsc = s.rsc ∧ (s.interrupt l).cm = s.cm ∧ (s.interrupt l).sm = s.sm ∧
      (s.interrupt l).mlc = s.mlc ∧ (s.interrupt l).pending = s.pending := by
  unfold State.interrupt
  refine ⟨?_, ?_, ?_, ?_, ?_, ?_, ?_, ?_, ?_, ?_, ?_, ?_, ?_, ?_, ?_, ?_, ?_⟩ <;> ((repeat' split) <;> simp)

@[simp] theorem State.countRetry_frame (s : State) :
    (s.countRetry).powered = s.powered ∧ (s.countRetry).pfw = s.pfw ∧ (s.countRetry).straps = s.straps ∧
      (s.countRetry).tk = s.tk ∧ (s.countRetry).timeBase = s.timeBase ∧ (s.countRetry).cu = s.cu ∧
      (s.countRetry).links = s.links ∧ (s.countRetry).wa = s.wa ∧ (s.countRetry).points = s.points ∧
      (s.countRetry).tr = s.tr ∧ (s.countRetry).pau = s.pau ∧ (s.countRetry).ia = s.ia ∧
      (s.countRetry).store = s.store ∧ (s.countRetry).cm = s.cm ∧ (s.countRetry).sm = s.sm ∧
      (s.countRetry).mlc = s.mlc ∧ (s.countRetry).pending = s.pending := by
  unfold State.countRetry
  refine ⟨?_, ?_, ?_, ?_, ?_, ?_, ?_, ?_, ?_, ?_, ?_, ?_, ?_, ?_, ?_, ?_, ?_⟩ <;> ((repeat' split) <;> simp)

@[simp] theorem State.resume_frame (p : ActiveJob) (s : State) :
    (s.resume p).powered = s.powered ∧ (s.resume p).pfw = s.pfw ∧ (s.resume p).straps = s.straps ∧
      (s.resume p).tk = s.tk ∧ (s.resume p).timeBase = s.timeBase ∧ (s.resume p).cu = s.cu ∧
      (s.resume p).links = s.links ∧ (s.resume p).wa = s.wa ∧ (s.resume p).points = s.points ∧
      (s.resume p).tr = s.tr ∧ (s.resume p).pau = s.pau ∧ (s.resume p).ia = s.ia ∧
      (s.resume p).store = s.store ∧ (s.resume p).cm = s.cm ∧ (s.resume p).sm = s.sm ∧
      (s.resume p).mlc = s.mlc ∧ (s.resume p).pending = s.pending := by
  unfold State.resume
  dsimp only
  refine ⟨?_, ?_, ?_, ?_, ?_, ?_, ?_, ?_, ?_, ?_, ?_, ?_, ?_, ?_, ?_, ?_, ?_⟩ <;> ((repeat' split) <;> simp)

@[simp] theorem State.startRecord_frame (r : IntervalRecord) (s : State) :
    (s.startRecord r).powered = s.powered ∧ (s.startRecord r).pfw = s.pfw ∧ (s.startRecord r).straps = s.straps ∧
      (s.startRecord r).tk = s.tk ∧ (s.startRecord r).timeBase = s.timeBase ∧ (s.startRecord r).cu = s.cu ∧
      (s.startRecord r).links = s.links ∧ (s.startRecord r).wa = s.wa ∧ (s.startRecord r).points = s.points ∧
      (s.startRecord r).tr = s.tr ∧ (s.startRecord r).pau = s.pau ∧ (s.startRecord r).ia = s.ia ∧
      (s.startRecord r).store = s.store ∧ (s.startRecord r).cm = s.cm ∧ (s.startRecord r).sm = s.sm ∧
      (s.startRecord r).mlc = s.mlc ∧ (s.startRecord r).pending = s.pending := by
  unfold State.startRecord
  dsimp only
  refine ⟨?_, ?_, ?_, ?_, ?_, ?_, ?_, ?_, ?_, ?_, ?_, ?_, ?_, ?_, ?_, ?_, ?_⟩ <;> ((repeat' split) <;> simp)

@[simp] theorem State.startConfig_frame (j : ConfigJob) (s : State) :
    (s.startConfig j).powered = s.powered ∧ (s.startConfig j).pfw = s.pfw ∧ (s.startConfig j).straps = s.straps ∧
      (s.startConfig j).tk = s.tk ∧ (s.startConfig j).timeBase = s.timeBase ∧ (s.startConfig j).cu = s.cu ∧
      (s.startConfig j).links = s.links ∧ (s.startConfig j).wa = s.wa ∧ (s.startConfig j).points = s.points ∧
      (s.startConfig j).tr = s.tr ∧ (s.startConfig j).pau = s.pau ∧ (s.startConfig j).ia = s.ia ∧
      (s.startConfig j).store = s.store ∧ (s.startConfig j).cm = s.cm ∧ (s.startConfig j).sm = s.sm ∧
      (s.startConfig j).mlc = s.mlc ∧ (s.startConfig j).pending = s.pending := by
  unfold State.startConfig
  dsimp only
  refine ⟨?_, ?_, ?_, ?_, ?_, ?_, ?_, ?_, ?_, ?_, ?_, ?_, ?_, ?_, ?_, ?_, ?_⟩ <;> ((repeat' split) <;> simp)

@[simp] theorem State.startPatrol_frame (s : State) :
    (s.startPatrol).powered = s.powered ∧ (s.startPatrol).pfw = s.pfw ∧ (s.startPatrol).straps = s.straps ∧
      (s.startPatrol).tk = s.tk ∧ (s.startPatrol).timeBase = s.timeBase ∧ (s.startPatrol).cu = s.cu ∧
      (s.startPatrol).links = s.links ∧ (s.startPatrol).wa = s.wa ∧ (s.startPatrol).points = s.points ∧
      (s.startPatrol).tr = s.tr ∧ (s.startPatrol).pau = s.pau ∧ (s.startPatrol).ia = s.ia ∧
      (s.startPatrol).store = s.store ∧ (s.startPatrol).cm = s.cm ∧ (s.startPatrol).sm = s.sm ∧
      (s.startPatrol).mlc = s.mlc ∧ (s.startPatrol).pending = s.pending := by
  unfold State.startPatrol
  dsimp only
  refine ⟨?_, ?_, ?_, ?_, ?_, ?_, ?_, ?_, ?_, ?_, ?_, ?_, ?_, ?_, ?_, ?_, ?_⟩ <;> ((repeat' split) <;> simp)

@[simp] theorem State.startNext_frame (s : State) :
    (s.startNext).powered = s.powered ∧ (s.startNext).pfw = s.pfw ∧ (s.startNext).straps = s.straps ∧
      (s.startNext).tk = s.tk ∧ (s.startNext).timeBase = s.timeBase ∧ (s.startNext).cu = s.cu ∧
      (s.startNext).links = s.links ∧ (s.startNext).wa = s.wa ∧ (s.startNext).points = s.points ∧
      (s.startNext).tr = s.tr ∧ (s.startNext).pau = s.pau ∧ (s.startNext).ia = s.ia ∧
      (s.startNext).store = s.store ∧ (s.startNext).cm = s.cm ∧ (s.startNext).sm = s.sm ∧
      (s.startNext).mlc = s.mlc ∧ (s.startNext).pending = s.pending := by
  unfold State.startNext
  dsimp only
  refine ⟨?_, ?_, ?_, ?_, ?_, ?_, ?_, ?_, ?_, ?_, ?_, ?_, ?_, ?_, ?_, ?_, ?_⟩ <;> ((repeat' split) <;> simp)

@[simp] theorem State.settleFlight_frame (a : AccountId) (s : State) :
    (s.settleFlight a).powered = s.powered ∧ (s.settleFlight a).pfw = s.pfw ∧ (s.settleFlight a).straps = s.straps ∧
      (s.settleFlight a).tk = s.tk ∧ (s.settleFlight a).timeBase = s.timeBase ∧ (s.settleFlight a).cu = s.cu ∧
      (s.settleFlight a).links = s.links ∧ (s.settleFlight a).wa = s.wa ∧ (s.settleFlight a).points = s.points ∧
      (s.settleFlight a).tr = s.tr ∧ (s.settleFlight a).pau = s.pau ∧ (s.settleFlight a).store = s.store ∧
      (s.settleFlight a).rsc = s.rsc ∧ (s.settleFlight a).cm = s.cm ∧ (s.settleFlight a).sm = s.sm ∧
      (s.settleFlight a).mlc = s.mlc ∧ (s.settleFlight a).pending = s.pending := by
  unfold State.settleFlight
  dsimp only
  refine ⟨?_, ?_, ?_, ?_, ?_, ?_, ?_, ?_, ?_, ?_, ?_, ?_, ?_, ?_, ?_, ?_, ?_⟩ <;> ((repeat' split) <;> simp)

@[simp] theorem State.consume_frame (f : Consumption → Consumption) (s : State) :
    (s.consume f).powered = s.powered ∧ (s.consume f).pfw = s.pfw ∧ (s.consume f).straps = s.straps ∧
      (s.consume f).tk = s.tk ∧ (s.consume f).timeBase = s.timeBase ∧ (s.consume f).cu = s.cu ∧
      (s.consume f).links = s.links ∧ (s.consume f).wa = s.wa ∧ (s.consume f).points = s.points ∧
      (s.consume f).tr = s.tr ∧ (s.consume f).pau = s.pau ∧ (s.consume f).ia = s.ia ∧
      (s.consume f).store = s.store ∧ (s.consume f).cm = s.cm ∧ (s.consume f).sm = s.sm ∧
      (s.consume f).mlc = s.mlc ∧ (s.consume f).pending = s.pending := by
  unfold State.consume
  dsimp only
  refine ⟨?_, ?_, ?_, ?_, ?_, ?_, ?_, ?_, ?_, ?_, ?_, ?_, ?_, ?_, ?_, ?_, ?_⟩ <;> ((repeat' split) <;> simp)

@[simp] theorem State.nextAttempt_frame (j : Job) (n : Nat) (s : State) :
    (s.nextAttempt j n).powered = s.powered ∧ (s.nextAttempt j n).pfw = s.pfw ∧ (s.nextAttempt j n).straps = s.straps ∧
      (s.nextAttempt j n).tk = s.tk ∧ (s.nextAttempt j n).timeBase = s.timeBase ∧ (s.nextAttempt j n).cu = s.cu ∧
      (s.nextAttempt j n).links = s.links ∧ (s.nextAttempt j n).wa = s.wa ∧ (s.nextAttempt j n).points = s.points ∧
      (s.nextAttempt j n).tr = s.tr ∧ (s.nextAttempt j n).pau = s.pau ∧ (s.nextAttempt j n).ia = s.ia ∧
      (s.nextAttempt j n).store = s.store ∧ (s.nextAttempt j n).cm = s.cm ∧ (s.nextAttempt j n).sm = s.sm ∧
      (s.nextAttempt j n).mlc = s.mlc ∧ (s.nextAttempt j n).pending = s.pending := by
  unfold State.nextAttempt
  dsimp only
  refine ⟨?_, ?_, ?_, ?_, ?_, ?_, ?_, ?_, ?_, ?_, ?_, ?_, ?_, ?_, ?_, ?_, ?_⟩ <;> ((repeat' split) <;> simp)

@[simp] theorem State.verified_frame (j : Job) (s : State) :
    (s.verified j).powered = s.powered ∧ (s.verified j).pfw = s.pfw ∧ (s.verified j).straps = s.straps ∧
      (s.verified j).tk = s.tk ∧ (s.verified j).timeBase = s.timeBase ∧ (s.verified j).links = s.links ∧
      (s.verified j).points = s.points ∧ (s.verified j).tr = s.tr ∧ (s.verified j).pau = s.pau ∧
      (s.verified j).cm = s.cm ∧ (s.verified j).pending = s.pending := by
  unfold State.verified
  dsimp only
  refine ⟨?_, ?_, ?_, ?_, ?_, ?_, ?_, ?_, ?_, ?_, ?_⟩ <;> ((repeat' split) <;> simp)

@[simp] theorem State.slotFailed_frame (r : IntervalRecord) (n : Nat) (s : State) :
    (s.slotFailed r n).powered = s.powered ∧ (s.slotFailed r n).pfw = s.pfw ∧ (s.slotFailed r n).straps = s.straps ∧
      (s.slotFailed r n).tk = s.tk ∧ (s.slotFailed r n).timeBase = s.timeBase ∧ (s.slotFailed r n).links = s.links ∧
      (s.slotFailed r n).points = s.points ∧ (s.slotFailed r n).tr = s.tr ∧ (s.slotFailed r n).pau = s.pau ∧
      (s.slotFailed r n).ia = s.ia ∧ (s.slotFailed r n).store = s.store ∧ (s.slotFailed r n).cm = s.cm ∧
      (s.slotFailed r n).sm = s.sm ∧ (s.slotFailed r n).pending = s.pending := by
  unfold State.slotFailed
  dsimp only
  refine ⟨?_, ?_, ?_, ?_, ?_, ?_, ?_, ?_, ?_, ?_, ?_, ?_, ?_, ?_⟩ <;> ((repeat' split) <;> simp)

@[simp] theorem State.blockFailed_frame (c : RegContent) (s : State) :
    (s.blockFailed c).powered = s.powered ∧ (s.blockFailed c).pfw = s.pfw ∧ (s.blockFailed c).straps = s.straps ∧
      (s.blockFailed c).tk = s.tk ∧ (s.blockFailed c).timeBase = s.timeBase ∧ (s.blockFailed c).links = s.links ∧
      (s.blockFailed c).points = s.points ∧ (s.blockFailed c).tr = s.tr ∧ (s.blockFailed c).pau = s.pau ∧
      (s.blockFailed c).ia = s.ia ∧ (s.blockFailed c).store = s.store ∧ (s.blockFailed c).cm = s.cm ∧
      (s.blockFailed c).sm = s.sm ∧ (s.blockFailed c).pending = s.pending := by
  unfold State.blockFailed
  dsimp only
  refine ⟨?_, ?_, ?_, ?_, ?_, ?_, ?_, ?_, ?_, ?_, ?_, ?_, ?_, ?_⟩ <;> ((repeat' split) <;> simp)

@[simp] theorem State.saveWriteFailed_frame (b : SaveBlock) (s : State) :
    (s.saveWriteFailed b).powered = s.powered ∧ (s.saveWriteFailed b).pfw = s.pfw ∧ (s.saveWriteFailed b).straps = s.straps ∧
      (s.saveWriteFailed b).tk = s.tk ∧ (s.saveWriteFailed b).timeBase = s.timeBase ∧ (s.saveWriteFailed b).links = s.links ∧
      (s.saveWriteFailed b).points = s.points ∧ (s.saveWriteFailed b).tr = s.tr ∧ (s.saveWriteFailed b).pau = s.pau ∧
      (s.saveWriteFailed b).store = { s.store with save := none } ∧ (s.saveWriteFailed b).cm = s.cm ∧ (s.saveWriteFailed b).pending = s.pending := by
  unfold State.saveWriteFailed Store.tear
  dsimp only
  refine ⟨?_, ?_, ?_, ?_, ?_, ?_, ?_, ?_, ?_, ?_, ?_, ?_⟩ <;> ((repeat' split) <;> simp)

@[simp] theorem State.writeFailed_frame (j : Job) (s : State) :
    (s.writeFailed j).powered = s.powered ∧ (s.writeFailed j).pfw = s.pfw ∧ (s.writeFailed j).straps = s.straps ∧
      (s.writeFailed j).tk = s.tk ∧ (s.writeFailed j).timeBase = s.timeBase ∧ (s.writeFailed j).links = s.links ∧
      (s.writeFailed j).points = s.points ∧ (s.writeFailed j).tr = s.tr ∧ (s.writeFailed j).pau = s.pau ∧
      (s.writeFailed j).store = (match j with | .save _ => { s.store with save := none } | _ => s.store) ∧
      (s.writeFailed j).cm = s.cm ∧ (s.writeFailed j).pending = s.pending := by
  cases j <;> simp [State.writeFailed]

@[simp] theorem State.countRecordError_frame (s : State) :
    (s.countRecordError).powered = s.powered ∧ (s.countRecordError).pfw = s.pfw ∧ (s.countRecordError).straps = s.straps ∧
      (s.countRecordError).tk = s.tk ∧ (s.countRecordError).timeBase = s.timeBase ∧ (s.countRecordError).cu = s.cu ∧
      (s.countRecordError).links = s.links ∧ (s.countRecordError).wa = s.wa ∧ (s.countRecordError).points = s.points ∧
      (s.countRecordError).tr = s.tr ∧ (s.countRecordError).pau = s.pau ∧ (s.countRecordError).ia = s.ia ∧
      (s.countRecordError).store = s.store ∧ (s.countRecordError).cm = s.cm ∧ (s.countRecordError).sm = s.sm ∧
      (s.countRecordError).mlc = s.mlc ∧ (s.countRecordError).pending = s.pending := by
  unfold State.countRecordError
  refine ⟨?_, ?_, ?_, ?_, ?_, ?_, ?_, ?_, ?_, ?_, ?_, ?_, ?_, ?_, ?_, ?_, ?_⟩ <;> ((repeat' split) <;> simp)

@[simp] theorem State.spoil_frame (u : PatrolPos) (s : State) :
    (s.spoil u).powered = s.powered ∧ (s.spoil u).pfw = s.pfw ∧ (s.spoil u).straps = s.straps ∧
      (s.spoil u).tk = s.tk ∧ (s.spoil u).timeBase = s.timeBase ∧ (s.spoil u).cu = s.cu ∧
      (s.spoil u).links = s.links ∧ (s.spoil u).wa = s.wa ∧ (s.spoil u).points = s.points ∧
      (s.spoil u).tr = s.tr ∧ (s.spoil u).pau = s.pau ∧ (s.spoil u).ia = s.ia ∧
      (s.spoil u).rsc = s.rsc ∧ (s.spoil u).cm = s.cm ∧ (s.spoil u).sm = s.sm ∧
      (s.spoil u).mlc = s.mlc ∧ (s.spoil u).pending = s.pending := by
  unfold State.spoil
  refine ⟨?_, ?_, ?_, ?_, ?_, ?_, ?_, ?_, ?_, ?_, ?_, ?_, ?_, ?_, ?_, ?_, ?_⟩ <;> ((repeat' split) <;> simp)

@[simp] theorem State.repair_frame (u : PatrolPos) (s : State) :
    (s.repair u).powered = s.powered ∧ (s.repair u).pfw = s.pfw ∧ (s.repair u).straps = s.straps ∧
      (s.repair u).tk = s.tk ∧ (s.repair u).timeBase = s.timeBase ∧ (s.repair u).links = s.links ∧
      (s.repair u).wa = s.wa ∧ (s.repair u).points = s.points ∧ (s.repair u).tr = s.tr ∧
      (s.repair u).pau = s.pau ∧ (s.repair u).ia = s.ia ∧ (s.repair u).store = s.store ∧
      (s.repair u).cm = s.cm ∧ (s.repair u).sm = s.sm ∧ (s.repair u).mlc = s.mlc ∧
      (s.repair u).pending = s.pending := by
  unfold State.repair
  dsimp only
  refine ⟨?_, ?_, ?_, ?_, ?_, ?_, ?_, ?_, ?_, ?_, ?_, ?_, ?_, ?_, ?_, ?_⟩ <;> ((repeat' split) <;> simp)

@[simp] theorem State.stepEnds_frame (u : PatrolPos) (m : Bool) (s : State) :
    (s.stepEnds u m).powered = s.powered ∧ (s.stepEnds u m).pfw = s.pfw ∧ (s.stepEnds u m).straps = s.straps ∧
      (s.stepEnds u m).tk = s.tk ∧ (s.stepEnds u m).timeBase = s.timeBase ∧ (s.stepEnds u m).links = s.links ∧
      (s.stepEnds u m).wa = s.wa ∧ (s.stepEnds u m).points = s.points ∧ (s.stepEnds u m).tr = s.tr ∧
      (s.stepEnds u m).pau = s.pau ∧ (s.stepEnds u m).ia = s.ia ∧ (s.stepEnds u m).store = s.store ∧
      (s.stepEnds u m).cm = s.cm ∧ (s.stepEnds u m).sm = s.sm ∧ (s.stepEnds u m).mlc = s.mlc ∧
      (s.stepEnds u m).pending = s.pending := by
  unfold State.stepEnds
  dsimp only
  refine ⟨?_, ?_, ?_, ?_, ?_, ?_, ?_, ?_, ?_, ?_, ?_, ?_, ?_, ?_, ?_, ?_⟩ <;> ((repeat' split) <;> simp)

@[simp] theorem State.leaveUp_frame (l : LinkId) (s : State) :
    (s.leaveUp l).powered = s.powered ∧ (s.leaveUp l).pfw = s.pfw ∧ (s.leaveUp l).straps = s.straps ∧
      (s.leaveUp l).tk = s.tk ∧ (s.leaveUp l).timeBase = s.timeBase ∧ (s.leaveUp l).points = s.points ∧
      (s.leaveUp l).tr = s.tr ∧ (s.leaveUp l).pau = s.pau ∧ (s.leaveUp l).ia = s.ia ∧
      (s.leaveUp l).store = s.store ∧ (s.leaveUp l).rsc = s.rsc ∧ (s.leaveUp l).cm = s.cm ∧
      (s.leaveUp l).sm = s.sm ∧ (s.leaveUp l).mlc = s.mlc ∧ (s.leaveUp l).pending = s.pending := by
  unfold State.leaveUp
  dsimp only
  refine ⟨?_, ?_, ?_, ?_, ?_, ?_, ?_, ?_, ?_, ?_, ?_, ?_, ?_, ?_, ?_⟩ <;> ((repeat' split) <;> simp)

@[simp] theorem State.enterOffering_frame (l : LinkId) (c : Option OfferContent) (s : State) :
    (s.enterOffering l c).powered = s.powered ∧ (s.enterOffering l c).pfw = s.pfw ∧ (s.enterOffering l c).straps = s.straps ∧
      (s.enterOffering l c).tk = s.tk ∧ (s.enterOffering l c).timeBase = s.timeBase ∧ (s.enterOffering l c).cu = s.cu ∧
      (s.enterOffering l c).wa = s.wa ∧ (s.enterOffering l c).points = s.points ∧ (s.enterOffering l c).tr = s.tr ∧
      (s.enterOffering l c).pau = s.pau ∧ (s.enterOffering l c).ia = s.ia ∧ (s.enterOffering l c).store = s.store ∧
      (s.enterOffering l c).rsc = s.rsc ∧ (s.enterOffering l c).cm = s.cm ∧ (s.enterOffering l c).sm = s.sm ∧
      (s.enterOffering l c).mlc = s.mlc ∧ (s.enterOffering l c).pending = s.pending := by
  unfold State.enterOffering
  dsimp only
  refine ⟨?_, ?_, ?_, ?_, ?_, ?_, ?_, ?_, ?_, ?_, ?_, ?_, ?_, ?_, ?_, ?_, ?_⟩ <;> ((repeat' split) <;> simp)

@[simp] theorem State.toOffering_frame (l : LinkId) (c : Option OfferContent) (s : State) :
    (s.toOffering l c).powered = s.powered ∧ (s.toOffering l c).pfw = s.pfw ∧ (s.toOffering l c).straps = s.straps ∧
      (s.toOffering l c).tk = s.tk ∧ (s.toOffering l c).timeBase = s.timeBase ∧ (s.toOffering l c).points = s.points ∧
      (s.toOffering l c).tr = s.tr ∧ (s.toOffering l c).pau = s.pau ∧ (s.toOffering l c).ia = s.ia ∧
      (s.toOffering l c).store = s.store ∧ (s.toOffering l c).rsc = s.rsc ∧ (s.toOffering l c).cm = s.cm ∧
      (s.toOffering l c).sm = s.sm ∧ (s.toOffering l c).mlc = s.mlc ∧ (s.toOffering l c).pending = s.pending := by
  unfold State.toOffering
  refine ⟨?_, ?_, ?_, ?_, ?_, ?_, ?_, ?_, ?_, ?_, ?_, ?_, ?_, ?_, ?_⟩ <;> ((repeat' split) <;> simp)

@[simp] theorem State.enterDisabled_frame (l : LinkId) (s : State) :
    (s.enterDisabled l).powered = s.powered ∧ (s.enterDisabled l).pfw = s.pfw ∧ (s.enterDisabled l).straps = s.straps ∧
      (s.enterDisabled l).tk = s.tk ∧ (s.enterDisabled l).timeBase = s.timeBase ∧ (s.enterDisabled l).points = s.points ∧
      (s.enterDisabled l).tr = s.tr ∧ (s.enterDisabled l).pau = s.pau ∧ (s.enterDisabled l).ia = s.ia ∧
      (s.enterDisabled l).store = s.store ∧ (s.enterDisabled l).rsc = s.rsc ∧ (s.enterDisabled l).cm = s.cm ∧
      (s.enterDisabled l).sm = s.sm ∧ (s.enterDisabled l).mlc = s.mlc ∧ (s.enterDisabled l).pending = s.pending := by
  unfold State.enterDisabled
  refine ⟨?_, ?_, ?_, ?_, ?_, ?_, ?_, ?_, ?_, ?_, ?_, ?_, ?_, ?_, ?_⟩ <;> ((repeat' split) <;> simp)

@[simp] theorem State.enterBreaking_frame (l : LinkId) (s : State) :
    (s.enterBreaking l).powered = s.powered ∧ (s.enterBreaking l).pfw = s.pfw ∧ (s.enterBreaking l).straps = s.straps ∧
      (s.enterBreaking l).tk = s.tk ∧ (s.enterBreaking l).timeBase = s.timeBase ∧ (s.enterBreaking l).points = s.points ∧
      (s.enterBreaking l).tr = s.tr ∧ (s.enterBreaking l).pau = s.pau ∧ (s.enterBreaking l).ia = s.ia ∧
      (s.enterBreaking l).store = s.store ∧ (s.enterBreaking l).rsc = s.rsc ∧ (s.enterBreaking l).cm = s.cm ∧
      (s.enterBreaking l).sm = s.sm ∧ (s.enterBreaking l).mlc = s.mlc ∧ (s.enterBreaking l).pending = s.pending := by
  unfold State.enterBreaking
  dsimp only
  refine ⟨?_, ?_, ?_, ?_, ?_, ?_, ?_, ?_, ?_, ?_, ?_, ?_, ?_, ?_, ?_⟩ <;> ((repeat' split) <;> simp)

@[simp] theorem State.enterAcknowledging_frame (l : LinkId) (c : AcceptContent) (s : State) :
    (s.enterAcknowledging l c).powered = s.powered ∧ (s.enterAcknowledging l c).pfw = s.pfw ∧ (s.enterAcknowledging l c).straps = s.straps ∧
      (s.enterAcknowledging l c).tk = s.tk ∧ (s.enterAcknowledging l c).timeBase = s.timeBase ∧ (s.enterAcknowledging l c).cu = s.cu ∧
      (s.enterAcknowledging l c).wa = s.wa ∧ (s.enterAcknowledging l c).points = s.points ∧ (s.enterAcknowledging l c).tr = s.tr ∧
      (s.enterAcknowledging l c).pau = s.pau ∧ (s.enterAcknowledging l c).ia = s.ia ∧ (s.enterAcknowledging l c).store = s.store ∧
      (s.enterAcknowledging l c).rsc = s.rsc ∧ (s.enterAcknowledging l c).cm = s.cm ∧ (s.enterAcknowledging l c).sm = s.sm ∧
      (s.enterAcknowledging l c).mlc = s.mlc ∧ (s.enterAcknowledging l c).pending = s.pending := by
  unfold State.enterAcknowledging
  refine ⟨?_, ?_, ?_, ?_, ?_, ?_, ?_, ?_, ?_, ?_, ?_, ?_, ?_, ?_, ?_, ?_, ?_⟩ <;> ((repeat' split) <;> simp)

@[simp] theorem State.enterUp_frame (l : LinkId) (f : Bool) (c : AcceptContent) (o : Seq) (s : State) :
    (s.enterUp l f c o).powered = s.powered ∧ (s.enterUp l f c o).pfw = s.pfw ∧ (s.enterUp l f c o).straps = s.straps ∧
      (s.enterUp l f c o).tk = s.tk ∧ (s.enterUp l f c o).timeBase = s.timeBase ∧ (s.enterUp l f c o).wa = s.wa ∧
      (s.enterUp l f c o).points = s.points ∧ (s.enterUp l f c o).tr = s.tr ∧ (s.enterUp l f c o).pau = s.pau ∧
      (s.enterUp l f c o).ia = s.ia ∧ (s.enterUp l f c o).store = s.store ∧ (s.enterUp l f c o).rsc = s.rsc ∧
      (s.enterUp l f c o).cm = s.cm ∧ (s.enterUp l f c o).sm = s.sm ∧ (s.enterUp l f c o).mlc = s.mlc ∧
      (s.enterUp l f c o).pending = s.pending := by
  unfold State.enterUp
  refine ⟨?_, ?_, ?_, ?_, ?_, ?_, ?_, ?_, ?_, ?_, ?_, ?_, ?_, ?_, ?_, ?_⟩ <;> ((repeat' split) <;> simp)

@[simp] theorem State.badFrame_frame (f : LinkCounters → LinkCounters) (l : LinkId) (s : State) :
    (s.badFrame f l).powered = s.powered ∧ (s.badFrame f l).pfw = s.pfw ∧ (s.badFrame f l).straps = s.straps ∧
      (s.badFrame f l).tk = s.tk ∧ (s.badFrame f l).timeBase = s.timeBase ∧ (s.badFrame f l).cu = s.cu ∧
      (s.badFrame f l).wa = s.wa ∧ (s.badFrame f l).points = s.points ∧ (s.badFrame f l).tr = s.tr ∧
      (s.badFrame f l).pau = s.pau ∧ (s.badFrame f l).ia = s.ia ∧ (s.badFrame f l).store = s.store ∧
      (s.badFrame f l).rsc = s.rsc ∧ (s.badFrame f l).cm = s.cm ∧ (s.badFrame f l).sm = s.sm ∧
      (s.badFrame f l).mlc = s.mlc ∧ (s.badFrame f l).pending = s.pending := by
  unfold State.badFrame
  dsimp only
  refine ⟨?_, ?_, ?_, ?_, ?_, ?_, ?_, ?_, ?_, ?_, ?_, ?_, ?_, ?_, ?_, ?_, ?_⟩ <;> ((repeat' split) <;> simp)

@[simp] theorem State.goodFrame_frame (l : LinkId) (s : State) :
    (s.goodFrame l).powered = s.powered ∧ (s.goodFrame l).pfw = s.pfw ∧ (s.goodFrame l).straps = s.straps ∧
      (s.goodFrame l).tk = s.tk ∧ (s.goodFrame l).timeBase = s.timeBase ∧ (s.goodFrame l).cu = s.cu ∧
      (s.goodFrame l).wa = s.wa ∧ (s.goodFrame l).points = s.points ∧ (s.goodFrame l).tr = s.tr ∧
      (s.goodFrame l).pau = s.pau ∧ (s.goodFrame l).ia = s.ia ∧ (s.goodFrame l).store = s.store ∧
      (s.goodFrame l).rsc = s.rsc ∧ (s.goodFrame l).cm = s.cm ∧ (s.goodFrame l).sm = s.sm ∧
      (s.goodFrame l).mlc = s.mlc ∧ (s.goodFrame l).pending = s.pending := by
  unfold State.goodFrame
  dsimp only
  refine ⟨?_, ?_, ?_, ?_, ?_, ?_, ?_, ?_, ?_, ?_, ?_, ?_, ?_, ?_, ?_, ?_, ?_⟩ <;> ((repeat' split) <;> simp)

@[simp] theorem State.resolveOffer_frame (l : LinkId) (c : OfferContent) (s : State) :
    (s.resolveOffer l c).powered = s.powered ∧ (s.resolveOffer l c).pfw = s.pfw ∧ (s.resolveOffer l c).straps = s.straps ∧
      (s.resolveOffer l c).tk = s.tk ∧ (s.resolveOffer l c).timeBase = s.timeBase ∧ (s.resolveOffer l c).wa = s.wa ∧
      (s.resolveOffer l c).points = s.points ∧ (s.resolveOffer l c).tr = s.tr ∧ (s.resolveOffer l c).pau = s.pau ∧
      (s.resolveOffer l c).ia = s.ia ∧ (s.resolveOffer l c).store = s.store ∧ (s.resolveOffer l c).rsc = s.rsc ∧
      (s.resolveOffer l c).cm = s.cm ∧ (s.resolveOffer l c).sm = s.sm ∧ (s.resolveOffer l c).mlc = s.mlc ∧
      (s.resolveOffer l c).pending = s.pending := by
  unfold State.resolveOffer
  refine ⟨?_, ?_, ?_, ?_, ?_, ?_, ?_, ?_, ?_, ?_, ?_, ?_, ?_, ?_, ?_, ?_⟩ <;> ((repeat' split) <;> simp)

@[simp] theorem State.offerInOffering_frame (l : LinkId) (c : OfferContent) (s : State) :
    (s.offerInOffering l c).powered = s.powered ∧ (s.offerInOffering l c).pfw = s.pfw ∧ (s.offerInOffering l c).straps = s.straps ∧
      (s.offerInOffering l c).tk = s.tk ∧ (s.offerInOffering l c).timeBase = s.timeBase ∧ (s.offerInOffering l c).wa = s.wa ∧
      (s.offerInOffering l c).points = s.points ∧ (s.offerInOffering l c).tr = s.tr ∧ (s.offerInOffering l c).pau = s.pau ∧
      (s.offerInOffering l c).ia = s.ia ∧ (s.offerInOffering l c).store = s.store ∧ (s.offerInOffering l c).rsc = s.rsc ∧
      (s.offerInOffering l c).cm = s.cm ∧ (s.offerInOffering l c).sm = s.sm ∧ (s.offerInOffering l c).mlc = s.mlc ∧
      (s.offerInOffering l c).pending = s.pending := by
  unfold State.offerInOffering
  dsimp only
  refine ⟨?_, ?_, ?_, ?_, ?_, ?_, ?_, ?_, ?_, ?_, ?_, ?_, ?_, ?_, ?_, ?_⟩ <;> ((repeat' split) <;> simp)

@[simp] theorem State.acceptInAcknowledging_frame (l : LinkId) (c : AcceptContent) (s : State) :
    (s.acceptInAcknowledging l c).powered = s.powered ∧ (s.acceptInAcknowledging l c).pfw = s.pfw ∧ (s.acceptInAcknowledging l c).straps = s.straps ∧
      (s.acceptInAcknowledging l c).tk = s.tk ∧ (s.acceptInAcknowledging l c).timeBase = s.timeBase ∧ (s.acceptInAcknowledging l c).points = s.points ∧
      (s.acceptInAcknowledging l c).tr = s.tr ∧ (s.acceptInAcknowledging l c).pau = s.pau ∧ (s.acceptInAcknowledging l c).ia = s.ia ∧
      (s.acceptInAcknowledging l c).store = s.store ∧ (s.acceptInAcknowledging l c).rsc = s.rsc ∧ (s.acceptInAcknowledging l c).cm = s.cm ∧
      (s.acceptInAcknowledging l c).sm = s.sm ∧ (s.acceptInAcknowledging l c).mlc = s.mlc ∧ (s.acceptInAcknowledging l c).pending = s.pending := by
  unfold State.acceptInAcknowledging
  dsimp only
  refine ⟨?_, ?_, ?_, ?_, ?_, ?_, ?_, ?_, ?_, ?_, ?_, ?_, ?_, ?_, ?_⟩ <;> ((repeat' split) <;> simp)

@[simp] theorem State.acceptInUp_frame (l : LinkId) (f : Bool) (c : AcceptContent) (s : State) :
    (s.acceptInUp l f c).powered = s.powered ∧ (s.acceptInUp l f c).pfw = s.pfw ∧ (s.acceptInUp l f c).straps = s.straps ∧
      (s.acceptInUp l f c).tk = s.tk ∧ (s.acceptInUp l f c).timeBase = s.timeBase ∧ (s.acceptInUp l f c).points = s.points ∧
      (s.acceptInUp l f c).tr = s.tr ∧ (s.acceptInUp l f c).pau = s.pau ∧ (s.acceptInUp l f c).ia = s.ia ∧
      (s.acceptInUp l f c).store = s.store ∧ (s.acceptInUp l f c).rsc = s.rsc ∧ (s.acceptInUp l f c).cm = s.cm ∧
      (s.acceptInUp l f c).sm = s.sm ∧ (s.acceptInUp l f c).mlc = s.mlc ∧ (s.acceptInUp l f c).pending = s.pending := by
  unfold State.acceptInUp
  dsimp only
  refine ⟨?_, ?_, ?_, ?_, ?_, ?_, ?_, ?_, ?_, ?_, ?_, ?_, ?_, ?_, ?_⟩ <;> ((repeat' split) <;> simp)

@[simp] theorem State.bufferFrame_frame (l : LinkId) (q : Seq) (f : WindowFrame) (s : State) :
    (s.bufferFrame l q f).powered = s.powered ∧ (s.bufferFrame l q f).pfw = s.pfw ∧ (s.bufferFrame l q f).straps = s.straps ∧
      (s.bufferFrame l q f).tk = s.tk ∧ (s.bufferFrame l q f).timeBase = s.timeBase ∧ (s.bufferFrame l q f).cu = s.cu ∧
      (s.bufferFrame l q f).points = s.points ∧ (s.bufferFrame l q f).tr = s.tr ∧ (s.bufferFrame l q f).pau = s.pau ∧
      (s.bufferFrame l q f).ia = s.ia ∧ (s.bufferFrame l q f).store = s.store ∧ (s.bufferFrame l q f).rsc = s.rsc ∧
      (s.bufferFrame l q f).cm = s.cm ∧ (s.bufferFrame l q f).sm = s.sm ∧ (s.bufferFrame l q f).mlc = s.mlc ∧
      (s.bufferFrame l q f).pending = s.pending := by
  unfold State.bufferFrame
  dsimp only
  refine ⟨?_, ?_, ?_, ?_, ?_, ?_, ?_, ?_, ?_, ?_, ?_, ?_, ?_, ?_, ?_, ?_⟩ <;> ((repeat' split) <;> simp)

@[simp] theorem State.windowArrives_frame (l : LinkId) (f : WindowFrame) (s : State) :
    (s.windowArrives l f).powered = s.powered ∧ (s.windowArrives l f).pfw = s.pfw ∧ (s.windowArrives l f).straps = s.straps ∧
      (s.windowArrives l f).tk = s.tk ∧ (s.windowArrives l f).timeBase = s.timeBase ∧ (s.windowArrives l f).points = s.points ∧
      (s.windowArrives l f).tr = s.tr ∧ (s.windowArrives l f).pau = s.pau ∧ (s.windowArrives l f).ia = s.ia ∧
      (s.windowArrives l f).store = s.store ∧ (s.windowArrives l f).rsc = s.rsc ∧ (s.windowArrives l f).cm = s.cm ∧
      (s.windowArrives l f).sm = s.sm ∧ (s.windowArrives l f).mlc = s.mlc ∧ (s.windowArrives l f).pending = s.pending := by
  unfold State.windowArrives
  dsimp only
  refine ⟨?_, ?_, ?_, ?_, ?_, ?_, ?_, ?_, ?_, ?_, ?_, ?_, ?_, ?_, ?_⟩ <;> ((repeat' split) <;> simp)

@[simp] theorem State.windowInOffering_frame (l : LinkId) (f : WindowFrame) (s : State) :
    (s.windowInOffering l f).powered = s.powered ∧ (s.windowInOffering l f).pfw = s.pfw ∧ (s.windowInOffering l f).straps = s.straps ∧
      (s.windowInOffering l f).tk = s.tk ∧ (s.windowInOffering l f).timeBase = s.timeBase ∧ (s.windowInOffering l f).points = s.points ∧
      (s.windowInOffering l f).tr = s.tr ∧ (s.windowInOffering l f).pau = s.pau ∧ (s.windowInOffering l f).ia = s.ia ∧
      (s.windowInOffering l f).store = s.store ∧ (s.windowInOffering l f).rsc = s.rsc ∧ (s.windowInOffering l f).cm = s.cm ∧
      (s.windowInOffering l f).sm = s.sm ∧ (s.windowInOffering l f).mlc = s.mlc ∧ (s.windowInOffering l f).pending = s.pending := by
  unfold State.windowInOffering
  dsimp only
  refine ⟨?_, ?_, ?_, ?_, ?_, ?_, ?_, ?_, ?_, ?_, ?_, ?_, ?_, ?_, ?_⟩ <;> ((repeat' split) <;> simp)

@[simp] theorem State.storePoints_frame (v : Vector PointStored 16) (s : State) :
    (s.storePoints v).powered = s.powered ∧ (s.storePoints v).pfw = s.pfw ∧ (s.storePoints v).straps = s.straps ∧
      (s.storePoints v).tk = s.tk ∧ (s.storePoints v).timeBase = s.timeBase ∧ (s.storePoints v).cu = s.cu ∧
      (s.storePoints v).links = s.links ∧ (s.storePoints v).wa = s.wa ∧ (s.storePoints v).points = s.points ∧
      (s.storePoints v).tr = s.tr ∧ (s.storePoints v).pau = s.pau ∧ (s.storePoints v).ia = s.ia ∧
      (s.storePoints v).store = s.store ∧ (s.storePoints v).sm = s.sm ∧ (s.storePoints v).mlc = s.mlc ∧
      (s.storePoints v).pending = s.pending := by
  unfold State.storePoints
  refine ⟨?_, ?_, ?_, ?_, ?_, ?_, ?_, ?_, ?_, ?_, ?_, ?_, ?_, ?_, ?_, ?_⟩ <;> ((repeat' split) <;> simp)

@[simp] theorem State.storeMode_frame (p : PointId) (s : State) :
    (s.storeMode p).powered = s.powered ∧ (s.storeMode p).pfw = s.pfw ∧ (s.storeMode p).straps = s.straps ∧
      (s.storeMode p).tk = s.tk ∧ (s.storeMode p).timeBase = s.timeBase ∧ (s.storeMode p).cu = s.cu ∧
      (s.storeMode p).links = s.links ∧ (s.storeMode p).wa = s.wa ∧ (s.storeMode p).points = s.points ∧
      (s.storeMode p).tr = s.tr ∧ (s.storeMode p).pau = s.pau ∧ (s.storeMode p).ia = s.ia ∧
      (s.storeMode p).store = s.store ∧ (s.storeMode p).sm = s.sm ∧ (s.storeMode p).mlc = s.mlc ∧
      (s.storeMode p).pending = s.pending := by
  unfold State.storeMode
  dsimp only
  refine ⟨?_, ?_, ?_, ?_, ?_, ?_, ?_, ?_, ?_, ?_, ?_, ?_, ?_, ?_, ?_, ?_⟩ <;> ((repeat' split) <;> simp)

@[simp] theorem State.enterShadow_frame (p : PointId) (s : State) :
    (s.enterShadow p).powered = s.powered ∧ (s.enterShadow p).pfw = s.pfw ∧ (s.enterShadow p).straps = s.straps ∧
      (s.enterShadow p).tk = s.tk ∧ (s.enterShadow p).timeBase = s.timeBase ∧ (s.enterShadow p).links = s.links ∧
      (s.enterShadow p).wa = s.wa ∧ (s.enterShadow p).tr = s.tr ∧ (s.enterShadow p).pau = s.pau ∧
      (s.enterShadow p).ia = s.ia ∧ (s.enterShadow p).store = s.store ∧ (s.enterShadow p).rsc = s.rsc ∧
      (s.enterShadow p).cm = s.cm ∧ (s.enterShadow p).sm = s.sm ∧ (s.enterShadow p).mlc = s.mlc ∧
      (s.enterShadow p).pending = s.pending := by
  unfold State.enterShadow
  refine ⟨?_, ?_, ?_, ?_, ?_, ?_, ?_, ?_, ?_, ?_, ?_, ?_, ?_, ?_, ?_, ?_⟩ <;> ((repeat' split) <;> simp)

@[simp] theorem State.toDirect_frame (p : PointId) (s : State) :
    (s.toDirect p).powered = s.powered ∧ (s.toDirect p).pfw = s.pfw ∧ (s.toDirect p).straps = s.straps ∧
      (s.toDirect p).tk = s.tk ∧ (s.toDirect p).timeBase = s.timeBase ∧ (s.toDirect p).links = s.links ∧
      (s.toDirect p).wa = s.wa ∧ (s.toDirect p).tr = s.tr ∧ (s.toDirect p).pau = s.pau ∧
      (s.toDirect p).ia = s.ia ∧ (s.toDirect p).store = s.store ∧ (s.toDirect p).sm = s.sm ∧
      (s.toDirect p).mlc = s.mlc ∧ (s.toDirect p).pending = s.pending := by
  unfold State.toDirect
  refine ⟨?_, ?_, ?_, ?_, ?_, ?_, ?_, ?_, ?_, ?_, ?_, ?_, ?_, ?_⟩ <;> ((repeat' split) <;> simp)

@[simp] theorem State.adjustPoint_frame (p : PointId) (a b : PointEntry) (s : State) :
    (s.adjustPoint p a b).powered = s.powered ∧ (s.adjustPoint p a b).pfw = s.pfw ∧ (s.adjustPoint p a b).straps = s.straps ∧
      (s.adjustPoint p a b).tk = s.tk ∧ (s.adjustPoint p a b).timeBase = s.timeBase ∧ (s.adjustPoint p a b).links = s.links ∧
      (s.adjustPoint p a b).wa = s.wa ∧ (s.adjustPoint p a b).tr = s.tr ∧ (s.adjustPoint p a b).pau = s.pau ∧
      (s.adjustPoint p a b).ia = s.ia ∧ (s.adjustPoint p a b).store = s.store ∧ (s.adjustPoint p a b).sm = s.sm ∧
      (s.adjustPoint p a b).mlc = s.mlc ∧ (s.adjustPoint p a b).pending = s.pending := by
  unfold State.adjustPoint
  dsimp only
  refine ⟨?_, ?_, ?_, ?_, ?_, ?_, ?_, ?_, ?_, ?_, ?_, ?_, ?_, ?_⟩ <;> ((repeat' split) <;> simp)

@[simp] theorem State.healthChanged_frame (s : State) :
    (s.healthChanged).powered = s.powered ∧ (s.healthChanged).pfw = s.pfw ∧ (s.healthChanged).straps = s.straps ∧
      (s.healthChanged).tk = s.tk ∧ (s.healthChanged).timeBase = s.timeBase ∧ (s.healthChanged).links = s.links ∧
      (s.healthChanged).wa = s.wa ∧ (s.healthChanged).tr = s.tr ∧ (s.healthChanged).pau = s.pau ∧
      (s.healthChanged).ia = s.ia ∧ (s.healthChanged).store = s.store ∧ (s.healthChanged).sm = s.sm ∧
      (s.healthChanged).mlc = s.mlc ∧ (s.healthChanged).pending = s.pending := by
  unfold State.healthChanged
  dsimp only
  refine ⟨?_, ?_, ?_, ?_, ?_, ?_, ?_, ?_, ?_, ?_, ?_, ?_, ?_, ?_⟩ <;> ((repeat' split) <;> simp)

@[simp] theorem State.settlePoints_frame (w : Window) (d : Vector Direct 16) (s : State) :
    (s.settlePoints w d).powered = s.powered ∧ (s.settlePoints w d).pfw = s.pfw ∧ (s.settlePoints w d).straps = s.straps ∧
      (s.settlePoints w d).tk = s.tk ∧ (s.settlePoints w d).timeBase = s.timeBase ∧ (s.settlePoints w d).links = s.links ∧
      (s.settlePoints w d).wa = s.wa ∧ (s.settlePoints w d).tr = s.tr ∧ (s.settlePoints w d).pau = s.pau ∧
      (s.settlePoints w d).ia = s.ia ∧ (s.settlePoints w d).store = s.store ∧ (s.settlePoints w d).sm = s.sm ∧
      (s.settlePoints w d).mlc = s.mlc ∧ (s.settlePoints w d).pending = s.pending := by
  unfold State.settlePoints
  dsimp only
  refine ⟨?_, ?_, ?_, ?_, ?_, ?_, ?_, ?_, ?_, ?_, ?_, ?_, ?_, ?_⟩ <;> ((repeat' split) <;> simp)

@[simp] theorem State.resolveTopology_frame (w : Window) (s : State) :
    (s.resolveTopology w).powered = s.powered ∧ (s.resolveTopology w).pfw = s.pfw ∧ (s.resolveTopology w).straps = s.straps ∧
      (s.resolveTopology w).tk = s.tk ∧ (s.resolveTopology w).timeBase = s.timeBase ∧ (s.resolveTopology w).links = s.links ∧
      (s.resolveTopology w).wa = s.wa ∧ (s.resolveTopology w).points = s.points ∧ (s.resolveTopology w).pau = s.pau ∧
      (s.resolveTopology w).ia = s.ia ∧ (s.resolveTopology w).store = s.store ∧ (s.resolveTopology w).rsc = s.rsc ∧
      (s.resolveTopology w).cm = s.cm ∧ (s.resolveTopology w).sm = s.sm ∧ (s.resolveTopology w).mlc = s.mlc ∧
      (s.resolveTopology w).pending = s.pending := by
  unfold State.resolveTopology
  dsimp only
  refine ⟨?_, ?_, ?_, ?_, ?_, ?_, ?_, ?_, ?_, ?_, ?_, ?_, ?_, ?_, ?_, ?_⟩ <;> ((repeat' split) <;> simp)

@[simp] theorem State.breakersChanged_frame (t : BreakersTable) (s : State) :
    (s.breakersChanged t).powered = s.powered ∧ (s.breakersChanged t).pfw = s.pfw ∧ (s.breakersChanged t).straps = s.straps ∧
      (s.breakersChanged t).tk = s.tk ∧ (s.breakersChanged t).timeBase = s.timeBase ∧ (s.breakersChanged t).links = s.links ∧
      (s.breakersChanged t).wa = s.wa ∧ (s.breakersChanged t).points = s.points ∧ (s.breakersChanged t).pau = s.pau ∧
      (s.breakersChanged t).ia = s.ia ∧ (s.breakersChanged t).store = s.store ∧ (s.breakersChanged t).rsc = s.rsc ∧
      (s.breakersChanged t).cm = s.cm ∧ (s.breakersChanged t).sm = s.sm ∧ (s.breakersChanged t).mlc = s.mlc ∧
      (s.breakersChanged t).pending = s.pending := by
  unfold State.breakersChanged
  dsimp only
  refine ⟨?_, ?_, ?_, ?_, ?_, ?_, ?_, ?_, ?_, ?_, ?_, ?_, ?_, ?_, ?_, ?_⟩ <;> ((repeat' split) <;> simp)

@[simp] theorem State.reportTake_frame (q : Seq) (l : LinkId) (s : State) :
    (s.reportTake q l).powered = s.powered ∧ (s.reportTake q l).pfw = s.pfw ∧ (s.reportTake q l).straps = s.straps ∧
      (s.reportTake q l).tk = s.tk ∧ (s.reportTake q l).timeBase = s.timeBase ∧ (s.reportTake q l).points = s.points ∧
      (s.reportTake q l).tr = s.tr ∧ (s.reportTake q l).pau = s.pau ∧ (s.reportTake q l).ia = s.ia ∧
      (s.reportTake q l).store = s.store ∧ (s.reportTake q l).rsc = s.rsc ∧ (s.reportTake q l).cm = s.cm ∧
      (s.reportTake q l).sm = s.sm ∧ (s.reportTake q l).mlc = s.mlc ∧ (s.reportTake q l).pending = s.pending := by
  unfold State.reportTake
  dsimp only
  refine ⟨?_, ?_, ?_, ?_, ?_, ?_, ?_, ?_, ?_, ?_, ?_, ?_, ?_, ?_, ?_⟩ <;> ((repeat' split) <;> simp)

@[simp] theorem State.reportTakes_frame (q : Seq) (l : List LinkId) (s : State) :
    (s.reportTakes q l).powered = s.powered ∧ (s.reportTakes q l).pfw = s.pfw ∧ (s.reportTakes q l).straps = s.straps ∧
      (s.reportTakes q l).tk = s.tk ∧ (s.reportTakes q l).timeBase = s.timeBase ∧ (s.reportTakes q l).points = s.points ∧
      (s.reportTakes q l).tr = s.tr ∧ (s.reportTakes q l).pau = s.pau ∧ (s.reportTakes q l).ia = s.ia ∧
      (s.reportTakes q l).store = s.store ∧ (s.reportTakes q l).rsc = s.rsc ∧ (s.reportTakes q l).cm = s.cm ∧
      (s.reportTakes q l).sm = s.sm ∧ (s.reportTakes q l).mlc = s.mlc ∧ (s.reportTakes q l).pending = s.pending := by
  induction l generalizing s with
  | nil => simp [State.reportTakes]
  | cons x rest ih => simp [State.reportTakes, ih]

@[simp] theorem State.process_frame (w : Window) (s : State) :
    (s.process w).powered = s.powered ∧ (s.process w).pfw = s.pfw ∧ (s.process w).straps = s.straps ∧
      (s.process w).tk = s.tk ∧ (s.process w).timeBase = s.timeBase ∧ (s.process w).links = s.links ∧
      (s.process w).ia = s.ia ∧ (s.process w).store = s.store ∧ (s.process w).sm = s.sm ∧
      (s.process w).mlc = s.mlc ∧ (s.process w).pending = s.pending := by
  unfold State.process
  dsimp only
  refine ⟨?_, ?_, ?_, ?_, ?_, ?_, ?_, ?_, ?_, ?_, ?_⟩ <;> ((repeat' split) <;> simp)

@[simp] theorem State.applyResults_frame (p : Processing) (s : State) :
    (s.applyResults p).powered = s.powered ∧ (s.applyResults p).pfw = s.pfw ∧ (s.applyResults p).straps = s.straps ∧
      (s.applyResults p).tk = s.tk ∧ (s.applyResults p).timeBase = s.timeBase ∧ (s.applyResults p).cu = s.cu ∧
      (s.applyResults p).links = s.links ∧ (s.applyResults p).wa = s.wa ∧ (s.applyResults p).points = s.points ∧
      (s.applyResults p).tr = s.tr ∧ (s.applyResults p).pau = s.pau ∧ (s.applyResults p).store = s.store ∧
      (s.applyResults p).rsc = s.rsc ∧ (s.applyResults p).cm = s.cm ∧ (s.applyResults p).sm = s.sm ∧
      (s.applyResults p).mlc = s.mlc ∧ (s.applyResults p).pending = s.pending := by
  unfold State.applyResults
  refine ⟨?_, ?_, ?_, ?_, ?_, ?_, ?_, ?_, ?_, ?_, ?_, ?_, ?_, ?_, ?_, ?_, ?_⟩ <;> ((repeat' split) <;> simp)

@[simp] theorem State.applyProcessing_frame (s : State) :
    (s.applyProcessing).powered = s.powered ∧ (s.applyProcessing).pfw = s.pfw ∧ (s.applyProcessing).straps = s.straps ∧
      (s.applyProcessing).tk = s.tk ∧ (s.applyProcessing).timeBase = s.timeBase ∧ (s.applyProcessing).cu = s.cu ∧
      (s.applyProcessing).links = s.links ∧ (s.applyProcessing).points = s.points ∧ (s.applyProcessing).tr = s.tr ∧
      (s.applyProcessing).pau = s.pau ∧ (s.applyProcessing).store = s.store ∧ (s.applyProcessing).rsc = s.rsc ∧
      (s.applyProcessing).cm = s.cm ∧ (s.applyProcessing).sm = s.sm ∧ (s.applyProcessing).mlc = s.mlc ∧
      (s.applyProcessing).pending = s.pending := by
  unfold State.applyProcessing
  refine ⟨?_, ?_, ?_, ?_, ?_, ?_, ?_, ?_, ?_, ?_, ?_, ?_, ?_, ?_, ?_, ?_⟩ <;> ((repeat' split) <;> simp)

@[simp] theorem State.linksChanged_frame (l : LinkId) (a b : LinkEntry) (s : State) :
    (s.linksChanged l a b).powered = s.powered ∧ (s.linksChanged l a b).pfw = s.pfw ∧ (s.linksChanged l a b).straps = s.straps ∧
      (s.linksChanged l a b).tk = s.tk ∧ (s.linksChanged l a b).timeBase = s.timeBase ∧ (s.linksChanged l a b).points = s.points ∧
      (s.linksChanged l a b).tr = s.tr ∧ (s.linksChanged l a b).pau = s.pau ∧ (s.linksChanged l a b).ia = s.ia ∧
      (s.linksChanged l a b).store = s.store ∧ (s.linksChanged l a b).rsc = s.rsc ∧ (s.linksChanged l a b).cm = s.cm ∧
      (s.linksChanged l a b).sm = s.sm ∧ (s.linksChanged l a b).mlc = s.mlc ∧ (s.linksChanged l a b).pending = s.pending := by
  unfold State.linksChanged
  refine ⟨?_, ?_, ?_, ?_, ?_, ?_, ?_, ?_, ?_, ?_, ?_, ?_, ?_, ?_, ?_⟩ <;> ((repeat' split) <;> simp)

@[simp] theorem State.adjust_frame (t : Tables) (p : TablePart) (s : State) :
    (s.adjust t p).powered = s.powered ∧ (s.adjust t p).pfw = s.pfw ∧ (s.adjust t p).straps = s.straps ∧
      (s.adjust t p).tk = s.tk ∧ (s.adjust t p).timeBase = s.timeBase ∧ (s.adjust t p).pau = s.pau ∧
      (s.adjust t p).store = s.store ∧ (s.adjust t p).sm = s.sm ∧ (s.adjust t p).mlc = s.mlc ∧
      (s.adjust t p).pending = s.pending := by
  unfold State.adjust
  refine ⟨?_, ?_, ?_, ?_, ?_, ?_, ?_, ?_, ?_, ?_⟩ <;> ((repeat' split) <;> simp)

@[simp] theorem State.applyTable_frame (p : TablePart) (s : State) :
    (s.applyTable p).powered = s.powered ∧ (s.applyTable p).pfw = s.pfw ∧ (s.applyTable p).straps = s.straps ∧
      (s.applyTable p).tk = s.tk ∧ (s.applyTable p).timeBase = s.timeBase ∧ (s.applyTable p).pau = s.pau ∧
      (s.applyTable p).store = s.store ∧ (s.applyTable p).sm = s.sm ∧ (s.applyTable p).mlc = s.mlc ∧
      (s.applyTable p).pending = s.pending := by
  unfold State.applyTable
  dsimp only
  refine ⟨?_, ?_, ?_, ?_, ?_, ?_, ?_, ?_, ?_, ?_⟩ <;> ((repeat' split) <;> simp)

@[simp] theorem State.openAll_frame (l : List AccountId) (s : State) :
    (s.openAll l).powered = s.powered ∧ (s.openAll l).pfw = s.pfw ∧ (s.openAll l).straps = s.straps ∧
      (s.openAll l).tk = s.tk ∧ (s.openAll l).timeBase = s.timeBase ∧ (s.openAll l).cu = s.cu ∧
      (s.openAll l).links = s.links ∧ (s.openAll l).wa = s.wa ∧ (s.openAll l).points = s.points ∧
      (s.openAll l).tr = s.tr ∧ (s.openAll l).pau = s.pau ∧ (s.openAll l).store = s.store ∧
      (s.openAll l).rsc = s.rsc ∧ (s.openAll l).cm = s.cm ∧ (s.openAll l).sm = s.sm ∧
      (s.openAll l).mlc = s.mlc ∧ (s.openAll l).pending = s.pending := by
  induction l generalizing s with
  | nil => simp [State.openAll]
  | cons x rest ih => simp [State.openAll, ih]

@[simp] theorem State.setMode_frame (m : DeviceMode) (s : State) :
    (s.setMode m).powered = s.powered ∧ (s.setMode m).pfw = s.pfw ∧ (s.setMode m).straps = s.straps ∧
      (s.setMode m).tk = s.tk ∧ (s.setMode m).timeBase = s.timeBase ∧ (s.setMode m).cu = s.cu ∧
      (s.setMode m).links = s.links ∧ (s.setMode m).wa = s.wa ∧ (s.setMode m).points = s.points ∧
      (s.setMode m).tr = s.tr ∧ (s.setMode m).pau = s.pau ∧ (s.setMode m).ia = s.ia ∧
      (s.setMode m).store = s.store ∧ (s.setMode m).sm = s.sm ∧ (s.setMode m).mlc = s.mlc ∧
      (s.setMode m).pending = s.pending := by
  unfold State.setMode
  refine ⟨?_, ?_, ?_, ?_, ?_, ?_, ?_, ?_, ?_, ?_, ?_, ?_, ?_, ?_, ?_, ?_⟩ <;> ((repeat' split) <;> simp)

@[simp] theorem State.applyMode_frame (m : DeviceMode) (s : State) :
    (s.applyMode m).powered = s.powered ∧ (s.applyMode m).pfw = s.pfw ∧ (s.applyMode m).straps = s.straps ∧
      (s.applyMode m).tk = s.tk ∧ (s.applyMode m).timeBase = s.timeBase ∧ (s.applyMode m).links = s.links ∧
      (s.applyMode m).wa = s.wa ∧ (s.applyMode m).points = s.points ∧ (s.applyMode m).tr = s.tr ∧
      (s.applyMode m).pau = s.pau ∧ (s.applyMode m).store = s.store ∧ (s.applyMode m).sm = s.sm ∧
      (s.applyMode m).mlc = s.mlc ∧ (s.applyMode m).pending = s.pending := by
  unfold State.applyMode
  refine ⟨?_, ?_, ?_, ?_, ?_, ?_, ?_, ?_, ?_, ?_, ?_, ?_, ?_, ?_⟩ <;> ((repeat' split) <;> simp)

@[simp] theorem State.applyPreset_frame (a : AccountId) (v : Vector Nat 25) (s : State) :
    (s.applyPreset a v).powered = s.powered ∧ (s.applyPreset a v).pfw = s.pfw ∧ (s.applyPreset a v).straps = s.straps ∧
      (s.applyPreset a v).tk = s.tk ∧ (s.applyPreset a v).timeBase = s.timeBase ∧ (s.applyPreset a v).links = s.links ∧
      (s.applyPreset a v).wa = s.wa ∧ (s.applyPreset a v).points = s.points ∧ (s.applyPreset a v).tr = s.tr ∧
      (s.applyPreset a v).pau = s.pau ∧ (s.applyPreset a v).store = s.store ∧ (s.applyPreset a v).cm = s.cm ∧
      (s.applyPreset a v).sm = s.sm ∧ (s.applyPreset a v).mlc = s.mlc ∧ (s.applyPreset a v).pending = s.pending := by
  unfold State.applyPreset
  refine ⟨?_, ?_, ?_, ?_, ?_, ?_, ?_, ?_, ?_, ?_, ?_, ?_, ?_, ?_, ?_⟩ <;> ((repeat' split) <;> simp)

@[simp] theorem State.applyErase_frame (s : State) :
    (s.applyErase).powered = s.powered ∧ (s.applyErase).pfw = s.pfw ∧ (s.applyErase).straps = s.straps ∧
      (s.applyErase).tk = s.tk ∧ (s.applyErase).timeBase = s.timeBase ∧ (s.applyErase).links = s.links ∧
      (s.applyErase).wa = s.wa ∧ (s.applyErase).points = s.points ∧ (s.applyErase).tr = s.tr ∧
      (s.applyErase).pau = s.pau ∧ (s.applyErase).store = s.store ∧ (s.applyErase).sm = s.sm ∧
      (s.applyErase).mlc = s.mlc ∧ (s.applyErase).pending = s.pending := by
  unfold State.applyErase
  dsimp only
  refine ⟨?_, ?_, ?_, ?_, ?_, ?_, ?_, ?_, ?_, ?_, ?_, ?_, ?_, ?_⟩ <;> ((repeat' split) <;> simp)

@[simp] theorem State.applyChange_frame (c : Change) (s : State) :
    (s.applyChange c).powered = s.powered ∧ (s.applyChange c).pfw = s.pfw ∧ (s.applyChange c).straps = s.straps ∧
      (s.applyChange c).tk = s.tk ∧ (s.applyChange c).timeBase = s.timeBase ∧ (s.applyChange c).pau = s.pau ∧
      (s.applyChange c).store = s.store ∧ (s.applyChange c).sm = s.sm ∧ (s.applyChange c).mlc = s.mlc ∧
      (s.applyChange c).pending = s.pending := by
  unfold State.applyChange
  refine ⟨?_, ?_, ?_, ?_, ?_, ?_, ?_, ?_, ?_, ?_⟩ <;> ((repeat' split) <;> simp)

@[simp] theorem State.stopWalk_frame (e : ChangeEntry) (r : StopReason) (s : State) :
    (s.stopWalk e r).powered = s.powered ∧ (s.stopWalk e r).pfw = s.pfw ∧ (s.stopWalk e r).straps = s.straps ∧
      (s.stopWalk e r).tk = s.tk ∧ (s.stopWalk e r).timeBase = s.timeBase ∧ (s.stopWalk e r).cu = s.cu ∧
      (s.stopWalk e r).links = s.links ∧ (s.stopWalk e r).wa = s.wa ∧ (s.stopWalk e r).points = s.points ∧
      (s.stopWalk e r).tr = s.tr ∧ (s.stopWalk e r).pau = s.pau ∧ (s.stopWalk e r).ia = s.ia ∧
      (s.stopWalk e r).store = s.store ∧ (s.stopWalk e r).rsc = s.rsc ∧ (s.stopWalk e r).sm = s.sm ∧
      (s.stopWalk e r).mlc = s.mlc ∧ (s.stopWalk e r).pending = s.pending := by
  unfold State.stopWalk
  refine ⟨?_, ?_, ?_, ?_, ?_, ?_, ?_, ?_, ?_, ?_, ?_, ?_, ?_, ?_, ?_, ?_, ?_⟩ <;> ((repeat' split) <;> simp)

@[simp] theorem State.walkOn_frame (l : List ChangeEntry) (s : State) :
    (s.walkOn l).powered = s.powered ∧ (s.walkOn l).pfw = s.pfw ∧ (s.walkOn l).straps = s.straps ∧
      (s.walkOn l).tk = s.tk ∧ (s.walkOn l).timeBase = s.timeBase ∧ (s.walkOn l).cu = s.cu ∧
      (s.walkOn l).links = s.links ∧ (s.walkOn l).wa = s.wa ∧ (s.walkOn l).points = s.points ∧
      (s.walkOn l).tr = s.tr ∧ (s.walkOn l).pau = s.pau ∧ (s.walkOn l).ia = s.ia ∧
      (s.walkOn l).store = s.store ∧ (s.walkOn l).rsc = s.rsc ∧ (s.walkOn l).sm = s.sm ∧
      (s.walkOn l).mlc = s.mlc ∧ (s.walkOn l).pending = s.pending := by
  cases l <;> simp [State.walkOn]

@[simp] theorem State.walk_frame (s : State) :
    (s.walk).powered = s.powered ∧ (s.walk).pfw = s.pfw ∧ (s.walk).straps = s.straps ∧
      (s.walk).tk = s.tk ∧ (s.walk).timeBase = s.timeBase ∧ (s.walk).pau = s.pau ∧
      (s.walk).store = s.store ∧ (s.walk).sm = s.sm ∧ (s.walk).pending = s.pending := by
  unfold State.walk
  dsimp only
  split
  · simp
  · split <;> simp

@[simp] theorem State.writeDefaults_frame (l : List TableId) (s : State) :
    (s.writeDefaults l).powered = s.powered ∧ (s.writeDefaults l).pfw = s.pfw ∧ (s.writeDefaults l).straps = s.straps ∧
      (s.writeDefaults l).tk = s.tk ∧ (s.writeDefaults l).timeBase = s.timeBase ∧ (s.writeDefaults l).links = s.links ∧
      (s.writeDefaults l).wa = s.wa ∧ (s.writeDefaults l).points = s.points ∧ (s.writeDefaults l).tr = s.tr ∧
      (s.writeDefaults l).pau = s.pau ∧ (s.writeDefaults l).ia = s.ia ∧ (s.writeDefaults l).store = s.store ∧
      (s.writeDefaults l).cm = s.cm ∧ (s.writeDefaults l).sm = s.sm ∧ (s.writeDefaults l).mlc = s.mlc ∧
      (s.writeDefaults l).pending = s.pending := by
  induction l generalizing s with
  | nil => simp [State.writeDefaults]
  | cons x rest ih => simp [State.writeDefaults, ih]

@[simp] theorem State.loadConfig_frame (s : State) :
    (s.loadConfig).powered = s.powered ∧ (s.loadConfig).pfw = s.pfw ∧ (s.loadConfig).straps = s.straps ∧
      (s.loadConfig).tk = s.tk ∧ (s.loadConfig).timeBase = s.timeBase ∧ (s.loadConfig).links = s.links ∧
      (s.loadConfig).wa = s.wa ∧ (s.loadConfig).tr = s.tr ∧ (s.loadConfig).pau = s.pau ∧
      (s.loadConfig).ia = s.ia ∧ (s.loadConfig).store = s.store ∧ (s.loadConfig).sm = s.sm ∧
      (s.loadConfig).mlc = s.mlc ∧ (s.loadConfig).pending = s.pending := by
  unfold State.loadConfig
  dsimp only
  refine ⟨?_, ?_, ?_, ?_, ?_, ?_, ?_, ?_, ?_, ?_, ?_, ?_, ?_, ?_⟩ <;> ((repeat' split) <;> simp)

@[simp] theorem State.writeBlocks_frame (l : List RegContent) (s : State) :
    (s.writeBlocks l).powered = s.powered ∧ (s.writeBlocks l).pfw = s.pfw ∧ (s.writeBlocks l).straps = s.straps ∧
      (s.writeBlocks l).tk = s.tk ∧ (s.writeBlocks l).timeBase = s.timeBase ∧ (s.writeBlocks l).links = s.links ∧
      (s.writeBlocks l).wa = s.wa ∧ (s.writeBlocks l).points = s.points ∧ (s.writeBlocks l).tr = s.tr ∧
      (s.writeBlocks l).pau = s.pau ∧ (s.writeBlocks l).ia = s.ia ∧ (s.writeBlocks l).store = s.store ∧
      (s.writeBlocks l).cm = s.cm ∧ (s.writeBlocks l).sm = s.sm ∧ (s.writeBlocks l).mlc = s.mlc ∧
      (s.writeBlocks l).pending = s.pending := by
  induction l generalizing s with
  | nil => simp [State.writeBlocks]
  | cons x rest ih => simp [State.writeBlocks, ih]

@[simp] theorem State.endLoad_frame (b : Bool) (l : List AccountId) (q : List Nat) (s : State) :
    (s.endLoad b l q).powered = s.powered ∧ (s.endLoad b l q).pfw = s.pfw ∧ (s.endLoad b l q).straps = s.straps ∧
      (s.endLoad b l q).tk = s.tk ∧ (s.endLoad b l q).timeBase = s.timeBase ∧ (s.endLoad b l q).cu = s.cu ∧
      (s.endLoad b l q).links = s.links ∧ (s.endLoad b l q).wa = s.wa ∧ (s.endLoad b l q).points = s.points ∧
      (s.endLoad b l q).tr = s.tr ∧ (s.endLoad b l q).pau = s.pau ∧ (s.endLoad b l q).ia = s.ia ∧
      (s.endLoad b l q).store = s.store ∧ (s.endLoad b l q).cm = s.cm ∧ (s.endLoad b l q).sm = s.sm ∧
      (s.endLoad b l q).mlc = s.mlc ∧ (s.endLoad b l q).pending = s.pending := by
  unfold State.endLoad
  refine ⟨?_, ?_, ?_, ?_, ?_, ?_, ?_, ?_, ?_, ?_, ?_, ?_, ?_, ?_, ?_, ?_, ?_⟩ <;> ((repeat' split) <;> simp)

@[simp] theorem State.loadAccounts_frame (s : State) :
    (s.loadAccounts).powered = s.powered ∧ (s.loadAccounts).pfw = s.pfw ∧ (s.loadAccounts).straps = s.straps ∧
      (s.loadAccounts).tk = s.tk ∧ (s.loadAccounts).timeBase = s.timeBase ∧ (s.loadAccounts).links = s.links ∧
      (s.loadAccounts).wa = s.wa ∧ (s.loadAccounts).points = s.points ∧ (s.loadAccounts).tr = s.tr ∧
      (s.loadAccounts).pau = s.pau ∧ (s.loadAccounts).store = s.store ∧ (s.loadAccounts).cm = s.cm ∧
      (s.loadAccounts).sm = s.sm ∧ (s.loadAccounts).mlc = s.mlc ∧ (s.loadAccounts).pending = s.pending := by
  unfold State.loadAccounts
  dsimp only
  refine ⟨?_, ?_, ?_, ?_, ?_, ?_, ?_, ?_, ?_, ?_, ?_, ?_, ?_, ?_, ?_⟩ <;> ((repeat' split) <;> simp)

@[simp] theorem State.resumeSaved_frame (c : SavedState) (o : Option SavedOutcome) (s : State) :
    (s.resumeSaved c o).powered = s.powered ∧ (s.resumeSaved c o).pfw = s.pfw ∧ (s.resumeSaved c o).straps = s.straps ∧
      (s.resumeSaved c o).tk = s.tk ∧ (s.resumeSaved c o).timeBase = s.timeBase ∧ (s.resumeSaved c o).links = s.links ∧
      (s.resumeSaved c o).points = s.points ∧ (s.resumeSaved c o).tr = s.tr ∧ (s.resumeSaved c o).pau = s.pau ∧
      (s.resumeSaved c o).store = s.store ∧ (s.resumeSaved c o).cm = s.cm ∧ (s.resumeSaved c o).sm = s.sm ∧
      (s.resumeSaved c o).pending = s.pending := by
  unfold State.resumeSaved
  dsimp only
  refine ⟨?_, ?_, ?_, ?_, ?_, ?_, ?_, ?_, ?_, ?_, ?_, ?_, ?_⟩ <;> ((repeat' split) <;> simp)

@[simp] theorem State.settleManager_frame (v : Option SavedState) (s : State) :
    (s.settleManager v).powered = s.powered ∧ (s.settleManager v).pfw = s.pfw ∧ (s.settleManager v).straps = s.straps ∧
      (s.settleManager v).tk = s.tk ∧ (s.settleManager v).timeBase = s.timeBase ∧ (s.settleManager v).links = s.links ∧
      (s.settleManager v).wa = s.wa ∧ (s.settleManager v).points = s.points ∧ (s.settleManager v).tr = s.tr ∧
      (s.settleManager v).pau = s.pau ∧ (s.settleManager v).ia = s.ia ∧ (s.settleManager v).store = s.store ∧
      (s.settleManager v).sm = s.sm ∧ (s.settleManager v).mlc = s.mlc ∧ (s.settleManager v).pending = s.pending := by
  unfold State.settleManager
  dsimp only
  refine ⟨?_, ?_, ?_, ?_, ?_, ?_, ?_, ?_, ?_, ?_, ?_, ?_, ?_, ?_, ?_⟩ <;> ((repeat' split) <;> simp)

@[simp] theorem State.loadStep_frame (k : ResetKind) (s : State) :
    (s.loadStep k).powered = s.powered ∧ (s.loadStep k).pfw = s.pfw ∧ (s.loadStep k).straps = s.straps ∧
      (s.loadStep k).tk = s.tk ∧ (s.loadStep k).timeBase = s.timeBase ∧ (s.loadStep k).links = s.links ∧
      (s.loadStep k).points = s.points ∧ (s.loadStep k).tr = s.tr ∧ (s.loadStep k).pau = s.pau ∧
      (s.loadStep k).store = s.store ∧ (s.loadStep k).pending = s.pending := by
  unfold State.loadStep
  dsimp only
  refine ⟨?_, ?_, ?_, ?_, ?_, ?_, ?_, ?_, ?_, ?_, ?_⟩ <;> ((repeat' split) <;> simp)

@[simp] theorem State.startLinks_frame (l : List LinkId) (s : State) :
    (s.startLinks l).powered = s.powered ∧ (s.startLinks l).pfw = s.pfw ∧ (s.startLinks l).straps = s.straps ∧
      (s.startLinks l).tk = s.tk ∧ (s.startLinks l).timeBase = s.timeBase ∧ (s.startLinks l).cu = s.cu ∧
      (s.startLinks l).wa = s.wa ∧ (s.startLinks l).points = s.points ∧ (s.startLinks l).tr = s.tr ∧
      (s.startLinks l).pau = s.pau ∧ (s.startLinks l).ia = s.ia ∧ (s.startLinks l).store = s.store ∧
      (s.startLinks l).rsc = s.rsc ∧ (s.startLinks l).cm = s.cm ∧ (s.startLinks l).sm = s.sm ∧
      (s.startLinks l).mlc = s.mlc ∧ (s.startLinks l).pending = s.pending := by
  induction l generalizing s with
  | nil => simp [State.startLinks]
  | cons x rest ih =>
    unfold State.startLinks
    split <;> simp [ih]

@[simp] theorem State.enterMode_frame (s : State) :
    (s.enterMode).powered = s.powered ∧ (s.enterMode).pfw = s.pfw ∧ (s.enterMode).straps = s.straps ∧
      (s.enterMode).tk = s.tk ∧ (s.enterMode).timeBase = s.timeBase ∧ (s.enterMode).cu = s.cu ∧
      (s.enterMode).links = s.links ∧ (s.enterMode).wa = s.wa ∧ (s.enterMode).points = s.points ∧
      (s.enterMode).tr = s.tr ∧ (s.enterMode).pau = s.pau ∧ (s.enterMode).store = s.store ∧
      (s.enterMode).rsc = s.rsc ∧ (s.enterMode).cm = s.cm ∧ (s.enterMode).sm = s.sm ∧
      (s.enterMode).mlc = s.mlc ∧ (s.enterMode).pending = s.pending := by
  unfold State.enterMode
  dsimp only
  refine ⟨?_, ?_, ?_, ?_, ?_, ?_, ?_, ?_, ?_, ?_, ?_, ?_, ?_, ?_, ?_, ?_, ?_⟩ <;> ((repeat' split) <;> simp)

@[simp] theorem State.startLevels_frame (s : State) :
    (s.startLevels).powered = s.powered ∧ (s.startLevels).pfw = s.pfw ∧ (s.startLevels).straps = s.straps ∧
      (s.startLevels).tk = s.tk ∧ (s.startLevels).timeBase = s.timeBase ∧ (s.startLevels).links = s.links ∧
      (s.startLevels).wa = s.wa ∧ (s.startLevels).points = s.points ∧ (s.startLevels).tr = s.tr ∧
      (s.startLevels).pau = s.pau ∧ (s.startLevels).ia = s.ia ∧ (s.startLevels).store = s.store ∧
      (s.startLevels).rsc = s.rsc ∧ (s.startLevels).cm = s.cm ∧ (s.startLevels).sm = s.sm ∧
      (s.startLevels).mlc = s.mlc ∧ (s.startLevels).pending = s.pending := by
  unfold State.startLevels
  refine ⟨?_, ?_, ?_, ?_, ?_, ?_, ?_, ?_, ?_, ?_, ?_, ?_, ?_, ?_, ?_, ?_, ?_⟩ <;> ((repeat' split) <;> simp)

@[simp] theorem State.writeClean_frame (m : AttemptResult) (s : State) :
    (s.writeClean m).powered = s.powered ∧ (s.writeClean m).pfw = s.pfw ∧ (s.writeClean m).straps = s.straps ∧
      (s.writeClean m).tk = s.tk ∧ (s.writeClean m).timeBase = s.timeBase ∧ (s.writeClean m).cu = s.cu ∧
      (s.writeClean m).links = s.links ∧ (s.writeClean m).wa = s.wa ∧ (s.writeClean m).points = s.points ∧
      (s.writeClean m).tr = s.tr ∧ (s.writeClean m).pau = s.pau ∧ (s.writeClean m).ia = s.ia ∧
      (s.writeClean m).rsc = s.rsc ∧ (s.writeClean m).cm = s.cm ∧ (s.writeClean m).sm = s.sm ∧
      (s.writeClean m).mlc = s.mlc ∧ (s.writeClean m).pending = s.pending := by
  unfold State.writeClean
  dsimp only
  refine ⟨?_, ?_, ?_, ?_, ?_, ?_, ?_, ?_, ?_, ?_, ?_, ?_, ?_, ?_, ?_, ?_, ?_⟩ <;> ((repeat' split) <;> simp)

@[simp] theorem State.receive_frame (b : List Byte) (s : State) :
    (s.receive b).powered = s.powered ∧ (s.receive b).pfw = s.pfw ∧ (s.receive b).straps = s.straps ∧
      (s.receive b).tk = s.tk ∧ (s.receive b).timeBase = s.timeBase ∧ (s.receive b).cu = s.cu ∧
      (s.receive b).links = s.links ∧ (s.receive b).wa = s.wa ∧ (s.receive b).points = s.points ∧
      (s.receive b).tr = s.tr ∧ (s.receive b).pau = s.pau ∧ (s.receive b).ia = s.ia ∧
      (s.receive b).store = s.store ∧ (s.receive b).rsc = s.rsc ∧ (s.receive b).cm = s.cm ∧
      (s.receive b).sm = s.sm ∧ (s.receive b).pending = s.pending := by
  unfold State.receive
  refine ⟨?_, ?_, ?_, ?_, ?_, ?_, ?_, ?_, ?_, ?_, ?_, ?_, ?_, ?_, ?_, ?_, ?_⟩ <;> ((repeat' split) <;> simp)

@[simp] theorem State.setTime_frame (n m : Nat) (s : State) :
    (s.setTime n m).powered = s.powered ∧ (s.setTime n m).pfw = s.pfw ∧ (s.setTime n m).straps = s.straps ∧
      (s.setTime n m).timeBase = s.timeBase ∧ (s.setTime n m).links = s.links ∧ (s.setTime n m).wa = s.wa ∧
      (s.setTime n m).points = s.points ∧ (s.setTime n m).tr = s.tr ∧ (s.setTime n m).pau = s.pau ∧
      (s.setTime n m).ia = s.ia ∧ (s.setTime n m).store = s.store ∧ (s.setTime n m).rsc = s.rsc ∧
      (s.setTime n m).cm = s.cm ∧ (s.setTime n m).sm = s.sm ∧ (s.setTime n m).mlc = s.mlc ∧
      (s.setTime n m).pending = s.pending := by
  unfold State.setTime
  dsimp only
  refine ⟨?_, ?_, ?_, ?_, ?_, ?_, ?_, ?_, ?_, ?_, ?_, ?_, ?_, ?_, ?_, ?_⟩ <;> ((repeat' split) <;> simp)

@[simp] theorem State.finishTimeSet_frame (s : State) :
    (s.finishTimeSet).powered = s.powered ∧ (s.finishTimeSet).pfw = s.pfw ∧ (s.finishTimeSet).straps = s.straps ∧
      (s.finishTimeSet).tk = s.tk ∧ (s.finishTimeSet).timeBase = s.timeBase ∧ (s.finishTimeSet).cu = s.cu ∧
      (s.finishTimeSet).links = s.links ∧ (s.finishTimeSet).wa = s.wa ∧ (s.finishTimeSet).points = s.points ∧
      (s.finishTimeSet).tr = s.tr ∧ (s.finishTimeSet).pau = s.pau ∧ (s.finishTimeSet).ia = s.ia ∧
      (s.finishTimeSet).store = s.store ∧ (s.finishTimeSet).rsc = s.rsc ∧ (s.finishTimeSet).cm = s.cm ∧
      (s.finishTimeSet).sm = s.sm ∧ (s.finishTimeSet).pending = s.pending := by
  unfold State.finishTimeSet
  refine ⟨?_, ?_, ?_, ?_, ?_, ?_, ?_, ?_, ?_, ?_, ?_, ?_, ?_, ?_, ?_, ?_, ?_⟩ <;> ((repeat' split) <;> simp)

@[simp] theorem State.takeSmallStep_frame (n m : Nat) (s : State) :
    (s.takeSmallStep n m).powered = s.powered ∧ (s.takeSmallStep n m).pfw = s.pfw ∧ (s.takeSmallStep n m).straps = s.straps ∧
      (s.takeSmallStep n m).timeBase = s.timeBase ∧ (s.takeSmallStep n m).links = s.links ∧ (s.takeSmallStep n m).points = s.points ∧
      (s.takeSmallStep n m).tr = s.tr ∧ (s.takeSmallStep n m).pau = s.pau ∧ (s.takeSmallStep n m).store = s.store ∧
      (s.takeSmallStep n m).cm = s.cm ∧ (s.takeSmallStep n m).sm = s.sm ∧ (s.takeSmallStep n m).pending = s.pending := by
  unfold State.takeSmallStep
  dsimp only
  refine ⟨?_, ?_, ?_, ?_, ?_, ?_, ?_, ?_, ?_, ?_, ?_, ?_⟩ <;> ((repeat' split) <;> simp)

@[simp] theorem State.takeLargeStep_frame (n m : Nat) (s : State) :
    (s.takeLargeStep n m).powered = s.powered ∧ (s.takeLargeStep n m).pfw = s.pfw ∧ (s.takeLargeStep n m).straps = s.straps ∧
      (s.takeLargeStep n m).timeBase = s.timeBase ∧ (s.takeLargeStep n m).links = s.links ∧ (s.takeLargeStep n m).points = s.points ∧
      (s.takeLargeStep n m).tr = s.tr ∧ (s.takeLargeStep n m).pau = s.pau ∧ (s.takeLargeStep n m).store = s.store ∧
      (s.takeLargeStep n m).cm = s.cm ∧ (s.takeLargeStep n m).sm = s.sm ∧ (s.takeLargeStep n m).pending = s.pending := by
  unfold State.takeLargeStep
  dsimp only
  refine ⟨?_, ?_, ?_, ?_, ?_, ?_, ?_, ?_, ?_, ?_, ?_, ?_⟩ <;> ((repeat' split) <;> simp)

@[simp] theorem State.answerTimeSet_frame (n m : Nat) (s : State) :
    (s.answerTimeSet n m).powered = s.powered ∧ (s.answerTimeSet n m).pfw = s.pfw ∧ (s.answerTimeSet n m).straps = s.straps ∧
      (s.answerTimeSet n m).timeBase = s.timeBase ∧ (s.answerTimeSet n m).links = s.links ∧ (s.answerTimeSet n m).points = s.points ∧
      (s.answerTimeSet n m).tr = s.tr ∧ (s.answerTimeSet n m).pau = s.pau ∧ (s.answerTimeSet n m).store = s.store ∧
      (s.answerTimeSet n m).cm = s.cm ∧ (s.answerTimeSet n m).sm = s.sm ∧ (s.answerTimeSet n m).pending = s.pending := by
  unfold State.answerTimeSet
  refine ⟨?_, ?_, ?_, ?_, ?_, ?_, ?_, ?_, ?_, ?_, ?_, ?_⟩ <;> ((repeat' split) <;> simp)

@[simp] theorem State.answerStatus_frame (s : State) :
    (s.answerStatus).powered = s.powered ∧ (s.answerStatus).pfw = s.pfw ∧ (s.answerStatus).straps = s.straps ∧
      (s.answerStatus).tk = s.tk ∧ (s.answerStatus).timeBase = s.timeBase ∧ (s.answerStatus).links = s.links ∧
      (s.answerStatus).wa = s.wa ∧ (s.answerStatus).points = s.points ∧ (s.answerStatus).tr = s.tr ∧
      (s.answerStatus).pau = s.pau ∧ (s.answerStatus).ia = s.ia ∧ (s.answerStatus).store = s.store ∧
      (s.answerStatus).rsc = s.rsc ∧ (s.answerStatus).cm = s.cm ∧ (s.answerStatus).sm = s.sm ∧
      (s.answerStatus).pending = s.pending := by
  unfold State.answerStatus
  dsimp only
  refine ⟨?_, ?_, ?_, ?_, ?_, ?_, ?_, ?_, ?_, ?_, ?_, ?_, ?_, ?_, ?_, ?_⟩ <;> ((repeat' split) <;> simp)

@[simp] theorem State.answerClear_frame (n : Nat) (s : State) :
    (s.answerClear n).powered = s.powered ∧ (s.answerClear n).pfw = s.pfw ∧ (s.answerClear n).straps = s.straps ∧
      (s.answerClear n).tk = s.tk ∧ (s.answerClear n).timeBase = s.timeBase ∧ (s.answerClear n).links = s.links ∧
      (s.answerClear n).wa = s.wa ∧ (s.answerClear n).points = s.points ∧ (s.answerClear n).tr = s.tr ∧
      (s.answerClear n).pau = s.pau ∧ (s.answerClear n).ia = s.ia ∧ (s.answerClear n).store = s.store ∧
      (s.answerClear n).rsc = s.rsc ∧ (s.answerClear n).cm = s.cm ∧ (s.answerClear n).sm = s.sm ∧
      (s.answerClear n).pending = s.pending := by
  unfold State.answerClear
  dsimp only
  refine ⟨?_, ?_, ?_, ?_, ?_, ?_, ?_, ?_, ?_, ?_, ?_, ?_, ?_, ?_, ?_, ?_⟩ <;> ((repeat' split) <;> simp)

@[simp] theorem State.answerTableGet_frame (p : List Byte) (s : State) :
    (s.answerTableGet p).powered = s.powered ∧ (s.answerTableGet p).pfw = s.pfw ∧ (s.answerTableGet p).straps = s.straps ∧
      (s.answerTableGet p).tk = s.tk ∧ (s.answerTableGet p).timeBase = s.timeBase ∧ (s.answerTableGet p).cu = s.cu ∧
      (s.answerTableGet p).links = s.links ∧ (s.answerTableGet p).wa = s.wa ∧ (s.answerTableGet p).points = s.points ∧
      (s.answerTableGet p).tr = s.tr ∧ (s.answerTableGet p).pau = s.pau ∧ (s.answerTableGet p).ia = s.ia ∧
      (s.answerTableGet p).store = s.store ∧ (s.answerTableGet p).rsc = s.rsc ∧ (s.answerTableGet p).cm = s.cm ∧
      (s.answerTableGet p).sm = s.sm ∧ (s.answerTableGet p).pending = s.pending := by
  unfold State.answerTableGet
  refine ⟨?_, ?_, ?_, ?_, ?_, ?_, ?_, ?_, ?_, ?_, ?_, ?_, ?_, ?_, ?_, ?_, ?_⟩ <;> ((repeat' split) <;> simp)

@[simp] theorem State.enqueue_frame (c : Change) (s : State) :
    (s.enqueue c).powered = s.powered ∧ (s.enqueue c).pfw = s.pfw ∧ (s.enqueue c).straps = s.straps ∧
      (s.enqueue c).tk = s.tk ∧ (s.enqueue c).timeBase = s.timeBase ∧ (s.enqueue c).cu = s.cu ∧
      (s.enqueue c).links = s.links ∧ (s.enqueue c).wa = s.wa ∧ (s.enqueue c).points = s.points ∧
      (s.enqueue c).tr = s.tr ∧ (s.enqueue c).pau = s.pau ∧ (s.enqueue c).ia = s.ia ∧
      (s.enqueue c).store = s.store ∧ (s.enqueue c).rsc = s.rsc ∧ (s.enqueue c).sm = s.sm ∧
      (s.enqueue c).pending = s.pending := by
  unfold State.enqueue
  dsimp only
  refine ⟨?_, ?_, ?_, ?_, ?_, ?_, ?_, ?_, ?_, ?_, ?_, ?_, ?_, ?_, ?_, ?_⟩ <;> ((repeat' split) <;> simp)

@[simp] theorem State.answerTablePut_frame (p : List Byte) (s : State) :
    (s.answerTablePut p).powered = s.powered ∧ (s.answerTablePut p).pfw = s.pfw ∧ (s.answerTablePut p).straps = s.straps ∧
      (s.answerTablePut p).tk = s.tk ∧ (s.answerTablePut p).timeBase = s.timeBase ∧ (s.answerTablePut p).cu = s.cu ∧
      (s.answerTablePut p).links = s.links ∧ (s.answerTablePut p).wa = s.wa ∧ (s.answerTablePut p).points = s.points ∧
      (s.answerTablePut p).tr = s.tr ∧ (s.answerTablePut p).pau = s.pau ∧ (s.answerTablePut p).ia = s.ia ∧
      (s.answerTablePut p).store = s.store ∧ (s.answerTablePut p).rsc = s.rsc ∧ (s.answerTablePut p).sm = s.sm ∧
      (s.answerTablePut p).pending = s.pending := by
  unfold State.answerTablePut
  refine ⟨?_, ?_, ?_, ?_, ?_, ?_, ?_, ?_, ?_, ?_, ?_, ?_, ?_, ?_, ?_, ?_⟩ <;> ((repeat' split) <;> simp)

@[simp] theorem State.answerPreset_frame (p : List Byte) (s : State) :
    (s.answerPreset p).powered = s.powered ∧ (s.answerPreset p).pfw = s.pfw ∧ (s.answerPreset p).straps = s.straps ∧
      (s.answerPreset p).tk = s.tk ∧ (s.answerPreset p).timeBase = s.timeBase ∧ (s.answerPreset p).cu = s.cu ∧
      (s.answerPreset p).links = s.links ∧ (s.answerPreset p).wa = s.wa ∧ (s.answerPreset p).points = s.points ∧
      (s.answerPreset p).tr = s.tr ∧ (s.answerPreset p).pau = s.pau ∧ (s.answerPreset p).ia = s.ia ∧
      (s.answerPreset p).store = s.store ∧ (s.answerPreset p).rsc = s.rsc ∧ (s.answerPreset p).sm = s.sm ∧
      (s.answerPreset p).pending = s.pending := by
  unfold State.answerPreset
  refine ⟨?_, ?_, ?_, ?_, ?_, ?_, ?_, ?_, ?_, ?_, ?_, ?_, ?_, ?_, ?_, ?_⟩ <;> ((repeat' split) <;> simp)

@[simp] theorem State.answerMode_frame (n : Nat) (s : State) :
    (s.answerMode n).powered = s.powered ∧ (s.answerMode n).pfw = s.pfw ∧ (s.answerMode n).straps = s.straps ∧
      (s.answerMode n).tk = s.tk ∧ (s.answerMode n).timeBase = s.timeBase ∧ (s.answerMode n).cu = s.cu ∧
      (s.answerMode n).links = s.links ∧ (s.answerMode n).wa = s.wa ∧ (s.answerMode n).points = s.points ∧
      (s.answerMode n).tr = s.tr ∧ (s.answerMode n).pau = s.pau ∧ (s.answerMode n).ia = s.ia ∧
      (s.answerMode n).store = s.store ∧ (s.answerMode n).rsc = s.rsc ∧ (s.answerMode n).sm = s.sm ∧
      (s.answerMode n).pending = s.pending := by
  unfold State.answerMode
  refine ⟨?_, ?_, ?_, ?_, ?_, ?_, ?_, ?_, ?_, ?_, ?_, ?_, ?_, ?_, ?_, ?_⟩ <;> ((repeat' split) <;> simp)

@[simp] theorem State.setLock_frame (b : Bool) (s : State) :
    (s.setLock b).powered = s.powered ∧ (s.setLock b).pfw = s.pfw ∧ (s.setLock b).straps = s.straps ∧
      (s.setLock b).tk = s.tk ∧ (s.setLock b).timeBase = s.timeBase ∧ (s.setLock b).cu = s.cu ∧
      (s.setLock b).links = s.links ∧ (s.setLock b).wa = s.wa ∧ (s.setLock b).points = s.points ∧
      (s.setLock b).tr = s.tr ∧ (s.setLock b).pau = s.pau ∧ (s.setLock b).ia = s.ia ∧
      (s.setLock b).store = s.store ∧ (s.setLock b).mlc = s.mlc ∧ (s.setLock b).pending = s.pending := by
  unfold State.setLock
  dsimp only
  refine ⟨?_, ?_, ?_, ?_, ?_, ?_, ?_, ?_, ?_, ?_, ?_, ?_, ?_, ?_, ?_⟩ <;> ((repeat' split) <;> simp)

@[simp] theorem State.answerLock_frame (s : State) :
    (s.answerLock).powered = s.powered ∧ (s.answerLock).pfw = s.pfw ∧ (s.answerLock).straps = s.straps ∧
      (s.answerLock).tk = s.tk ∧ (s.answerLock).timeBase = s.timeBase ∧ (s.answerLock).cu = s.cu ∧
      (s.answerLock).links = s.links ∧ (s.answerLock).wa = s.wa ∧ (s.answerLock).points = s.points ∧
      (s.answerLock).tr = s.tr ∧ (s.answerLock).pau = s.pau ∧ (s.answerLock).ia = s.ia ∧
      (s.answerLock).store = s.store ∧ (s.answerLock).pending = s.pending := by
  unfold State.answerLock
  refine ⟨?_, ?_, ?_, ?_, ?_, ?_, ?_, ?_, ?_, ?_, ?_, ?_, ?_, ?_⟩ <;> ((repeat' split) <;> simp)

@[simp] theorem State.answerUnlock_frame (s : State) :
    (s.answerUnlock).powered = s.powered ∧ (s.answerUnlock).pfw = s.pfw ∧ (s.answerUnlock).straps = s.straps ∧
      (s.answerUnlock).tk = s.tk ∧ (s.answerUnlock).timeBase = s.timeBase ∧ (s.answerUnlock).cu = s.cu ∧
      (s.answerUnlock).links = s.links ∧ (s.answerUnlock).wa = s.wa ∧ (s.answerUnlock).points = s.points ∧
      (s.answerUnlock).tr = s.tr ∧ (s.answerUnlock).pau = s.pau ∧ (s.answerUnlock).ia = s.ia ∧
      (s.answerUnlock).store = s.store ∧ (s.answerUnlock).pending = s.pending := by
  unfold State.answerUnlock
  refine ⟨?_, ?_, ?_, ?_, ?_, ?_, ?_, ?_, ?_, ?_, ?_, ?_, ?_, ?_⟩ <;> ((repeat' split) <;> simp)

@[simp] theorem State.answerAccountRead_frame (n : Nat) (s : State) :
    (s.answerAccountRead n).powered = s.powered ∧ (s.answerAccountRead n).pfw = s.pfw ∧ (s.answerAccountRead n).straps = s.straps ∧
      (s.answerAccountRead n).tk = s.tk ∧ (s.answerAccountRead n).timeBase = s.timeBase ∧ (s.answerAccountRead n).cu = s.cu ∧
      (s.answerAccountRead n).links = s.links ∧ (s.answerAccountRead n).wa = s.wa ∧ (s.answerAccountRead n).points = s.points ∧
      (s.answerAccountRead n).tr = s.tr ∧ (s.answerAccountRead n).pau = s.pau ∧ (s.answerAccountRead n).ia = s.ia ∧
      (s.answerAccountRead n).store = s.store ∧ (s.answerAccountRead n).rsc = s.rsc ∧ (s.answerAccountRead n).cm = s.cm ∧
      (s.answerAccountRead n).sm = s.sm ∧ (s.answerAccountRead n).pending = s.pending := by
  unfold State.answerAccountRead
  refine ⟨?_, ?_, ?_, ?_, ?_, ?_, ?_, ?_, ?_, ?_, ?_, ?_, ?_, ?_, ?_, ?_, ?_⟩ <;> ((repeat' split) <;> simp)

@[simp] theorem State.answerLogRead_frame (n m : Nat) (s : State) :
    (s.answerLogRead n m).powered = s.powered ∧ (s.answerLogRead n m).pfw = s.pfw ∧ (s.answerLogRead n m).straps = s.straps ∧
      (s.answerLogRead n m).tk = s.tk ∧ (s.answerLogRead n m).timeBase = s.timeBase ∧ (s.answerLogRead n m).cu = s.cu ∧
      (s.answerLogRead n m).links = s.links ∧ (s.answerLogRead n m).wa = s.wa ∧ (s.answerLogRead n m).points = s.points ∧
      (s.answerLogRead n m).tr = s.tr ∧ (s.answerLogRead n m).pau = s.pau ∧ (s.answerLogRead n m).ia = s.ia ∧
      (s.answerLogRead n m).store = s.store ∧ (s.answerLogRead n m).cm = s.cm ∧ (s.answerLogRead n m).sm = s.sm ∧
      (s.answerLogRead n m).pending = s.pending := by
  unfold State.answerLogRead
  refine ⟨?_, ?_, ?_, ?_, ?_, ?_, ?_, ?_, ?_, ?_, ?_, ?_, ?_, ?_, ?_, ?_⟩ <;> ((repeat' split) <;> simp)

@[simp] theorem State.answerLinkStatus_frame (n : Nat) (s : State) :
    (s.answerLinkStatus n).powered = s.powered ∧ (s.answerLinkStatus n).pfw = s.pfw ∧ (s.answerLinkStatus n).straps = s.straps ∧
      (s.answerLinkStatus n).tk = s.tk ∧ (s.answerLinkStatus n).timeBase = s.timeBase ∧ (s.answerLinkStatus n).cu = s.cu ∧
      (s.answerLinkStatus n).links = s.links ∧ (s.answerLinkStatus n).wa = s.wa ∧ (s.answerLinkStatus n).points = s.points ∧
      (s.answerLinkStatus n).tr = s.tr ∧ (s.answerLinkStatus n).pau = s.pau ∧ (s.answerLinkStatus n).ia = s.ia ∧
      (s.answerLinkStatus n).store = s.store ∧ (s.answerLinkStatus n).rsc = s.rsc ∧ (s.answerLinkStatus n).cm = s.cm ∧
      (s.answerLinkStatus n).sm = s.sm ∧ (s.answerLinkStatus n).pending = s.pending := by
  unfold State.answerLinkStatus
  refine ⟨?_, ?_, ?_, ?_, ?_, ?_, ?_, ?_, ?_, ?_, ?_, ?_, ?_, ?_, ?_, ?_, ?_⟩ <;> ((repeat' split) <;> simp)

@[simp] theorem State.answerLinkRestart_frame (n : Nat) (s : State) :
    (s.answerLinkRestart n).powered = s.powered ∧ (s.answerLinkRestart n).pfw = s.pfw ∧ (s.answerLinkRestart n).straps = s.straps ∧
      (s.answerLinkRestart n).tk = s.tk ∧ (s.answerLinkRestart n).timeBase = s.timeBase ∧ (s.answerLinkRestart n).points = s.points ∧
      (s.answerLinkRestart n).tr = s.tr ∧ (s.answerLinkRestart n).pau = s.pau ∧ (s.answerLinkRestart n).ia = s.ia ∧
      (s.answerLinkRestart n).store = s.store ∧ (s.answerLinkRestart n).rsc = s.rsc ∧ (s.answerLinkRestart n).cm = s.cm ∧
      (s.answerLinkRestart n).sm = s.sm ∧ (s.answerLinkRestart n).pending = s.pending := by
  unfold State.answerLinkRestart
  refine ⟨?_, ?_, ?_, ?_, ?_, ?_, ?_, ?_, ?_, ?_, ?_, ?_, ?_, ?_⟩ <;> ((repeat' split) <;> simp)

@[simp] theorem State.answerPointStatus_frame (n : Nat) (s : State) :
    (s.answerPointStatus n).powered = s.powered ∧ (s.answerPointStatus n).pfw = s.pfw ∧ (s.answerPointStatus n).straps = s.straps ∧
      (s.answerPointStatus n).tk = s.tk ∧ (s.answerPointStatus n).timeBase = s.timeBase ∧ (s.answerPointStatus n).cu = s.cu ∧
      (s.answerPointStatus n).links = s.links ∧ (s.answerPointStatus n).wa = s.wa ∧ (s.answerPointStatus n).points = s.points ∧
      (s.answerPointStatus n).tr = s.tr ∧ (s.answerPointStatus n).pau = s.pau ∧ (s.answerPointStatus n).ia = s.ia ∧
      (s.answerPointStatus n).store = s.store ∧ (s.answerPointStatus n).rsc = s.rsc ∧ (s.answerPointStatus n).cm = s.cm ∧
      (s.answerPointStatus n).sm = s.sm ∧ (s.answerPointStatus n).pending = s.pending := by
  unfold State.answerPointStatus
  refine ⟨?_, ?_, ?_, ?_, ?_, ?_, ?_, ?_, ?_, ?_, ?_, ?_, ?_, ?_, ?_, ?_, ?_⟩ <;> ((repeat' split) <;> simp)

@[simp] theorem State.answerPointSubstitute_frame (n : Nat) (s : State) :
    (s.answerPointSubstitute n).powered = s.powered ∧ (s.answerPointSubstitute n).pfw = s.pfw ∧ (s.answerPointSubstitute n).straps = s.straps ∧
      (s.answerPointSubstitute n).tk = s.tk ∧ (s.answerPointSubstitute n).timeBase = s.timeBase ∧ (s.answerPointSubstitute n).links = s.links ∧
      (s.answerPointSubstitute n).wa = s.wa ∧ (s.answerPointSubstitute n).tr = s.tr ∧ (s.answerPointSubstitute n).pau = s.pau ∧
      (s.answerPointSubstitute n).ia = s.ia ∧ (s.answerPointSubstitute n).store = s.store ∧ (s.answerPointSubstitute n).rsc = s.rsc ∧
      (s.answerPointSubstitute n).cm = s.cm ∧ (s.answerPointSubstitute n).sm = s.sm ∧ (s.answerPointSubstitute n).pending = s.pending := by
  unfold State.answerPointSubstitute
  refine ⟨?_, ?_, ?_, ?_, ?_, ?_, ?_, ?_, ?_, ?_, ?_, ?_, ?_, ?_, ?_⟩ <;> ((repeat' split) <;> simp)

@[simp] theorem State.answerPointRestore_frame (n : Nat) (s : State) :
    (s.answerPointRestore n).powered = s.powered ∧ (s.answerPointRestore n).pfw = s.pfw ∧ (s.answerPointRestore n).straps = s.straps ∧
      (s.answerPointRestore n).tk = s.tk ∧ (s.answerPointRestore n).timeBase = s.timeBase ∧ (s.answerPointRestore n).links = s.links ∧
      (s.answerPointRestore n).wa = s.wa ∧ (s.answerPointRestore n).tr = s.tr ∧ (s.answerPointRestore n).pau = s.pau ∧
      (s.answerPointRestore n).ia = s.ia ∧ (s.answerPointRestore n).store = s.store ∧ (s.answerPointRestore n).sm = s.sm ∧
      (s.answerPointRestore n).pending = s.pending := by
  unfold State.answerPointRestore
  refine ⟨?_, ?_, ?_, ?_, ?_, ?_, ?_, ?_, ?_, ?_, ?_, ?_, ?_⟩ <;> ((repeat' split) <;> simp)

@[simp] theorem State.beginReset_frame (s : State) :
    (s.beginReset).powered = s.powered ∧ (s.beginReset).pfw = s.pfw ∧ (s.beginReset).straps = s.straps ∧
      (s.beginReset).tk = s.tk ∧ (s.beginReset).timeBase = s.timeBase ∧ (s.beginReset).links = s.links ∧
      (s.beginReset).points = s.points ∧ (s.beginReset).tr = s.tr ∧ (s.beginReset).pau = s.pau ∧
      (s.beginReset).store = s.store ∧ (s.beginReset).cm = s.cm ∧ (s.beginReset).sm = s.sm ∧
      (s.beginReset).pending = s.pending := by
  unfold State.beginReset
  dsimp only
  refine ⟨?_, ?_, ?_, ?_, ?_, ?_, ?_, ?_, ?_, ?_, ?_, ?_, ?_⟩ <;> ((repeat' split) <;> simp)

@[simp] theorem State.answerReset_frame (s : State) :
    (s.answerReset).powered = s.powered ∧ (s.answerReset).pfw = s.pfw ∧ (s.answerReset).straps = s.straps ∧
      (s.answerReset).tk = s.tk ∧ (s.answerReset).timeBase = s.timeBase ∧ (s.answerReset).links = s.links ∧
      (s.answerReset).points = s.points ∧ (s.answerReset).tr = s.tr ∧ (s.answerReset).pau = s.pau ∧
      (s.answerReset).store = s.store ∧ (s.answerReset).cm = s.cm ∧ (s.answerReset).sm = s.sm ∧
      (s.answerReset).pending = s.pending := by
  unfold State.answerReset
  dsimp only
  refine ⟨?_, ?_, ?_, ?_, ?_, ?_, ?_, ?_, ?_, ?_, ?_, ?_, ?_⟩ <;> ((repeat' split) <;> simp)

end Sys2Proof.Machine
end

