-- ==== Sys2Proof/Laws/Closes.lean ====
section
/-! SUPPORT. What the close of one account and of a list of accounts do, said once: the account left, the record
built, the numbers given (R32, R36 to R41). -/

namespace Sys2Proof.Machine

/-- The account that a close leaves of an OPEN account. -/
def Account.closed (ratio : Nat) (valid : Bool) (start : Option Nat) (iv : Interval) (acc : Account) :
    Account :=
  { interval := start.map fun n => Interval.fresh valid n acc.gapMark
    regs := closedRegs ratio iv acc.regs
    residues := acc.residues
    gapMark := acc.gapMark && start.isNone
    inFlight := true
    blockOwed := true }

variable (cause : EndCause) (endTime : Nat) (reopen : Reopen) (s : State)

/-- A close of an account that holds no interval does nothing (R36). -/
theorem State.closeAccount_none {a : AccountId} (h : (s.ia.accounts[a]).interval = none) :
    s.closeAccount cause endTime reopen a = s := by
  unfold State.closeAccount
  rw [h]

/-- What a close does to the accounts and to the queues of the store controller (R36 to R41). -/
theorem State.closeAccount_some {a : AccountId} {iv : Interval}
    (h : (s.ia.accounts[a]).interval = some iv) :
    let acc := s.ia.accounts[a]
    let after := acc.closed s.cm.tables.contract.ratio s.tk.valid
      (reopen.start s.tk.seconds endTime) iv
    let content : RegContent := ⟨a, after.regs, after.residues⟩
    let t := s.closeAccount cause endTime reopen a
    t.ia = { s.ia with accounts := s.ia.accounts.set a after, nextSeq := s.ia.nextSeq + 1 } ∧
    t.rsc = { s.rsc with
      blockQueue := joinBlock content s.rsc.blockQueue
      images := s.rsc.images.set a content
      recordQueue := s.rsc.recordQueue ++
        [buildRecord s.cm.tables.contract s.ia.nextSeq a cause endTime iv after.regs] } := by
  intro acc after content t
  have ht : t = s.closeAccount cause endTime reopen a := rfl
  unfold State.closeAccount at ht
  rw [h] at ht
  dsimp only at ht
  cases hs : reopen.start s.tk.seconds endTime with
  | none =>
    simp only [State.updAccount, State.updIa, hs] at ht
    constructor
    · rw [ht]
      simp [State.handRecord, State.handBlock, State.updAccount, State.updIa, State.pulse,
        State.giveRegisterFlag, State.level, State.queueBlock, State.updRsc, after, Account.closed, hs, acc]
    · rw [ht]
      simp [State.handRecord, State.handBlock, State.updAccount, State.updIa, State.pulse,
        State.giveRegisterFlag, State.level, State.queueBlock, State.updRsc, after, content, Account.closed,
        hs, acc]
  | some n =>
    simp only [State.updAccount, State.updIa, hs] at ht
    constructor
    · rw [ht]
      simp [State.handRecord, State.handBlock, State.openAccount, State.updAccount, State.updIa, State.pulse,
        State.giveRegisterFlag, State.level, State.queueBlock, State.updRsc, after, Account.closed, hs, acc]
    · rw [ht]
      simp [State.handRecord, State.handBlock, State.openAccount, State.updAccount, State.updIa, State.pulse,
        State.giveRegisterFlag, State.level, State.queueBlock, State.updRsc, after, content, Account.closed,
        hs, acc]

/-- A close leaves every other account. -/
theorem State.closeAccount_other {a b : AccountId} (h : b ≠ a) :
    (s.closeAccount cause endTime reopen a).ia.accounts[b] = s.ia.accounts[b] := by
  cases hi : (s.ia.accounts[a]).interval with
  | none => rw [s.closeAccount_none cause endTime reopen hi]
  | some iv =>
    rw [(s.closeAccount_some cause endTime reopen hi).1]
    have : (a : Nat) ≠ (b : Nat) := fun e => h (Fin.ext e.symm)
    simp [this]

/-- The account that a close leaves is the one the rules give. -/
theorem State.closeAccount_same {a : AccountId} :
    accountClosed s.cm.tables.contract s.tk.valid (reopen.start s.tk.seconds endTime) s.ia.accounts[a]
      (s.closeAccount cause endTime reopen a).ia.accounts[a] := by
  unfold accountClosed
  cases hi : (s.ia.accounts[a]).interval with
  | none => simp only [s.closeAccount_none cause endTime reopen hi]
  | some iv =>
    rw [(s.closeAccount_some cause endTime reopen hi).1]
    simp [Account.closed]

/-- What the closes of a list of accounts do: each OPEN one is closed and builds one record, in the order of the
list; nothing else of the interval accountant changes (R32, R36 to R41). -/
theorem State.closeList_spec (l : List AccountId) (hl : l.Nodup) :
    let t := s.closeList cause endTime reopen l
    (∀ a : AccountId, a ∉ l → t.ia.accounts[a] = s.ia.accounts[a]) ∧
    (∀ a : AccountId, a ∈ l →
      accountClosed s.cm.tables.contract s.tk.valid (reopen.start s.tk.seconds endTime)
        s.ia.accounts[a] t.ia.accounts[a]) ∧
    t.ia.nextSeq = s.ia.nextSeq + s.openAmong l ∧
    t.ia = { s.ia with accounts := t.ia.accounts, nextSeq := t.ia.nextSeq } ∧
    ∃ rs, t.rsc.recordQueue = s.rsc.recordQueue ++ rs ∧
      rs.map (·.seq) = List.range' s.ia.nextSeq (s.openAmong l) ∧
      rs.map (·.account) = l.filter (fun a => (s.ia.accounts[a]).interval.isSome) ∧
      ∀ r ∈ rs, ∃ iv, (s.ia.accounts[r.account]).interval = some iv ∧
        r = buildRecord s.cm.tables.contract r.seq r.account cause endTime iv
          (closedRegs s.cm.tables.contract.ratio iv (s.ia.accounts[r.account]).regs) := by
  induction l generalizing s with
  | nil => exact ⟨fun _ _ => rfl, by simp, by simp [State.closeList, State.openAmong], rfl, [], by
      simp [State.closeList, State.openAmong]⟩
  | cons a rest ih =>
    obtain ⟨ha, hrest⟩ := List.nodup_cons.1 hl
    have other : ∀ b : AccountId, b ≠ a →
        (s.closeAccount cause endTime reopen a).ia.accounts[b] = s.ia.accounts[b] :=
      fun b hb => s.closeAccount_other cause endTime reopen hb
    have ne : ∀ b ∈ rest, b ≠ a := fun b hb e => ha (e ▸ hb)
    obtain ⟨i1, i2, i3, i4, rs, i5, i6, i7, i8⟩ := ih (s.closeAccount cause endTime reopen a) hrest
    have hcm : (s.closeAccount cause endTime reopen a).cm = s.cm := by simp
    have htk : (s.closeAccount cause endTime reopen a).tk = s.tk := by simp
    have hopen : (s.closeAccount cause endTime reopen a).openAmong rest = s.openAmong rest := by
      unfold State.openAmong
      congr 1
      refine List.filter_congr fun b hb => ?_
      rw [other b (ne b hb)]
    have hfilter : rest.filter (fun b => ((s.closeAccount cause endTime reopen a).ia.accounts[b]).interval.isSome)
        = rest.filter (fun b => (s.ia.accounts[b]).interval.isSome) :=
      List.filter_congr fun b hb => by rw [other b (ne b hb)]
    rw [hcm, htk] at i2
    rw [hcm] at i8
    rw [hopen] at i3 i6
    rw [hfilter] at i7
    simp only [State.closeList]
    refine ⟨fun b hb => ?_, fun b hb => ?_, ?_⟩
    · rw [i1 b fun h => hb (List.mem_cons_of_mem _ h), other b fun h => hb (h ▸ List.mem_cons_self)]
    · rcases List.mem_cons.1 hb with rfl | hb
      · rw [i1 b ha]
        exact s.closeAccount_same cause endTime reopen
      · rw [← other b (ne b hb)]
        exact i2 b hb
    · cases hi : (s.ia.accounts[a]).interval with
      | none =>
        rw [s.closeAccount_none cause endTime reopen hi] at *
        have hf : (a :: rest).filter (fun b => (s.ia.accounts[b]).interval.isSome) =
            rest.filter (fun b => (s.ia.accounts[b]).interval.isSome) :=
          List.filter_cons_of_neg (by rw [hi]; simp)
        have h0 : s.openAmong (a :: rest) = s.openAmong rest := by unfold State.openAmong; rw [hf]
        rw [h0]
        exact ⟨i3, i4, rs, i5, i6, by rw [i7, hf], i8⟩
      | some iv =>
        obtain ⟨e1, e2⟩ := s.closeAccount_some cause endTime reopen hi
        have n1 : (s.closeAccount cause endTime reopen a).ia.nextSeq = s.ia.nextSeq + 1 := by rw [e1]
        have hf : (a :: rest).filter (fun b => (s.ia.accounts[b]).interval.isSome) =
            a :: rest.filter (fun b => (s.ia.accounts[b]).interval.isSome) :=
          List.filter_cons_of_pos (by rw [hi]; rfl)
        have h0 : s.openAmong (a :: rest) = s.openAmong rest + 1 := by
          unfold State.openAmong; rw [hf]; rfl
        rw [h0]
        refine ⟨by omega, ?_, _ :: rs, by rw [i5, e2, List.append_assoc]; rfl, ?_, ?_, ?_⟩
        · rw [i4, e1]
        · rw [List.map_cons, i6, n1, List.range'_succ]; rfl
        · rw [List.map_cons, i7, hf]; rfl
        · intro r hr
          rcases List.mem_cons.1 hr with rfl | hr
          · exact ⟨iv, hi, rfl⟩
          · have hm : r.account ∈ rest := by
              have : r.account ∈ rs.map (·.account) := List.mem_map_of_mem hr
              rw [i7] at this
              exact (List.mem_filter.1 this).1
            obtain ⟨iw, w1, w2⟩ := i8 r hr
            rw [other _ (ne _ hm)] at w1 w2
            exact ⟨iw, w1, w2⟩

end Sys2Proof.Machine
end

