-- ==== Sys2Proof/Laws/PerInstr.lean ====
section
/-! SUPPORT. What holds of every command as syntax: which operands make it well formed. One lemma for each
constructor of `Instr`. -/

namespace Sys2Proof.Laws.WellFormedRows

open Sys2Proof.Machine

/-- What the operands of a command meet when it is well formed: a message-link frame is as long as its
length field says (R191, R204), an OFFER names a profile and 1 to 12 channels, an ACCEPT 1 to 12 channels,
a WINDOW one block for each channel and order (R108, R208), and a stray byte is no start byte (R191). The
other rows have no operand that could fail. -/
def operandsFit : Instr → Prop
  | .messageFrameReceived b =>
    b.head? = some 0xA5 ∧ natAt b 4 2 ≤ 1024 ∧ b.length = 8 + natAt b 4 2
  | .offerFrame _ c =>
    (c.profiles.basic = true ∨ c.profiles.extended = true ∨ c.profiles.full = true) ∧
      1 ≤ c.kinds.length ∧ c.kinds.length ≤ 12
  | .acceptFrame _ c => 1 ≤ c.kinds.length ∧ c.kinds.length ≤ 12
  | .windowFrame _ f =>
    (f.orders = 25 ∨ f.orders = 40 ∨ f.orders = 50) ∧ (1 ≤ f.channels ∧ f.channels ≤ 12) ∧
      f.blocks.length = f.channels * f.orders
  | .strayByte b => b ≠ 0xA5
  | _ => True

/-- A command is well formed exactly when its operands fit. -/
def Statement (i : Instr) : Prop := i.wf = true ↔ operandsFit i

theorem powerOnReset (straps : Straps) (left : UnitLeft) (decayed : List StoreUnit) : Statement (.powerOnReset straps left decayed) :=
  ⟨fun _ => trivial, fun _ => rfl⟩

theorem pinReset (straps : Straps) (left : UnitLeft) (decayed : List StoreUnit) : Statement (.pinReset straps left decayed) :=
  ⟨fun _ => trivial, fun _ => rfl⟩

theorem tkSecondsWrap : Statement .tkSecondsWrap := ⟨fun _ => trivial, fun _ => rfl⟩

theorem intervalBoundary : Statement .intervalBoundary := ⟨fun _ => trivial, fun _ => rfl⟩

theorem closeEventBegin : Statement .closeEventBegin := ⟨fun _ => trivial, fun _ => rfl⟩

theorem pfwAssert : Statement .pfwAssert := ⟨fun _ => trivial, fun _ => rfl⟩

theorem pfwDeassert : Statement .pfwDeassert := ⟨fun _ => trivial, fun _ => rfl⟩

theorem messageFrameReceived (bytes : List Byte) : Statement (.messageFrameReceived bytes) := by
  simp [Statement, Instr.wf, operandsFit, wholeFrame, Config.payloadLimit, and_assoc]
  exact fun _ _ => decide_eq_true_iff

theorem framingError : Statement .framingError := ⟨fun _ => trivial, fun _ => rfl⟩

theorem byteGapExpiry : Statement .byteGapExpiry := ⟨fun _ => trivial, fun _ => rfl⟩

theorem ident : Statement .ident := ⟨fun _ => trivial, fun _ => rfl⟩

theorem status : Statement .status := ⟨fun _ => trivial, fun _ => rfl⟩

theorem clear : Statement .clear := ⟨fun _ => trivial, fun _ => rfl⟩

theorem timeSet : Statement .timeSet := ⟨fun _ => trivial, fun _ => rfl⟩

theorem timeGet : Statement .timeGet := ⟨fun _ => trivial, fun _ => rfl⟩

theorem tableGet : Statement .tableGet := ⟨fun _ => trivial, fun _ => rfl⟩

theorem tablePut : Statement .tablePut := ⟨fun _ => trivial, fun _ => rfl⟩

theorem accountRead : Statement .accountRead := ⟨fun _ => trivial, fun _ => rfl⟩

theorem windowPeek : Statement .windowPeek := ⟨fun _ => trivial, fun _ => rfl⟩

theorem logInfo : Statement .logInfo := ⟨fun _ => trivial, fun _ => rfl⟩

theorem logRead : Statement .logRead := ⟨fun _ => trivial, fun _ => rfl⟩

theorem logReadJobDone (firstOk secondOk : Bool) : Statement (.logReadJobDone firstOk secondOk) :=
  ⟨fun _ => trivial, fun _ => rfl⟩

theorem linkStatus : Statement .linkStatus := ⟨fun _ => trivial, fun _ => rfl⟩

theorem linkRestart : Statement .linkRestart := ⟨fun _ => trivial, fun _ => rfl⟩

theorem pointStatus : Statement .pointStatus := ⟨fun _ => trivial, fun _ => rfl⟩

theorem pointSubstitute : Statement .pointSubstitute := ⟨fun _ => trivial, fun _ => rfl⟩

theorem pointRestore : Statement .pointRestore := ⟨fun _ => trivial, fun _ => rfl⟩

theorem preset : Statement .preset := ⟨fun _ => trivial, fun _ => rfl⟩

theorem mode : Statement .mode := ⟨fun _ => trivial, fun _ => rfl⟩

theorem lock : Statement .lock := ⟨fun _ => trivial, fun _ => rfl⟩

theorem unlock : Statement .unlock := ⟨fun _ => trivial, fun _ => rfl⟩

theorem erase : Statement .erase := ⟨fun _ => trivial, fun _ => rfl⟩

theorem reset : Statement .reset := ⟨fun _ => trivial, fun _ => rfl⟩

theorem unknownRequestKind : Statement .unknownRequestKind := ⟨fun _ => trivial, fun _ => rfl⟩

theorem softResetProceed (marker : AttemptResult) (decayed : List StoreUnit) : Statement (.softResetProceed marker decayed) :=
  ⟨fun _ => trivial, fun _ => rfl⟩

theorem noticeTransmit : Statement .noticeTransmit := ⟨fun _ => trivial, fun _ => rfl⟩

theorem offerFrame (link : LinkId) (content : OfferContent) : Statement (.offerFrame link content) := by
  simp [Statement, Instr.wf, operandsFit, OfferContent.wf, channelsWf, or_assoc]

theorem acceptFrame (link : LinkId) (content : AcceptContent) : Statement (.acceptFrame link content) :=
  by
  simp [Statement, Instr.wf, operandsFit, AcceptContent.wf, channelsWf]

theorem windowFrame (link : LinkId) (frame : WindowFrame) : Statement (.windowFrame link frame) := by
  simp [Statement, Instr.wf, operandsFit, WindowFrame.wf, channelsWf, and_assoc]

theorem invalidFrame (link : LinkId) : Statement (.invalidFrame link) := ⟨fun _ => trivial, fun _ => rfl⟩

theorem damagedWindow (link : LinkId) (seq : Seq) : Statement (.damagedWindow link seq) :=
  ⟨fun _ => trivial, fun _ => rfl⟩

theorem jabberCut (link : LinkId) : Statement (.jabberCut link) := ⟨fun _ => trivial, fun _ => rfl⟩

theorem jabberIdleEnd (link : LinkId) : Statement (.jabberIdleEnd link) :=
  ⟨fun _ => trivial, fun _ => rfl⟩

theorem offerSendPeriod (link : LinkId) : Statement (.offerSendPeriod link) :=
  ⟨fun _ => trivial, fun _ => rfl⟩

theorem acceptSendPeriod (link : LinkId) : Statement (.acceptSendPeriod link) :=
  ⟨fun _ => trivial, fun _ => rfl⟩

theorem linkFrameSend (link : LinkId) : Statement (.linkFrameSend link) :=
  ⟨fun _ => trivial, fun _ => rfl⟩

theorem silenceTimerExpiry (link : LinkId) : Statement (.silenceTimerExpiry link) :=
  ⟨fun _ => trivial, fun _ => rfl⟩

theorem breakHoldExpiry (link : LinkId) : Statement (.breakHoldExpiry link) :=
  ⟨fun _ => trivial, fun _ => rfl⟩

theorem assemblyDeadlineExpiry (seq : Seq) : Statement (.assemblyDeadlineExpiry seq) :=
  ⟨fun _ => trivial, fun _ => rfl⟩

theorem takeWindow (applied : Bool) : Statement (.takeWindow applied) := ⟨fun _ => trivial, fun _ => rfl⟩

theorem windowBoundary : Statement .windowBoundary := ⟨fun _ => trivial, fun _ => rfl⟩

theorem storeJobStart : Statement .storeJobStart := ⟨fun _ => trivial, fun _ => rfl⟩

theorem storeWriteAttemptDone (result : AttemptResult) : Statement (.storeWriteAttemptDone result) :=
  ⟨fun _ => trivial, fun _ => rfl⟩

theorem patrolStepDue : Statement .patrolStepDue := ⟨fun _ => trivial, fun _ => rfl⟩

theorem patrolReadDone (agrees : Bool) : Statement (.patrolReadDone agrees) :=
  ⟨fun _ => trivial, fun _ => rfl⟩

theorem lossOfSupply (left : UnitLeft) : Statement (.lossOfSupply left) :=
  ⟨fun _ => trivial, fun _ => rfl⟩

theorem oscillatorStop : Statement .oscillatorStop := ⟨fun _ => trivial, fun _ => rfl⟩

theorem strayByte (byte : Byte) : Statement (.strayByte byte) := by
  simp [Statement, Instr.wf, operandsFit]

end Sys2Proof.Laws.WellFormedRows
end

