-- ==== Sys2Proof/Laws/Requests.lean ====
section
/-! SUPPORT. What the shared operations of the requests do: answering the oldest frame, and serving it. -/

namespace Sys2Proof.Machine

variable {s : State} {f : MsgFrame} {rest : List MsgFrame}

/-- What `ack` does when a frame is buffered, in the words of the statements. -/
theorem State.ack_eq_acked (h : s.mlc.buffer = f :: rest) (p : List Byte) : s.ack p = s.acked p f rest := by
  unfold State.ack State.finish State.acked State.answered State.transmit State.updMlc
  rw [h]
  dsimp only
  split <;> simp

/-- What `refuse` does when a frame is buffered, in the words of the statements. -/
theorem State.refuse_eq_refused (h : s.mlc.buffer = f :: rest) (r : Reason) :
    s.refuse r = s.refused r f rest := by
  unfold State.refuse State.finish State.refused State.answered State.transmit State.updMlc
  rw [h]
  dsimp only
  split <;> simp

/-- A request that the part serves has its effect on its payload. -/
theorem State.serve_eq {k : RequestKind} (act : List Byte → State → State) (h : s.serves k f rest)
    (hf : k.fits f.payload = true) : s.serve k act = .next (act f.payload s) := by
  obtain ⟨⟨h1, h2, h3, h4⟩, h5, h6⟩ := h
  unfold State.serve State.canServe
  simp only [h1, h2, h3, h4, h5]
  rcases h6 with h6 | h6 <;> simp [h6, hf]

/-- Whatever a request command finds, it goes on, and takes nothing from the queue of commands if its effect
does not. -/
theorem State.serve_next (k : RequestKind) (act : List Byte → State → State)
    (ha : ∀ p u, (act p u).pending = u.pending) :
    ∃ t, s.serve k act = .next t ∧ t.pending = s.pending := by
  have hr : ∀ r : Reason, (s.refuse r).pending = s.pending := by
    intro r
    unfold State.refuse State.finish State.transmit State.updMlc
    split
    · rfl
    · split
      · rfl
      · dsimp only
        split <;> rfl
  unfold State.serve
  split
  · exact ⟨s, rfl, rfl⟩
  · split
    · exact ⟨s, rfl, rfl⟩
    · split
      · exact ⟨s, rfl, rfl⟩
      · split
        · exact ⟨_, rfl, hr _⟩
        · split
          · exact ⟨_, rfl, hr _⟩
          · exact ⟨_, rfl, ha _ _⟩

theorem finOf_of_eq {k n : Nat} (a : Fin k) (h : n = a.val) : finOf k n = some a := by
  subst h
  simp [finOf]

theorem finOf_of_le {k n : Nat} (h : k ≤ n) : finOf k n = none := by
  simp only [finOf]
  split
  · omega
  · rfl

end Sys2Proof.Machine
end

