-- ==== Sys2Proof/Laws/Slots.lean ====
section
/-! SUPPORT. The record slots of the retained store: reading after a write or an erasure, and the canonical
form, which every operation on the store keeps (R130). -/

namespace Sys2Proof.Machine

variable {n m : Nat} {r : IntervalRecord} {slots : List (Nat × IntervalRecord)}

/-! ## Reading -/

theorem readSlot_writeSlot_same : readSlot n (writeSlot n r slots) = some r := by
  induction slots with
  | nil => simp [writeSlot, readSlot]
  | cons p rest ih =>
    obtain ⟨k, q⟩ := p
    unfold writeSlot
    split
    · simp [readSlot]
    · split
      · simp [readSlot]
      · rename_i h1 h2
        have hk : ¬ k = n := fun h => h2 h.symm
        simpa [readSlot, List.find?_cons, hk] using ih

theorem readSlot_writeSlot_other (h : m ≠ n) : readSlot m (writeSlot n r slots) = readSlot m slots := by
  induction slots with
  | nil => simp [writeSlot, readSlot, Ne.symm h]
  | cons p rest ih =>
    obtain ⟨k, q⟩ := p
    have hn : ¬ n = m := Ne.symm h
    unfold writeSlot
    split
    · simp [readSlot, hn]
    · split
      · rename_i h1 h2
        subst h2
        simp [readSlot, hn]
      · by_cases hk : k = m
        · simp [readSlot, hk]
        · simpa [readSlot, List.find?_cons, hk] using ih

theorem readSlot_eraseSlot_same : readSlot n (eraseSlot n slots) = none := by
  simp [readSlot, eraseSlot]

theorem readSlot_eraseSlot_other (h : m ≠ n) : readSlot m (eraseSlot n slots) = readSlot m slots := by
  induction slots with
  | nil => simp [eraseSlot]
  | cons p rest ih =>
    obtain ⟨k, q⟩ := p
    have hn : ¬ n = m := Ne.symm h
    by_cases hk : k = n
    · subst hk
      simpa [eraseSlot, readSlot, List.find?_cons, hn] using ih
    · by_cases hm : k = m
      · subst hm
        simp [eraseSlot, readSlot, hk]
      · simpa [eraseSlot, readSlot, List.find?_cons, hk, hm] using ih

/-! ## The canonical form -/

theorem mem_writeSlot {p : Nat × IntervalRecord} (h : p ∈ writeSlot n r slots) :
    p = (n, r) ∨ p ∈ slots := by
  induction slots with
  | nil => simpa [writeSlot] using h
  | cons q rest ih =>
    obtain ⟨k, x⟩ := q
    unfold writeSlot at h
    split at h
    · simpa using h
    · split at h
      · rcases List.mem_cons.1 h with h | h
        · exact .inl h
        · exact .inr (List.mem_cons_of_mem _ h)
      · rcases List.mem_cons.1 h with h | h
        · exact .inr (h ▸ List.mem_cons_self)
        · exact (ih h).imp id (List.mem_cons_of_mem _)

theorem writeSlot_wf (hn : n < Config.slotCount) (h : slotsWf slots = true) :
    slotsWf (writeSlot n r slots) = true := by
  simp only [slotsWf, Bool.and_eq_true, List.all_eq_true, decide_eq_true_eq] at h ⊢
  obtain ⟨hall, hp⟩ := h
  refine ⟨fun p hp' => ?_, ?_⟩
  · rcases mem_writeSlot hp' with rfl | hm
    · exact hn
    · exact hall p hm
  · clear hall
    induction slots with
    | nil => simp [writeSlot]
    | cons q rest ih =>
      obtain ⟨k, x⟩ := q
      obtain ⟨h1, h2⟩ := List.pairwise_cons.1 hp
      unfold writeSlot
      split
      · rename_i hlt
        refine List.pairwise_cons.2 ⟨fun p hp' => ?_, hp⟩
        rcases List.mem_cons.1 hp' with rfl | hm
        · exact hlt
        · exact Nat.lt_trans hlt (h1 p hm)
      · split
        · rename_i h3
          subst h3
          exact List.pairwise_cons.2 ⟨h1, h2⟩
        · rename_i h3 h4
          refine List.pairwise_cons.2 ⟨fun p hp' => ?_, ih h2⟩
          rcases mem_writeSlot hp' with rfl | hm
          · show k < n
            omega
          · exact h1 p hm

theorem eraseSlot_wf (h : slotsWf slots = true) : slotsWf (eraseSlot n slots) = true := by
  simp only [slotsWf, Bool.and_eq_true, List.all_eq_true, decide_eq_true_eq, eraseSlot] at h ⊢
  exact ⟨fun p hp => h.1 p (List.mem_filter.1 hp).1, decide_eq_true (h.2.filter _)⟩

/-- A job that writes a record writes a slot that exists. -/
def Job.slotOk : Job → Prop
  | .record _ n => n < Config.slotCount
  | _ => True

theorem Store.put_wf {job : Job} {st : Store} (hj : job.slotOk) (h : slotsWf st.slots = true) :
    slotsWf (st.put job).slots = true := by
  cases job with
  | record q k => exact writeSlot_wf hj h
  | block c loc => cases loc <;> exact h
  | _ => exact h

theorem Store.tear_wf {job : Job} {st : Store} (h : slotsWf st.slots = true) :
    slotsWf (st.tear job).slots = true := by
  cases job with
  | record q k => exact eraseSlot_wf h
  | block c loc => cases loc <;> exact h
  | _ => exact h

theorem Store.leave_wf {left : UnitLeft} {job : Job} {st : Store} (hj : job.slotOk)
    (h : slotsWf st.slots = true) : slotsWf (st.leave left job).slots = true := by
  cases left with
  | untouched => exact h
  | torn => exact Store.tear_wf h
  | complete => exact Store.put_wf hj h

theorem Store.decay_wf {u : StoreUnit} {st : Store} (h : slotsWf st.slots = true) :
    slotsWf (st.decay u).slots = true := by
  cases u with
  | slot k => exact eraseSlot_wf h
  | _ => exact h

theorem reset_slots_wf : slotsWf State.reset.store.slots = true := rfl

/-! ## The slots that are chosen -/

theorem nextGood_lt (bad : List Nat) (fuel : Nat) (h : n < Config.slotCount) :
    nextGood bad fuel n < Config.slotCount := by
  induction fuel generalizing n with
  | zero => exact h
  | succ k ih =>
    unfold nextGood
    split
    · exact ih (Nat.mod_lt _ (by decide))
    · exact h

theorem StoreMap.goodFrom_lt (map : StoreMap) (k : Nat) : map.goodFrom k < Config.slotCount :=
  nextGood_lt _ _ (Nat.mod_lt _ (by decide))

theorem Controller.nextSlot_lt (c : Controller) : c.nextSlot < Config.slotCount := by
  unfold Controller.nextSlot
  split <;> exact StoreMap.goodFrom_lt _ _

end Sys2Proof.Machine
end

