-- ==== Sys2Proof/Tests/Slice0.lean ====
section
/-! SUPPORT. Tests: ill-formed commands that `Instr.wf` refuses, the worked figures of the spec, link frames
written out from chapter 12, and, for every statement with hypotheses, states that meet them. -/

set_option maxRecDepth 20000

namespace Sys2Proof.Tests

open Machine

/-! ## Small states -/

/-- A time of 1,000 s. -/
def day : Timekeeper := { seconds := 1000, millis := 0, valid := true, stopDetected := false }

/-- An interval open since 900 s, with partials of API 1,000 and RQ1 600. -/
def interval : Interval :=
  { Interval.fresh true 900 false with
    partials := Vector.ofFn fun i => if i.val = 0 then 1000 else if i.val = 2 then 600 else 0 }

/-- METERING at 1,000 s, every account OPEN, the next boundary at 1,800 s. -/
def metering : State :=
  { State.reset with
    tk := day
    cm := { State.reset.cm with mode := .metering }
    ia :=
      { accounts := Vector.replicate 8
          { interval := some interval, regs := Vector.replicate 25 Register.zero
            residues := Vector.replicate 24 0, gapMark := false, inFlight := false, blockOwed := false }
        nextBoundary := some 1800, pendingBoundary := none, nextSeq := 1, waiting := [] } }

/-- A state with a supply monitor state. -/
def supplied (x : SupplyState) (s : State) : State := { s with sm := { s.sm with state := x } }

/-- A state that is HALTED. -/
def halted (s : State) : State := { s with rsc := { s.rsc with halted := true } }

/-- The frame of a request with tag 7. -/
def frameOf (kind : Byte) (payload : List Byte) : MsgFrame := ⟨false, kind, 7, payload⟩

/-- A state with one request in the receive buffer. -/
def asked (kind : Byte) (payload : List Byte) (s : State) : State :=
  { s with mlc := { s.mlc with buffer := [frameOf kind payload] } }

/-- A store controller in which job `j` runs and nothing is queued. -/
def quiet (j : Option ActiveJob) : Controller :=
  { State.reset.rsc with
    saveQueue := none, blockQueue := [], recordQueue := [], configQueue := [], running := j }

/-- A state whose store controller runs a job. -/
def storing (j : Option ActiveJob) (s : State) : State := { s with rsc := quiet j }

/-- One voltage and one current slot. -/
def content : AcceptContent := ⟨.hz50, .basic, [.voltage, .current]⟩

/-- An OFFER that resolves to `content`. -/
def offer : OfferContent := ⟨.hz50, { basic := true, extended := false, full := false }, content.kinds⟩

/-- A state with link 0 replaced. -/
def onLink (k : Link) (s : State) : State := { s with links := s.links.set 0 k }

/-- A link in ACKNOWLEDGING with `n` equal ACCEPTs received. -/
def acknowledging (n : Nat) : Link :=
  { Link.reset with
    state := .acknowledging, candidate := some content, acceptRun := n, silence := some 300
    sendTimer := some 5, lastOffer := some offer, waiting := [.accept content] }

/-- A link UP, its window 1 lost. -/
def upLink (fixed : Bool) : Link :=
  { Link.reset with
    state := .up fixed, resolved := some content, offset := some 0, silence := some 300, lost := [1] }

/-- A WINDOW frame of `content`. -/
def window (seq : Seq) : WindowFrame :=
  { seq := seq, duration := 140000, orders := 25, channels := 2, inputs := 1
    blocks := List.replicate 50 ⟨1, 0x668A, 0xDE4F⟩ }

/-- An open record at a sequence, whose deadline is 100. -/
def recordAt (seq : Seq) : AssemblyRecord :=
  { seq := seq, firstArrival := 0, duration := 200000, offFreq := false, expected := 3, arrived := 1
    deadline := 100 }

/-- METERING, link 0 UP with frame 2 buffered, the record of it expired. -/
def assembling : State :=
  { metering with
    timeBase := 100
    links := metering.links.set 0 { upLink false with lost := [0] }
    wa :=
      { Assembler.reset with
        buffers := Assembler.reset.buffers.set 0 [⟨2, window 2⟩], records := [recordAt 2] } }

/-- A state with a window in processing whose results are applied, and one change queued. -/
def bounding (c : Change) (s : State) : State :=
  { s with
    wa := { s.wa with processing := some ⟨0, 200000, 0, none⟩ }
    cm := { s.cm with queue := [⟨4, c⟩] } }

/-- A record as a close builds it. -/
def closed : IntervalRecord :=
  buildRecord ContractTable.default 1 3 .boundary 900 interval
    (closedRegs 410 interval (Vector.replicate 25 Register.zero))

/-- The state after a command. -/
def after (c : Instr) (s : State) : State :=
  match exec c s with
  | .next t => t
  | _ => s

/-! ## Well-formedness: each check refuses a term that breaks it -/

theorem test_wf_refuses_offer_without_profile :
    Instr.wf (.offerFrame 0 { offer with profiles := ⟨false, false, false⟩ }) = false := by decide

theorem test_wf_refuses_offer_without_channels :
    Instr.wf (.offerFrame 0 { offer with kinds := [] }) = false := by decide

theorem test_wf_refuses_accept_with_13_channels :
    Instr.wf (.acceptFrame 0 { content with kinds := List.replicate 13 .voltage }) = false := by decide

theorem test_wf_refuses_window_of_26_orders :
    Instr.wf (.windowFrame 0 { window 0 with orders := 26 }) = false := by decide

theorem test_wf_refuses_window_with_a_block_missing :
    Instr.wf (.windowFrame 0 { window 0 with blocks := (window 0).blocks.tail }) = false := by decide

theorem test_wf_refuses_frame_without_start_byte :
    Instr.wf (.messageFrameReceived (0xA4 :: (msgBytes 0 1 7 []).tail)) = false := by decide

theorem test_wf_refuses_frame_cut_short :
    Instr.wf (.messageFrameReceived (msgBytes 0 1 7 []).dropLast) = false := by decide

theorem test_wf_refuses_overlong_length :
    Instr.wf (.messageFrameReceived [0xA5, 0, 1, 7, 0x01, 0x04, 0, 0]) = false := by decide

theorem test_wf_refuses_stray_start_byte : Instr.wf (.strayByte 0xA5) = false := by decide

theorem test_wf_accepts :
    (Instr.wf (.offerFrame 0 offer) && Instr.wf (.windowFrame 0 (window 0)) &&
      Instr.wf (.messageFrameReceived (msgBytes 0 1 7 [])) && Instr.wf (.strayByte 0)) = true := by
  decide

/-! ## Figures of the spec -/

/-- The check values of R203. -/
theorem test_check_values :
    crc16 [0x31, 0x32, 0x33, 0x34, 0x35, 0x36, 0x37, 0x38, 0x39] = 0x29B1#16 ∧
    crc32 [0x31, 0x32, 0x33, 0x34, 0x35, 0x36, 0x37, 0x38, 0x39] = 0xCBF43926#32 := by decide

/-- Chapter 12, one phasor block. -/
theorem test_phasor_block :
    readBlocks [0x01, 0x8A, 0x66, 0x4F, 0xDE] =
      [{ exponent := 1, re := 0x668A, im := 0xDE4F }] ∧
    expand 1 0x668A = 52500 ∧ expand 1 0xDE4F = -17250 := by decide

/-- R3: an exponent above 7 is used as 7, and R18's figures for an RQ1 of three windows. -/
theorem test_exponent_clamp : expand 15 0x8000 = -4194304 ∧ expand 7 0x7FFF = 4194176 := by decide

/-- Chapter 1, one phase, three windows: the RQ1 partial grows by 547,768 and the residue ends at 0. -/
theorem test_three_windows :
    let step := fun x : Interval × Vector Nat 24 => applyEnergy 200000 x.1 x.2 (2, 3286608000)
    let x := step (step (step (Interval.fresh true 0 false, Vector.replicate 24 0)))
    x.1.partials[2] = 547768 ∧ x.2[2] = 0 := by decide

/-- R2, R14 and R15: the quadrants, with the signs of zero. -/
theorem test_quadrants :
    quadrant 1 1 = 2 ∧ quadrant (-1) 1 = 3 ∧ quadrant (-1) (-1) = 4 ∧ quadrant 1 (-1) = 5 ∧
    quadrant 0 0 = 2 ∧ quadrant (-1) 0 = 3 ∧ quadrant 0 (-1) = 5 := by decide

/-- R38 with k = 410, 0 and 1024. -/
theorem test_excess : excess 410 1000 600 = 200 ∧ excess 0 1000 600 = 600 ∧ excess 1024 1000 600 = 0 := by
  decide

/-- R31, R37: the boundary at 1,800 s closes all eight accounts, and the next one is 15 minutes on. -/
theorem test_boundary_closes :
    (after .intervalBoundary metering).ia.nextBoundary = some 2700 ∧
      (after .intervalBoundary metering).ia.nextSeq = 9 := by decide

/-- Chapter 1, an account of three points over two windows: the net vector of the three terms, and the open
partials and residues after both windows. -/
theorem test_account_of_three_points :
    let vector := fun p : PointId =>
      if p = 0 then (⟨30000000000, 9000000000, -150000000,
        #v[40000000, 30000000, 0, 0, 0, 0, 0, 0]⟩ : PointVector)
      else if p = 1 then ⟨28000000000, 8400000000, 160000000, #v[38000000, -42000000, 0, 0, 0, 0, 0, 0]⟩
      else ⟨-12000000000, -3000000000, 10000000, #v[-2000000, 6000000, 0, 0, 0, 0, 0, 0]⟩
    let bands : Vector (Option Band) 8 :=
      #v[some ⟨5, 7⟩, some ⟨11, 13⟩, none, none, none, none, none, none]
    let net := sumTerms vector [⟨0, false⟩, ⟨1, false⟩, ⟨5, true⟩]
    let x := applyAll 200000 (chosen bands net) (Interval.fresh true 0 false, Vector.replicate 24 0)
    let y := applyAll (clampDuration 260000).1 (chosen bands net) x
    net.p1 = 70000000000 ∧ net.qh = 0 ∧ net.pb[1] = -18000000 ∧
    x.2[0] = 3200000000 ∧ x.2[2] = 1200000000 ∧ x.2[8] = 1600000000 ∧ x.1.partials[17] = 1000 ∧
    y.1.partials[0] = 8750000 ∧ y.1.partials[2] = 2550000 ∧ y.1.partials[8] = 10000 ∧
    y.1.partials[17] = 2250 ∧ y.1.partials[6] = 0 ∧ y.2 = Vector.replicate 24 0 := by decide

/-- Chapter 1, the shadow mean: rounded toward zero, and 0 for a count of 0. -/
theorem test_shadow_mean :
    shadowMean (-1250000005) 4 = -312500001 ∧ shadowMean 7 4 = 1 ∧ shadowMean 7 0 = 0 := by decide

/-- Chapter 2, a boundary close and a saturated register. -/
theorem test_boundary_close_figures :
    excess 410 7502000000 3900000000 = 896269532 ∧
    (Register.add 896269532 false { Register.zero with value := 5000000000 }).value = 5896269532 ∧
    Register.add 8750000 false { Register.zero with value := 18446744073708000000 } =
      { Register.zero with value := 18446744073709551615, saturated := true } := by decide

/-- Chapter 12, the leading bytes of the record of account 3's boundary close, and its length. -/
theorem test_record_image :
    let r : IntervalRecord :=
      { closed with seq := 4103, startTime := 1700000100, endTime := 1700001000 }
    r.fields.take 15 =
      [0x07, 0x10, 0x00, 0x00, 0x64, 0xF1, 0x53, 0x65, 0xE8, 0xF4, 0x53, 0x65, 0x03, 0x0F, 0x01] ∧
    r.fields.length = 457 := by decide

/-- An OFFER written out by R208: class 50 Hz, all profiles, 6 channels, slots 3 to 5 CURRENT; its CRC-32 is
from outside the model. -/
theorem test_reads_an_offer :
    readLinkFrame 2 [0x01, 0x05, 0x00, 0x00, 0x07, 0x06, 0x38, 0x00, 0xA0, 0x08, 0x75, 0x75] =
      .offerFrame 2 ⟨.hz50, ⟨true, true, true⟩,
        [.voltage, .voltage, .voltage, .current, .current, .current]⟩ := by decide

/-- A WINDOW cut after its header, written out by R208: sequence 0x1234, 200,000 µs, 25 orders, 12 channels;
its header check is from outside the model. -/
theorem test_reads_a_damaged_window :
    readLinkFrame 1
      [0x04, 0xE8, 0x05, 0x34, 0x12, 0x40, 0x0D, 0x03, 0x00, 0x19, 0x0C, 0x05, 0x00, 0x0F, 0x83] = .damagedWindow 1 0x1234 := by
  decide

/-- A STATUS request with tag 7 for address 0, written out by R204; its CRC-16 is from outside the model. -/
theorem test_message_frame : msgBytes 0 2 7 [] = [0xA5, 0x00, 0x02, 0x07, 0x00, 0x00, 0xF4, 0x79] := by
  decide

/-- R181: a window processed during the wait of a soft reset adds nothing to the accounts. -/
theorem test_soft_reset_wait_adds_nothing :
    (after (.takeWindow true)
      { assembling with mlc := { assembling.mlc with resetTaken := true } }).ia = assembling.ia := by
  decide

/-! ## States that meet the premises of the statements -/

/-- A request in the receive buffer of a state that can serve it is served. -/
theorem asked_serves (k : RequestKind) (payload : List Byte) (s : State)
    (h : (s.powered && s.mlc.inService.isNone && !s.mlc.resetTaken &&
      (!s.rsc.halted || k.servedInHalted)) = true) :
    State.serves k (frameOf k.code payload) [] (asked k.code payload s) := by
  simp only [Bool.and_eq_true, Bool.or_eq_true, Bool.not_eq_true', Option.isNone_iff_eq_none] at h
  exact ⟨⟨h.1.1.1, h.1.1.2, h.1.2, rfl⟩, rfl, h.2⟩

theorem test_premises_IdleStepIsOneMillisecond :
    metering.pending = [] ∧ metering.powered = true ∧ metering.tk.millis < 1000 ∧
    metering.tk.seconds * 1000 + metering.tk.millis + 1 < 4294967296000 := by decide

theorem test_premises_CapacitiesAreKept :
    State.reset.capacitiesOk ∧ step State.reset = .next (State.reset.advance 1) := by
  refine ⟨?_, rfl⟩
  unfold State.capacitiesOk
  decide

/-- A record write stands preempted while the save runs, and the save ends. -/
theorem test_premises_PreemptionIsKept :
    let s := { storing (some ⟨.save .clean, 1⟩) metering with
      pending := [.storeWriteAttemptDone .verified]
      rsc := { quiet (some ⟨.save .clean, 1⟩) with preempted := some ⟨.record closed 0, 3⟩ } }
    s.jobsOk ∧ ∃ t, step s = .next t ∧ t.rsc.running = none ∧ t.rsc.preempted ≠ none :=
  ⟨fun _ => .inr ⟨_, _, rfl⟩, _, rfl, by decide, by decide⟩

theorem test_premises_RecordSlotsAreKept :
    State.reset.slotsOk ∧ step State.reset = .next (State.reset.advance 1) :=
  ⟨⟨by decide, trivial, trivial⟩, rfl⟩

theorem test_premises_ResiduesAreKept :
    metering.residuesOk ∧ metering.countsOk ∧ step metering = .next (metering.advance 1) := by
  refine ⟨⟨?_, ?_, ?_, trivial, trivial, ?_, ?_, ?_⟩, ⟨?_, ?_, trivial, trivial, ?_, ?_⟩, rfl⟩
  · unfold residuesBelow; decide
  · unfold residuesBelow; decide
  · unfold residuesBelow; decide
  · intro a; fin_cases a <;> trivial
  · intro a; fin_cases a <;> trivial
  · intro b h; cases h
  · intro a iv h
    have : (metering.ia.accounts[a]).interval = some interval := by fin_cases a <;> rfl
    rw [this] at h
    cases h
    unfold WindowCounts.ok
    decide
  · intro r h; cases h
  · intro r h; cases h
  · intro b h; cases h

theorem test_premises_AlignmentIsKept :
    assembling.alignmentOk ∧ step assembling = .next (assembling.advance 1) := by
  have front : assembling.wa.front = 0 := rfl
  have records : assembling.wa.records.map (·.seq) = [2] := rfl
  refine ⟨⟨?_, fun l => ?_⟩, rfl⟩
  · rw [front, records]
    exact ⟨by simp, by simp⟩
  · have buffers : (assembling.wa.buffers[l]).map (·.seq) = if l = 0 then [2] else [] := by
      fin_cases l <;> rfl
    have lost : (assembling.links[l]).lost = if l = 0 then [0] else [] := by fin_cases l <;> rfl
    have apart : ∀ b ∈ assembling.wa.buffers[l], b.seq = 2 := by
      intro b hb
      have := List.mem_map_of_mem (f := (·.seq)) hb
      rw [buffers] at this
      split at this <;> simp_all
    refine ⟨?_, ?_, fun b hb => ?_⟩
    · rw [front, buffers]; split <;> exact ⟨by simp, by simp⟩
    · rw [front, lost]; split <;> exact ⟨by simp, by simp⟩
    · rw [apart b hb, lost]; split <;> simp

theorem test_premises_HaltedUntilReset :
    (halted metering).rsc.halted = true ∧ restarts .timeGet = false ∧
    exec .timeGet (halted metering) = .next (halted metering) := ⟨rfl, rfl, rfl⟩

theorem test_premises_HaltedKeepsAccountsAndPoints :
    (halted metering).rsc.halted = true ∧ restarts .framingError = false ∧
    exec .framingError (halted metering) = .next (after .framingError (halted metering)) :=
  ⟨rfl, rfl, rfl⟩

theorem test_premises_NoCloseOutsideNormal :
    (supplied .saving metering).sm.state ≠ .normal ∧
    (after .intervalBoundary (supplied .saving metering)).sm.state ≠ .normal ∧
    restarts .intervalBoundary = false ∧
    exec .intervalBoundary (supplied .saving metering) =
      .next (after .intervalBoundary (supplied .saving metering)) := by
  refine ⟨by decide, by decide, rfl, rfl⟩

theorem test_premises_LinkFramesReadBack :
    offer.wf = true ∧ content.wf = true ∧ (window 65535).wf = true := by decide

theorem test_premises_TablePartsReadBack :
    TablePart.inRange (.points 15 { PointEntry.default with un := 4194304 }) = true ∧
    TablePart.inRange (.settle 100) = true ∧
    TablePart.inRange (.composition 3 7 [⟨15, true⟩]) = true ∧
    TablePart.inRange (.bands 7 (some ⟨2, 50⟩)) = true := by decide

/-- A register below its limit, an OPEN account and one that is not, and counts that can and cannot grow. -/
theorem test_premises_EnergyIsConserved :
    interval.partials[(0 : Fin 24).castSucc] +
      (5000000000 * 200000 + (Vector.replicate 24 3599999999)[(0 : Fin 24)]) / 3600000000
      ≤ 18446744073709551615 ∧
    (metering.ia.accounts[(0 : Fin 8)]).interval = some interval ∧
    (State.reset.ia.accounts[(0 : Fin 8)]).interval = none ∧ interval.counts.total < 4294967295 ∧
    4294967295 ≤ ({ interval.counts with total := 4294967295 } : WindowCounts).total := by decide

/-- A point on link 0, delivered and not delivered, on a resolved link and on none. -/
theorem test_premises_PointStage :
    let e : PointEntry :=
      { PointEntry.default with
        phases := PointEntry.default.phases.set 0 ⟨some ⟨0, 0⟩, some ⟨0, 1⟩, false⟩ }
    let w : Window := { seq := 0, duration := 200000, offFreq := false
                        frames := #v[some (window 0), none, none, none] }
    missReason assembling.links w e.used = none ∧ e.used ≠ [] ∧ PointEntry.default.used = [] ∧
    ((references e.used).map fun x => x.1.link) = [0, 0] ∧
    (assembling.links[(0 : Fin 4)]).resolved = some content ∧
    (metering.links[(0 : Fin 4)]).resolved = none ∧
    missReason assembling.links { w with frames := Vector.replicate 4 none } e.used =
      some .noFrame := by decide

/-- A window in which entry 0 matches, and one in which breaker 0 reports. -/
theorem test_premises_TopologyResolution :
    let t := { Tables.default with
      breakers := { Tables.default.breakers with
        entries := Tables.default.breakers.entries.set 0 (some ⟨0, 0⟩) } }
    let w : Window := { seq := 0, duration := 200000, offFreq := false
                        frames := #v[some (window 0), none, none, none] }
    (t.topology[(0 : Fin 4)]).valid = true ∧ t.breakers.entries[(0 : Fin 8)] = some ⟨0, 0⟩ ∧
    breakerReport w ⟨0, 0⟩ = .closed ∧ breakerReport w ⟨1, 0⟩ = .noReport ∧
    breakerReport w ⟨0, 1⟩ = .disagree := by decide

/-- A soft reset that may proceed, in NORMAL and HALTED. -/
theorem test_premises_SoftResetProceeds :
    let s := storing none { metering with mlc := { metering.mlc with resetTaken := true } }
    s.powered = true ∧ s.mlc.resetTaken = true ∧ s.rsc.idle = true ∧ s.ia.waiting = [] ∧
    s.rsc.halted = false ∧ s.sm.state = .normal ∧ (halted s).rsc.halted = true := by decide

theorem test_premises_PowerOnAndPinReset : State.reset.powered = true := rfl

theorem test_premises_SupplyLossAndOscillatorStop :
    let writing := storing (some ⟨.block (RegContent.lost 3) (.register 3), 2⟩) metering
    metering.powered = true ∧ metering.rsc.running = none ∧
    (after (.lossOfSupply .torn) metering).powered = false ∧ writing.powered = true ∧
    writing.rsc.running = some ⟨.block (RegContent.lost 3) (.register 3), 2⟩ := by decide

theorem test_premises_SecondsWrap :
    metering.tk.seconds ≤ 4294967295 ∧ metering.tk.millis < 1000 ∧ metering.powered = true ∧
    metering.tk.valid = true ∧ (after (.lossOfSupply .torn) metering).powered = false ∧
    (after (.lossOfSupply .torn) metering).tk = metering.tk := by decide

theorem test_premises_IntervalBoundary :
    (metering.powered = true ∧ metering.tk.valid = true ∧ metering.ia.nextBoundary = some 1800 ∧
      metering.tk.seconds ≤ 1800 ∧ metering.tk.millis < 1000) ∧ metering.closesReady ∧
    (supplied .saved metering).sm.state ≠ .normal ∧ (supplied .saved metering).rsc.halted = false ∧
    (halted metering).rsc.halted = true ∧ (halted metering).ia.nextBoundary = some 1800 := by
  unfold State.closesReady
  decide

/-- METERING with nine records in the record class, so that eight closes wait (R133). -/
def crowded : State :=
  { metering with rsc := { metering.rsc with recordQueue := List.replicate 9 closed } }

/-- The boundary joins the events that wait, and no account changes (R133). -/
theorem test_premises_closesWait :
    crowded.closesWait ∧ crowded.ia.waiting = [] ∧ crowded.cm.mode = .metering ∧
    (after .intervalBoundary crowded).ia.waiting = [⟨.boundary, 1800, .atBoundary, false, false⟩] ∧
    (after .intervalBoundary crowded).ia.accounts = crowded.ia.accounts ∧
    (after .intervalBoundary crowded).powered = true ∧
    (after .intervalBoundary crowded).rsc.freePlaces < (after .intervalBoundary crowded).openCount := by
  unfold State.closesWait
  decide

/-- A boundary that waited for record places. -/
def waiting : State :=
  { metering with
    ia := { metering.ia with waiting := [⟨.boundary, 900, .atBoundary, false, false⟩] } }

theorem test_premises_WaitingEventBegins :
    waiting.powered = true ∧ waiting.sm.state = .normal ∧ waiting.rsc.halted = false ∧
    waiting.openCount = 8 ∧ waiting.openCount ≤ waiting.rsc.freePlaces ∧
    waiting.ia.nextSeq + waiting.openCount ≤ 4294967296 ∧ waiting.mlc.inService = none ∧
    (let last := { waiting with ia := { waiting.ia with nextSeq := 4294967289 } };
      0 < last.openCount ∧ 4294967296 < last.ia.nextSeq + last.openCount) := by decide

/-- A TIME.SET whose closes lack the places is in service until they are made, and is then answered (R169, R194). -/
theorem test_time_set_waits :
    let s := after .timeSet (asked 4 (leBytes 4 1003 ++ leBytes 2 0) crowded)
    let u := after .closeEventBegin { s with rsc := quiet none }
    s.mlc.inService = some .timeSet ∧ s.mlc.tx = [] ∧ s.mlc.buffer.length = 1 ∧
    u.mlc.inService = none ∧ u.mlc.tx.length = 1 ∧ u.mlc.buffer = [] ∧ u.ia.nextSeq = 9 := by decide

theorem test_premises_PowerFailWarning :
    let saved := supplied .saved metering
    let held := { saved with ia := { saved.ia with pendingBoundary := some 900 } }
    (metering.powered = true ∧ metering.mlc.inService = none ∧ metering.sm.state = .normal) ∧
    (supplied .saving metering).sm.state = .saving ∧
    (saved.sm.state = .saved ∧ saved.ia.pendingBoundary = none) ∧
    (held.sm.state = .saved ∧ held.ia.pendingBoundary = some 900 ∧ held.rsc.halted = false ∧
      held.ia.waiting = [] ∧ held.openCount ≤ held.rsc.freePlaces ∧
      held.ia.nextSeq + held.openCount ≤ 4294967296 ∧ held.tk.valid = true) := by decide

theorem test_premises_MessageFrameIsJudged :
    metering.powered = true ∧ metering.mlc.received = none ∧
    (List.replicate 1024 (0 : Byte)).length ≤ 1024 ∧ ([0, 0] : List Byte).length = 2 := by
  refine ⟨rfl, rfl, ?_, rfl⟩
  simp

/-- A header that names 1,025 bytes, and a frame that comes in two pieces (R191). -/
theorem test_frames_in_pieces :
    let part := after (.messageFrameReceived [0xA5, 0, 2, 7, 0]) metering
    (after (.messageFrameReceived [0xA5, 0, 2, 7, 1, 4]) metering).mlc.counters.lengthErrors = 1 ∧
    part.mlc.received = some [0, 2, 7, 0] ∧ part.mlc.sinceByte ≤ 10 ∧ part.powered = true ∧
    (after (.messageFrameReceived [0, 0xF4, 0x79]) part).mlc.buffer = [⟨false, 2, 7, []⟩] := by decide

theorem test_premises_ReceiverDiscards :
    let s := after (.strayByte 0xA5) metering
    metering.powered = true ∧ metering.mlc.received = none ∧ s.powered = true ∧
    s.mlc.received = some [] ∧ s.mlc.sinceByte ≤ 10 ∧
    (s.advance 11).mlc.received.isSome = true ∧ 10 < (s.advance 11).mlc.sinceByte := by decide

theorem test_premises_NoticeTransmits :
    State.reset.powered = true ∧ State.reset.cu.noticePending = true := ⟨rfl, rfl⟩

/-- An unknown kind, a wrong length, and a kind that HALTED does not serve. -/
theorem test_premises_RefusalOrder :
    State.takes (frameOf 0 []) [] (asked 0 [] metering) ∧
    State.takes (frameOf 23 []) [] (asked 23 [] metering) ∧
    (State.takes (frameOf 6 [10, 0]) [] (asked 6 [10, 0] metering) ∧
      RequestKind.tableGet.fits [10, 0] = false) ∧
    (State.takes (frameOf 5 []) [] (asked 5 [] (halted metering)) ∧
      RequestKind.timeGet.fits [] = true) := by
  unfold State.takes
  decide

theorem test_premises_ReadRequestsAnswer :
    State.serves .ident (frameOf 1 []) [] (asked 1 [] (halted metering)) ∧
    State.serves .timeGet (frameOf 5 []) [] (asked 5 [] metering) ∧
    State.serves .windowPeek (frameOf 9 []) [] (asked 9 [] metering) ∧
    State.serves .logInfo (frameOf 10 []) [] (asked 10 [] metering) ∧
    State.serves .accountRead (frameOf 8 [7]) [] (asked 8 [7] metering) ∧
    State.serves .accountRead (frameOf 8 [8]) [] (asked 8 [8] metering) ∧
    State.serves .linkStatus (frameOf 12 [3]) [] (asked 12 [3] metering) ∧
    State.serves .pointStatus (frameOf 14 [16]) [] (asked 14 [16] metering) ∧
    State.serves .tableGet (frameOf 6 [3, 8]) [] (asked 6 [3, 8] metering) ∧
    State.serves .tableGet (frameOf 6 [11]) [] (asked 6 [11] metering) ∧
    metering.cm.tables.holds (.settle 20) = true ∧
    byteOf (tableCode (TablePart.settle 20).table) :: (TablePart.settle 20).selector = [3, 8] := by
  refine ⟨?_, ?_, ?_, ?_, ?_, ?_, ?_, ?_, ?_, ?_, by decide, by decide⟩ <;>
    exact asked_serves _ _ _ (by decide)

/-- METERING under HOLD. -/
def holding : State :=
  { metering with
    cm := { metering.cm with
      tables := { metering.cm.tables with
        notice := { metering.cm.tables.notice with discipline := .hold } } } }

theorem test_premises_StatusAndClearAnswer :
    (metering.cu.flags[(14 : Fin 16)] = true ∧ metering.cu.sources[(14 : Fin 16)] = true ∧
      metering.cu.flags[(10 : Fin 16)] = false ∧ metering.cu.sources[(10 : Fin 16)] = false) ∧
    (State.serves .status (frameOf 2 []) [] (asked 2 [] (halted metering)) ∧
      metering.cm.tables.notice.discipline = .follow) ∧
    State.serves .clear (frameOf 3 [255, 255]) [] (asked 3 [255, 255] metering) ∧
    (State.serves .clear (frameOf 3 [0, 8]) [] (asked 3 [0, 8] holding) ∧
      holding.cm.tables.notice.discipline = .hold) := by
  unfold State.serves State.takes
  decide

/-- A TIME.SET of `s` seconds and `m` ms. -/
def timeSet (s m : Nat) : List Byte := leBytes 4 s ++ leBytes 2 m

theorem test_premises_TimeSetSmallStep :
    let near := { metering with ia := { metering.ia with nextBoundary := some 1002 } }
    let idle := { State.reset with tk := day }
    (∀ x ∈ [timeSet 1002 0, timeSet 998 0, timeSet 1000 1000],
      State.serves .timeSet (frameOf 4 x) [] (asked 4 x near)) ∧ near.ia.waiting = [] ∧
    near.tk.valid = true ∧ near.tk.ms = 1000000 ∧ near.ia.nextBoundary = some 1002 ∧
    near.closesReady ∧ (supplied .saving near).sm.state ≠ .normal ∧ near.cm.mode = .metering ∧
    (State.serves .timeSet (frameOf 4 (timeSet 999 500)) [] (asked 4 (timeSet 999 500) idle) ∧
      idle.ia.waiting = [] ∧ idle.tk.valid = true ∧ idle.tk.ms = 1000000 ∧
      idle.cm.mode = .commissioning) := by
  unfold State.serves State.takes State.closesReady
  decide

/-- In COMMISSIONING a small step back over a boundary sets the next boundary afresh (R33). -/
theorem test_commissioning_step_sets_boundary :
    let s := { State.reset with
      tk := { day with seconds := 900, millis := 500 }
      ia := { State.reset.ia with nextBoundary := some 1800 } }
    (after .timeSet (asked 4 (timeSet 899 0) s)).ia.nextBoundary = some 900 := by decide

theorem test_premises_TimeSetLargeStep :
    (∀ s ∈ [metering, supplied .saved metering, State.reset],
      State.serves .timeSet (frameOf 4 (timeSet 1003 0)) [] (asked 4 (timeSet 1003 0) s) ∧
        s.ia.waiting = []) ∧
    metering.tk.valid = true ∧ metering.tk.ms + 2000 < 1003000 ∧ metering.cm.mode = .metering ∧
    (∀ a : AccountId, (metering.ia.accounts[a]).inFlight = false) ∧ metering.closesReady ∧
    State.reset.tk.valid = false ∧ State.reset.cm.mode = .commissioning := by
  unfold State.serves State.takes State.closesReady
  decide

/-- The payload of a PRESET of account 7 to the highest values. -/
def presetTop : List Byte := 7 :: (List.replicate 25 (leBytes 8 18446744073709551615)).flatten

/-- The payload of a TABLE.PUT of a settle limit of 101. -/
def settleTop : List Byte := 3 :: ((TablePart.settle 101).selector ++ (TablePart.settle 101).content)

theorem test_premises_ChangesAreQueued :
    let put := fun p : TablePart => (p.selector ++ p.content)
    State.serves .tablePut (frameOf 7 (10 :: put (.patrol 300))) []
      (asked 7 (10 :: put (.patrol 300)) metering) ∧
    State.serves .tablePut (frameOf 7 (8 :: put (.health ⟨64, 8, 8⟩))) []
      (asked 7 (8 :: put (.health ⟨64, 8, 8⟩)) metering) ∧
    State.serves .preset (frameOf 17 presetTop) [] (asked 17 presetTop metering) ∧
    State.serves .mode (frameOf 18 [1]) [] (asked 18 [1] metering) ∧
    State.serves .mode (frameOf 18 [2]) [] (asked 18 [2] metering) ∧
    State.serves .mode (frameOf 18 [3]) [] (asked 18 [3] metering) ∧
    State.serves .erase (frameOf 21 []) [] (asked 21 [] metering) ∧
    State.serves .tablePut (frameOf 7 [0]) [] (asked 7 [0] metering) ∧
    (∀ x ∈ [10 :: leBytes 2 49, 10 :: leBytes 2 5001, [8, 7, 1, 0], [8, 8, 0, 0], [8, 8, 1, 255],
        1 :: 4 :: List.replicate 6 0, settleTop],
      State.serves .tablePut (frameOf 7 x) [] (asked 7 x metering)) ∧
    State.serves .mode (frameOf 18 [0]) [] (asked 18 [0] metering) ∧
    State.serves .preset (frameOf 17 (8 :: List.replicate 200 0)) []
      (asked 17 (8 :: List.replicate 200 0) metering) ∧ presetTop.length = 201 ∧
    (fitsTable true settleTop = true ∧ partOf settleTop = some (.settle 101) ∧
      (TablePart.settle 101).inRange = false) ∧
    (TablePart.patrol 300).inRange = true ∧
    (TablePart.patrol 300).consistent metering.cm.tables = true ∧
    (TablePart.health ⟨64, 8, 8⟩).inRange = true ∧
    (TablePart.health ⟨64, 8, 8⟩).consistent metering.cm.tables = false := by
  refine ⟨?_, ?_, ?_, ?_, ?_, ?_, ?_, ?_, ?_, ?_, ?_, by decide, by decide, by decide, by decide,
    by decide, by decide⟩
  case refine_9 =>
    intro x hx
    refine asked_serves .tablePut x metering ?_
    decide
  all_goals exact asked_serves _ _ _ (by decide)

theorem test_premises_LockAndUnlock :
    let locked := { metering with cm := { metering.cm with locked := true } }
    let service := { locked with straps := { locked.straps with service := true } }
    (State.serves .lock (frameOf 19 []) [] (asked 19 [] metering) ∧ metering.cm.locked = false ∧
      metering.cm.queue = []) ∧
    State.serves .lock (frameOf 19 []) [] (asked 19 [] locked) ∧
    (State.serves .lock (frameOf 19 []) [] (asked 19 [] (bounding .erase metering)) ∧
      (bounding .erase metering).cm.queue.any (fun e => e.change.lockable) = true) ∧
    (State.serves .unlock (frameOf 20 []) [] (asked 20 [] locked) ∧ locked.straps.service = false) ∧
    (State.serves .unlock (frameOf 20 []) [] (asked 20 [] service) ∧
      service.straps.service = true ∧ service.cm.locked = true) := by
  unfold State.serves State.takes
  decide

/-- Reads of each verdict over a log whose two records are held, or the first alone, or none. -/
theorem test_premises_LogReadAnswers :
    let payload := leBytes 4 1 ++ [2]
    let both := [(0, closed), (1, { closed with seq := 2 })]
    let reading := fun (v : ReadVerdict) (slots : List (Nat × IntervalRecord)) =>
      asked 11 payload (storing (some ⟨.read v false, 1⟩)
        { metering with store := { metering.store with slots := slots } })
    let held := fun (slots : List (Nat × IntervalRecord)) (q : Nat) =>
      (reading .gone slots).store.findRecord (reading .gone slots).rsc.map.badSlots q
    State.serves .logRead (frameOf 11 payload) [] (asked 11 payload metering) ∧
    (∀ v ∈ [ReadVerdict.gone, .notFound, .read 1 none, .read 1 (some 2)],
      (reading v both).powered = true ∧ (reading v both).mlc.buffer = [frameOf 11 payload] ∧
      (reading v both).rsc.running = some ⟨.read v false, 1⟩) ∧
    held both 1 = some (0, closed) ∧ held both 2 = some (1, { closed with seq := 2 }) ∧
    held (both.take 1) 2 = none ∧ held [] 1 = none := by
  unfold State.serves State.takes
  decide

theorem test_premises_LinkRestart :
    (∀ n ∈ [0, 3, 4], State.takes (frameOf 13 [n]) [] (asked 13 [n] assembling)) ∧
    assembling.rsc.halted = false ∧ (assembling.links[(0 : Fin 4)]).isUp = true ∧
    (assembling.links[(3 : Fin 4)]).state ≠ .disabled ∧
    ((onLink Link.reset metering).links[(0 : Fin 4)]).state = .disabled ∧
    State.takes (frameOf 13 [0]) [] (asked 13 [0] (onLink Link.reset metering)) ∧
    State.takes (frameOf 13 [0]) [] (asked 13 [0] (halted assembling)) := by
  unfold State.takes
  decide

/-- Point 15 with an ALTERNATE substitute, in a mode. -/
def pointed (mode : PointMode) (fault : Bool) : State :=
  { metering with
    cm := { metering.cm with
      tables := { metering.cm.tables with
        points := metering.cm.tables.points.set 15
          { PointEntry.default with substitute := .alternate 0 } } }
    points := metering.points.set 15 { metering.points[15] with mode := mode, fault := fault } }

theorem test_premises_PointModeRequests :
    (∀ s ∈ [metering, pointed .direct true, pointed .shadow false],
      State.serves .pointSubstitute (frameOf 15 [15]) [] (asked 15 [15] s)) ∧
    State.serves .pointSubstitute (frameOf 15 [16]) [] (asked 15 [16] metering) ∧
    (metering.cm.tables.points[(15 : Fin 16)]).substitute = .none ∧
    ((pointed .direct true).cm.tables.points[(15 : Fin 16)]).substitute ≠ .none ∧
    (∀ s ∈ [pointed .direct false, pointed .shadow true, pointed .substituted true,
        pointed .substituted false],
      State.serves .pointRestore (frameOf 16 [15]) [] (asked 16 [15] s)) := by
  unfold State.serves State.takes
  decide

theorem test_premises_ResetIsTaken :
    (∀ s ∈ [metering, State.reset, supplied .saving metering, halted metering],
      State.serves .reset (frameOf 22 []) [] (asked 22 [] s)) ∧
    (metering.cm.mode = .metering ∧ metering.closesReady) ∧
    (State.reset.cm.mode = .commissioning ∧ State.reset.sm.state = .normal) := by
  unfold State.serves State.takes State.closesReady
  decide

/-- OFFERs in OFFERING: a first one, a third one that resolves, one of the other class, and a refused one. -/
theorem test_premises_OfferInOffering :
    let k := Link.started .hz50
    let third := { k with offerRun := 2, offerRunContent := some offer }
    let wrong := { offer with freq := .hz60 }
    (∀ x ∈ [k, third, { k with refused := some offer },
        { third with offerRunContent := some wrong }],
      (onLink x metering).receives 0 = true ∧ ((onLink x metering).links[(0 : Fin 4)]).state = .offering) ∧
    offer.wf = true ∧ wrong.wf = true ∧
    offer.profiles.resolve (metering.cm.tables.links[(0 : Fin 4)]).highest.offered = some .basic ∧
    offer.freq = metering.straps.freq ∧ wrong.freq ≠ metering.straps.freq := by decide

/-- ACCEPTs in ACKNOWLEDGING, UP and OFFERING. -/
theorem test_premises_AcceptTakesLinkUp :
    (∀ k ∈ [acknowledging 0, acknowledging 2, upLink false, upLink true, Link.started .hz50],
      (onLink k metering).receives 0 = true) ∧
    content.wf = true ∧ (acknowledging 2).candidate = some content ∧
    (acknowledging 2).acceptRun + 1 = 3 ∧
    (acknowledging 0).candidate ≠ some { content with profile := .full } ∧
    ((acknowledging 0).resolved = none ∧ (acknowledging 0).offset = none) ∧
    (upLink false).resolved = some content ∧ (upLink false).windowSinceUp = false ∧
    (upLink false).resolved ≠ some { content with profile := .full } := by decide

/-- Frames at W, at W + 3, of an open record, and a duplicate. -/
theorem test_premises_WindowFrameInRange :
    assembling.receives 0 = true ∧ (window 0).wf = true ∧
    (assembling.links[(0 : Fin 4)]).isUp = true ∧
    (assembling.links[(0 : Fin 4)]).matchesFrame (window 3) = true ∧
    ([0, 2, 3] : List Seq).map
      (fun q => q + (assembling.links[(0 : Fin 4)]).offset.getD 0 - assembling.wa.front) = [0, 2, 3] ∧
    (assembling.wa.buffers[(0 : Fin 4)]).map (·.seq) = [2] ∧
    assembling.wa.records.map (·.seq) = [2] := by decide

/-- The first frame ahead, the last one, and the first one behind. -/
theorem test_premises_WindowFrameOutOfRange :
    assembling.receives 0 = true ∧ (window 4).wf = true ∧
    (assembling.links[(0 : Fin 4)]).state = .up false ∧
    (assembling.links[(0 : Fin 4)]).matchesFrame (window 4) = true ∧
    ([4, 32767, 32768, 65535] : List Seq).map
      (fun q => (q + (assembling.links[(0 : Fin 4)]).offset.getD 0 - assembling.wa.front).toNat) =
      [4, 32767, 32768, 65535] := by decide

/-- METERING with fixed format of two channels allowed on link 0. -/
def fixedFormat (run : Nat) : State :=
  { onLink { Link.started .hz50 with windowRun := run, windowRunSeq := some 65535 } metering with
    cm := { metering.cm with
      tables := { metering.cm.tables with
        links := metering.cm.tables.links.set 0
          { LinkEntry.default with fixedAllowed := true, fixedCount := 2 } } } }

theorem test_premises_WindowFrameElsewhere :
    let other := { window 0 with channels := 1, blocks := List.replicate 25 ⟨0, 0, 0⟩ }
    (∀ s ∈ [onLink (acknowledging 0) metering, onLink (Link.started .hz50) metering, fixedFormat 0,
        fixedFormat 1, fixedFormat 2, assembling], s.receives 0 = true) ∧
    (window 0).wf = true ∧ ((fixedFormat 2).cm.tables.links[(0 : Fin 4)]).fixedAllowed = true ∧
    (window 0).orders = 25 ∧
    (window 0).channels = ((fixedFormat 2).cm.tables.links[(0 : Fin 4)]).fixedCount ∧
    ((fixedFormat 2).links[(0 : Fin 4)]).windowRunSeq = some ((window 0).seq - 1) ∧
    (metering.cm.tables.links[(0 : Fin 4)]).fixedAllowed = false ∧
    other.wf = true ∧ (assembling.links[(0 : Fin 4)]).matchesFrame other = false ∧
    other.channels ≠ ((fixedFormat 2).cm.tables.links[(0 : Fin 4)]).fixedCount := by decide

/-- Damaged windows at W + 1 (not lost), W (lost already), W + 2 (buffered) and W + 4. -/
theorem test_premises_DamagedWindow :
    let k := assembling.links[(0 : Fin 4)]
    assembling.receives 0 = true ∧ k.isUp = true ∧ k.offset = some 0 ∧ assembling.wa.front = 0 ∧
    k.lost = [0] ∧ (assembling.wa.buffers[(0 : Fin 4)]).map (·.seq) = [2] := by decide

theorem test_premises_OfferElsewhereAndBadFrames :
    let cut := { Link.started .hz50 with ignoring := some 1 }
    (∀ k ∈ [acknowledging 1, upLink true, Link.started .hz50],
      (onLink k metering).receives 0 = true ∧ k.ignoring = none) ∧ metering.powered = true ∧
    (cut.ignoring = some 1 ∧ (onLink cut metering).receives 0 = false) ∧
    ((acknowledging 1).state = .acknowledging ∧ (acknowledging 1).lastOffer = some offer ∧
      offer.wf = true) ∧
    (acknowledging 1).lastOffer ≠ some { offer with freq := .hz60 } ∧
    OfferContent.wf { offer with freq := .hz60 } = true ∧ (upLink true).isUp = true := by decide

theorem test_premises_LinkSends :
    metering.powered = true ∧ (Link.started .hz50).state = .offering ∧
    (acknowledging 0).state = .acknowledging ∧ (acknowledging 0).candidate = some content ∧
    (Link.started .hz50).waiting.length = 1 ∧ (Link.started .hz50).sending = none ∧
    (after (.linkFrameSend 0) (onLink (Link.started .hz50) metering)).links[(0 : Fin 4)].sending ≠
      none ∧
    (after (.acceptFrame 0 content) (onLink (upLink false) metering)).links[(0 : Fin 4)].waiting =
      [.start] := by decide

theorem test_premises_LinkTimers :
    (upLink false).silence = some 300 ∧ (upLink false).isUp = true ∧
    (acknowledging 0).silence = some 300 ∧ (acknowledging 0).state = .acknowledging ∧
    ((metering.enterBreaking 1).links[(1 : Fin 4)]).breakHold = some 1500 ∧
    ((metering.enterBreaking 1).links[(1 : Fin 4)]).state = .breaking ∧
    (assembling.wa.records.any fun r => r.seq == 2) = true := by decide

theorem test_premises_TakeWindowHandsOn :
    assembling.powered = true ∧ assembling.wa.processing = none ∧
    (∃ r ∈ assembling.wa.records, r.ready assembling.timeBase = true) ∧
    assembling.sm.state = .normal ∧ assembling.rsc.halted = false ∧ assembling.ia.waiting = [] ∧
    assembling.cm.mode = .metering ∧ assembling.cm.walking = false ∧
    (∀ r ∈ assembling.wa.records, r.seq ≠ assembling.wa.front) := by decide

/-- Link 0 with frame 0 buffered; points 0 and 1 take their phase from it, each the other's substitute. -/
def handing (p : Point) (un : Nat) : State :=
  let e (q : PointId) : PointEntry :=
    { PointEntry.default with
      phases := PointEntry.default.phases.set 0 ⟨some ⟨0, 0⟩, some ⟨0, 1⟩, false⟩
      un := un, substitute := .alternate q, autoSub := true }
  { assembling with
    links := assembling.links.set 0 { upLink false with lost := [] }
    points := assembling.points.set 0 p
    cm := { assembling.cm with
      tables := { assembling.cm.tables with
        points := (assembling.cm.tables.points.set 0 (e 1)).set 1 (e 0) } }
    wa := { assembling.wa with
      buffers := assembling.wa.buffers.set 0 [⟨0, window 0⟩], records := [recordAt 0] } }

/-- A point that switches, one whose shadow period goes on, and one whose period ends, over a substitute that is
FRESH; and a point that is MISSING (R23, R64, R65). -/
theorem test_premises_TakeWindowPoints :
    let p := assembling.points[(0 : Fin 16)]
    let direct := fun (s : State) (q : PointId) =>
      directPoint s.cm.tables s.links s.wa.windowAt s.cm.tables.points[q] s.points[q]
    let faulty := handing { p with health := 47, live := true } 10
    let shadowing := fun n => handing { p with mode := .shadow, shadow := some ⟨n, 50, 0, 0, 0⟩ } 10
    let empty := { faulty with wa := { faulty.wa with buffers := Assembler.reset.buffers } }
    (direct faulty 0).point.fault = true ∧ p.fault = false ∧ p.mode ≠ .substituted ∧
    (direct faulty 0).status = .fresh ∧ (direct faulty 1).status = .fresh ∧
    (faulty.wa.windowAt.frames[(0 : Fin 4)]).isSome = true ∧
    (∀ n ∈ [48, 49], (direct (shadowing n) 0).point.fault = false ∧
      ((shadowing n).points[(0 : Fin 16)]).shadow = some ⟨n, 50, 0, 0, 0⟩) ∧
    (direct empty 0).status = .missing ∧ (empty.cm.tables.points[(0 : Fin 16)]).used ≠ [] ∧
    (∀ l : LinkId, empty.wa.windowAt.frames[l] = none) := by decide

/-- W is lost on link 0, with the error run at 0 and at 2. -/
theorem test_premises_TakeWindowReports :
    let third := { assembling with
      links := assembling.links.set 0 { assembling.links[(0 : Fin 4)] with errorRun := 2 } }
    (∀ s ∈ [assembling, supplied .saving assembling, halted assembling, third],
      s.powered = true ∧ s.wa.processing = none ∧ s.cm.walking = false ∧
      (∃ r ∈ s.wa.records, r.ready s.timeBase = true) ∧ s.wa.front ∈ (s.links[(0 : Fin 4)]).lost) ∧
    assembling.ia.waiting = [] ∧ assembling.wa.front ∉ (assembling.links[(1 : Fin 4)]).lost ∧
    (third.links[(0 : Fin 4)]).errorRun = 2 := by decide

/-- A window whose results stand to be applied, and one whose results are applied. -/
theorem test_premises_WindowBoundaryFalls :
    let t := after (.takeWindow false) assembling
    (t.powered = true ∧ (t.wa.processing.map fun p => p.results.isSome) = some true ∧
      t.rsc.halted = false ∧ t.sm.state = .normal ∧ t.ia.waiting = [] ∧ t.cm.queue = [] ∧
      t.cm.mode = .metering) ∧
    ((after (.takeWindow true) assembling).wa.processing.map fun p => p.results.isSome) =
      some false := by decide

/-- Entries that each test of the walk stops or discards. -/
theorem test_premises_WalkTests :
    let lists := Change.table (.contract { ContractTable.default with minutes := 30 })
    let busy := { metering with
      ia := { metering.ia with
        accounts := metering.ia.accounts.set 7 { metering.ia.accounts[7] with inFlight := true } } }
    let full := { metering with
      rsc := { metering.rsc with recordQueue := List.replicate 9 closed } }
    let bad : TablePart := .health ⟨64, 8, 8⟩
    let good : Change := .table (.patrol 300)
    let two := { bounding good metering with
      cm := { metering.cm with queue := [⟨4, good⟩, ⟨5, lists⟩] } }
    let on := after .windowBoundary two
    (∀ s ∈ [bounding lists (supplied .saving metering), bounding lists busy, bounding lists full,
        bounding .erase full, bounding (.table bad) metering],
      s.powered = true ∧ s.wa.processing = some ⟨0, 200000, 0, none⟩ ∧ s.rsc.halted = false ∧
      s.ia.waiting = []) ∧
    ((busy.ia.accounts[(7 : Fin 8)]).inFlight = true ∧ 7 ∈ busy.cm.touches lists) ∧
    full.rsc.freePlaces < full.openAmong (full.cm.closes lists) ∧ full.rsc.records ≠ [] ∧
    (full.cm.touches lists).all (fun a => !(full.ia.accounts[a]).inFlight) = true ∧
    (bad.consistent metering.cm.tables = false ∧ metering.cm.touches (.table bad) = []) ∧
    (two.walkVerdict good = .applies ∧ on.wa.processing = none ∧ on.cm.walking = true ∧
      on.powered = true ∧ on.rsc.halted = false ∧ on.ia.waiting = [] ∧
      on.cm.queue = [⟨5, lists⟩]) := by decide

/-- PFW asserted between two entries of a walk: the second stops with SUPPLY, the first stays applied (R159). -/
theorem test_walk_stops_between_entries :
    let good : Change := .table (.patrol 300)
    let two := { bounding good metering with
      cm := { metering.cm with queue := [⟨4, good⟩, ⟨5, .erase⟩] } }
    let t := after .windowBoundary (after .pfwAssert (after .windowBoundary two))
    t.cm.lastApplied = some 4 ∧ t.cm.stop = some (5, .supply) ∧ t.cm.tables.patrol = 300 ∧
      t.cm.walking = false ∧ t.cm.queue.length = 1 := by decide

/-- A second LINK_FRAME_SEND waits for the frame that is being sent (R110). -/
theorem test_link_sends_one_frame_at_a_time :
    let s := after (.linkFrameSend 0) (onLink { upLink false with waiting := [.start, .again 7] } metering)
    (s.links[(0 : Fin 4)]).waiting = [.again 7] ∧
      after (.linkFrameSend 0) s = s ∧
      ((after (.linkFrameSend 0) (s.advance 1)).links[(0 : Fin 4)]).waiting = [] := by decide

theorem test_premises_TableEntryApplies :
    let part : TablePart := .bands 7 (some ⟨2, 50⟩)
    let s := bounding (.table part) State.reset
    (s.powered = true ∧ s.wa.processing = some ⟨0, 200000, 0, none⟩ ∧ s.rsc.halted = false ∧
      s.ia.waiting = [] ∧ s.cm.queue = [⟨4, .table part⟩] ∧ s.cm.mode = .commissioning) ∧
    s.walkVerdict (.table part) = .applies ∧ s.cm.tables.holds part = false ∧
    s.cm.tables.holds (.bands 7 none) = true ∧
    (bounding (.table (.bands 7 none)) State.reset).walkVerdict (.table (.bands 7 none)) =
      .applies ∧
    (bounding (.table part) metering).walkVerdict (.table part) = .applies ∧
    metering.cm.tables.holds part = false ∧ metering.cm.mode = .metering ∧
    3 ∈ metering.cm.touches (.table part) ∧
    ((metering.ia.accounts[(3 : Fin 8)]).interval.isSome = true) ∧
    (∀ x ∈ [TablePart.links 0 { LinkEntry.default with fixedCount := 2 }, .settle 1,
        .points 0 { PointEntry.default with un := 100 }, .breaker 0 (some ⟨0, 0⟩),
        .contract { ContractTable.default with minutes := 30 }, .health ⟨32, 16, 8⟩,
        .notice ⟨.hold, Vector.replicate 16 false⟩, .patrol 300],
      (bounding (.table x) metering).walkVerdict (.table x) = .applies ∧
      metering.cm.tables.holds x = false) := by decide

theorem test_premises_PresetEntryApplies :
    let c := Change.preset 7 (Vector.replicate 25 5)
    (∀ s ∈ [bounding c metering, bounding c State.reset],
      s.powered = true ∧ s.wa.processing = some ⟨0, 200000, 0, none⟩ ∧ s.rsc.halted = false ∧
      s.ia.waiting = [] ∧ s.cm.queue = [⟨4, c⟩] ∧ s.walkVerdict c = .applies) ∧
    (metering.cm.mode = .metering ∧
      ((metering.ia.accounts[(7 : Fin 8)]).interval = some interval)) ∧
    State.reset.cm.mode = .commissioning := by decide

theorem test_premises_ModeEntryApplies :
    (∀ m ∈ [DeviceMode.metering, .commissioning], ∀ s ∈ [metering, State.reset],
      (bounding (.mode m) s).walkVerdict (.mode m) = .applies ∧
      (bounding (.mode m) s).powered = true ∧ (bounding (.mode m) s).ia.waiting = [] ∧
      (bounding (.mode m) s).rsc.halted = false) ∧
    metering.cm.mode = .metering ∧ State.reset.cm.mode = .commissioning := by decide

theorem test_premises_EraseEntryApplies :
    let s := bounding .erase metering
    s.powered = true ∧ s.wa.processing = some ⟨0, 200000, 0, none⟩ ∧ s.rsc.halted = false ∧
    s.ia.waiting = [] ∧ s.cm.queue = [⟨4, .erase⟩] ∧ s.walkVerdict .erase = .applies := by decide

/-- The arbiter with a job in each class alone, and with the save between two reads. -/
theorem test_premises_StoreJobStarts :
    let r := quiet none
    let reading := { quiet (some ⟨.read (.read 1 (some 2)) false, 1⟩) with saveQueue := some .save }
    (∀ x ∈ [{ r with saveQueue := some .save }, { r with preempted := some ⟨.record closed 0, 3⟩ },
        { r with preempted := some ⟨.patrol (.account 0) true, 1⟩ },
        { r with blockQueue := [RegContent.lost 0] }, { r with recordQueue := [closed] },
        { r with configQueue := [⟨ConfigContent.default StoreMap.recovered .patrol, 0⟩] },
        { r with configQueue := [⟨ConfigContent.default StoreMap.recovered .bands, 0⟩] },
        { r with readQueue := some ⟨1, true⟩ }, { r with patrolQueued := true }],
      x.running = none ∧ x.halted = false) ∧
    ((r.roundFrom (.account 0)).head? = some (.account 0) ∧ r.busy (.account 0) = false) ∧
    r.roundFrom (.record (r.newest + 1)) = [] ∧ metering.powered = true ∧
    reading.running = some ⟨.read (.read 1 (some 2)) false, 1⟩ ∧
    reading.saveQueue = some .save ∧ reading.halted = false ∧ reading.preempted = none := by decide

/-- Writes of each kind that verify. -/
theorem test_premises_WriteVerifies :
    (∀ job ∈ [Job.record closed 0, .block (RegContent.lost 3) (.register 3),
        .config (ConfigContent.default StoreMap.recovered .bands) 0, .save (.saved metering.savedState)],
      (storing (some ⟨job, 20⟩) metering).rsc.running = some ⟨job, 20⟩ ∧ job.isWrite = true ∧
      (storing (some ⟨job, 20⟩) metering).rsc.consumption = none) ∧
    (∀ job ∈ [Job.record closed 0, .block (RegContent.lost 3) (.register 3)],
      ∀ k ∈ [Consumption.mk [3] [], ⟨[], [1]⟩, ⟨[3], [1]⟩],
        let s := storing (some ⟨job, 1⟩) metering
        ({ s with rsc := { s.rsc with consumption := some k } }).rsc.running = some ⟨job, 1⟩) ∧
    (RegContent.lost 3).account = 3 ∧ closed.seq = 1 ∧ metering.sm.saveCalled = false ∧
    (after .pfwAssert metering).sm.saveCalled = true ∧
    metering.powered = true ∧ (supplied .saving metering).sm.state = .saving ∧
    (supplied .saving metering).sm.deassertHeld = false ∧
    (storing none (supplied .saving metering)).rsc.saveQueue ≠ some .save := by decide

/-- A 19th attempt, without and with a queued save, and a 20th attempt of each kind, with spares free and used
up, and a bad-slot list with and without a place. -/
theorem test_premises_WriteMismatches :
    let job := Job.record closed 4095
    let s := storing (some ⟨job, 19⟩) metering
    let saving := { s with rsc := { s.rsc with saveQueue := some .save } }
    let used := { quiet (some ⟨.block (RegContent.lost 3) (.spare 0), 20⟩) with
      map := { StoreMap.recovered with spares := #v[.assigned 3, .retired, .retired, .retired] } }
    let full := { quiet (some ⟨.record closed 64, 20⟩) with
      map := { StoreMap.recovered with badSlots := List.range 64 } }
    (s.powered = true ∧ s.rsc.running = some ⟨job, 19⟩ ∧ job.isWrite = true ∧
      s.rsc.saveQueue = none ∧ saving.rsc.running = some ⟨job, 19⟩ ∧ saving.rsc.saveQueue ≠ none ∧
      job.class ≠ 1) ∧
    (∀ x ∈ [job, .block (RegContent.lost 3) (.register 3), .save .clean,
        .config (ConfigContent.default StoreMap.recovered .bands) 0],
      (storing (some ⟨x, 20⟩) metering).rsc.running = some ⟨x, 20⟩ ∧ x.isWrite = true ∧
      (storing (some ⟨x, 20⟩) metering).rsc.halted = false ∧
      (storing (some ⟨x, 20⟩) metering).rsc.saveQueue = none) ∧
    (∀ i : SpareId, used.map.spares[i] ≠ .free) ∧ (quiet none).map.spares[(0 : Fin 4)] = .free ∧
    64 ≤ full.map.badSlots.length ∧ (quiet none).map.badSlots.length < 64 := by decide

/-- OPEN intervals in a save of mode COMMISSIONING: the next start closes each with cause OUTAGE (R170, R180). -/
theorem test_saved_forced_closes :
    let saved := { metering.savedState with mode := .commissioning, generation := 0 }
    State.savedOutcome false saved metering = some .forcedClosed ∧
    State.savedOutcome false { saved with accounts := State.reset.savedState.accounts } metering = none ∧
    ((State.reset.resumeSaved saved (some .forcedClosed)).rsc.recordQueue.map
      fun r => (r.cause, r.endTime, r.outage)) = List.replicate 8 (.outage, 1000, true) ∧
    (State.reset.resumeSaved saved (some .forcedClosed)).openCount = 0 := by decide

/-- A patrol read whose unit is intact, one whose unit is not, and a second read. -/
theorem test_premises_PatrolChecks :
    let s := storing (some ⟨.patrol (.account 0) false, 1⟩)
      { metering with store := { metering.store with
          registers := metering.store.registers.set 0 (some (RegContent.lost 0)) } }
    let logged := storing (some ⟨.patrol (.record 1) true, 1⟩)
      { metering with store := { metering.store with slots := [(0, closed)] } }
    s.powered = true ∧ s.rsc.halted = false ∧ s.mlc.resetTaken = false ∧
    s.rsc.running = some ⟨.patrol (.account 0) false, 1⟩ ∧ s.unitIntact (.account 0) = true ∧
    (storing (some ⟨.patrol (.record 1) true, 1⟩) metering).unitIntact (.record 1) = false ∧
    (logged.store.findRecord logged.rsc.map.badSlots 1 = some (0, closed) ∧
      logged.rsc.running = some ⟨.patrol (.record 1) true, 1⟩) ∧
    (metering.store.findRecord metering.rsc.map.badSlots 1 = none) ∧
    s.rsc.saveQueue = none := by decide

/-- STORE-ALERT rises at the third persistent mismatch within 1,024 steps, not at one that comes a step later,
and is cleared when 1,024 steps have passed with none (R145). -/
theorem test_store_alert :
    let s := fun (history : List Nat) (alert second : Bool) =>
      let r := quiet (some ⟨.patrol (.account 0) second, 1⟩)
      { metering with
        rsc := { r with history := history, alert := alert }
        store := { metering.store with
          registers := metering.store.registers.set 0 (some (RegContent.lost 0)) } }
    (after (.patrolReadDone false) (s [0, 1022] false true)).rsc.alert = true ∧
    (after (.patrolReadDone false) (s [0, 1023] false true)).rsc.alert = false ∧
    (after (.patrolReadDone true) (s [1022, 1030] true false)).rsc.alert = true ∧
    (after (.patrolReadDone true) (s [1023, 1030] true false)).rsc.alert = false := by decide

end Sys2Proof.Tests
end

section
/-! The excess reactive energy that a close forms (R38). -/

namespace Sys2Proof.Machine

/-- With RQ1 above its allowance the excess and the allowance together make up the RQ1 partial. -/
theorem excess_add_allowance {ratio api rq1 : Nat} (above : api * ratio / 1024 < rq1) :
    excess ratio api rq1 + api * ratio / 1024 = rq1 :=
  Nat.sub_add_cancel (Nat.le_of_lt above)

/-- With RQ1 within its allowance there is no excess: the truncated subtraction is R38's "0 otherwise". -/
theorem excess_eq_zero {ratio api rq1 : Nat} (within : rq1 ≤ api * ratio / 1024) :
    excess ratio api rq1 = 0 :=
  Nat.sub_eq_zero_of_le within

/-- The XQ partial as closed. -/
@[simp] theorem Interval.closing_xq (ratio : Nat) (iv : Interval) :
    (iv.closing ratio)[24] = excess ratio iv.partials[0] iv.partials[2] :=
  Vector.getElem_set_self (by decide)

/-- A close forms no partial but XQ. -/
theorem Interval.closing_other (ratio : Nat) (iv : Interval) {i : Fin 25} (hi : i ≠ 24) :
    (iv.closing ratio)[i] = iv.partials[i] :=
  Vector.getElem_set_ne (by decide) i.isLt fun h => hi (Fin.ext h.symm)

/-- Settles O15: the XQ partial as closed is `excess`, on either side of the allowance, and the other
partials stand. -/
theorem excessReactiveEnergy : Obligations.ExcessReactiveEnergy := by
  intro iv k allowance
  refine ⟨fun above => ?_, fun within => ?_, fun i hi => iv.closing_other k hi⟩
  · rw [iv.closing_xq]
    exact excess_add_allowance above
  · rw [iv.closing_xq]
    exact excess_eq_zero within

end Sys2Proof.Machine
end

section
/-! The topology resolver: what one window makes of a breaker, which entry gives the map, and what the
condition unit is given (R74, R77 to R80, R85). -/

namespace Sys2Proof.Machine

/-! ## The condition unit -/

@[simp] theorem ConditionUnit.rise_sources (masked : Vector Bool 16) (c : Condition) (cu : ConditionUnit) :
    (cu.rise masked c).sources = cu.sources := by
  unfold ConditionUnit.rise
  split <;> rfl

theorem ConditionUnit.rise_flag (masked : Vector Bool 16) (c : Condition) (cu : ConditionUnit) :
    (cu.rise masked c).flags[c.idx] = true := by
  unfold ConditionUnit.rise
  split
  next latched => exact latched
  next => exact Vector.getElem_set_self c.idx.isLt

theorem ConditionUnit.rise_flag_other (masked : Vector Bool 16) {c : Condition} (cu : ConditionUnit)
    {i : Fin 16} (hi : i ≠ c.idx) : (cu.rise masked c).flags[i] = cu.flags[i] := by
  unfold ConditionUnit.rise
  split
  next => rfl
  next => exact Vector.getElem_set_ne c.idx.isLt i.isLt fun h => hi (Fin.ext h.symm)

/-- A fall changes the source state under either discipline. -/
@[simp] theorem ConditionUnit.fall_sources (t : NoticeTable) (c : Condition) (cu : ConditionUnit) :
    (cu.fall t c).sources = cu.sources.set c.idx false := by
  unfold ConditionUnit.fall
  split <;> rfl

theorem ConditionUnit.fall_flag_other (t : NoticeTable) {c : Condition} (cu : ConditionUnit)
    {i : Fin 16} (hi : i ≠ c.idx) : (cu.fall t c).flags[i] = cu.flags[i] := by
  unfold ConditionUnit.fall
  split
  next => exact Vector.getElem_set_ne c.idx.isLt i.isLt fun h => hi (Fin.ext h.symm)
  next => rfl

/-- Giving a source writes that source and no other. -/
@[simp] theorem ConditionUnit.give_sources (t : NoticeTable) (c : Condition) (level : Bool)
    (cu : ConditionUnit) : (cu.give t c level).sources = cu.sources.set c.idx level := by
  unfold ConditionUnit.give
  split
  next same =>
    rw [eq_of_beq same]
    exact (Vector.set_getElem_self c.idx.isLt).symm
  next =>
    cases level
    · exact cu.fall_sources t c
    · exact ConditionUnit.rise_sources t.masked c _

theorem ConditionUnit.give_source (t : NoticeTable) (c : Condition) (level : Bool)
    (cu : ConditionUnit) : (cu.give t c level).sources[c.idx] = level := by
  rw [ConditionUnit.give_sources]
  exact Vector.getElem_set_self c.idx.isLt

theorem ConditionUnit.give_source_other (t : NoticeTable) {c : Condition} (level : Bool)
    (cu : ConditionUnit) {i : Fin 16} (hi : i ≠ c.idx) :
    (cu.give t c level).sources[i] = cu.sources[i] := by
  rw [ConditionUnit.give_sources]
  exact Vector.getElem_set_ne c.idx.isLt i.isLt fun h => hi (Fin.ext h.symm)

theorem ConditionUnit.give_flag_other (t : NoticeTable) {c : Condition} (level : Bool)
    (cu : ConditionUnit) {i : Fin 16} (hi : i ≠ c.idx) :
    (cu.give t c level).flags[i] = cu.flags[i] := by
  unfold ConditionUnit.give
  split
  next => rfl
  next =>
    cases level
    · exact cu.fall_flag_other t hi
    · exact ConditionUnit.rise_flag_other t.masked _ hi

/-! ## Breakers -/

/-- A report that is neither CLOSED nor OPEN takes the unclean arm. -/
theorem Breaker.update_unclean (limit : Nat) {r : Report} (b : Breaker)
    (unclean : r = .disagree ∨ r = .noReport) : b.update limit r = b.unclean limit r := by
  obtain rfl | rfl := unclean <;> rfl

@[simp] theorem Breaker.update_lastReport (limit : Nat) (r : Report) (b : Breaker) :
    (b.update limit r).lastReport = some r := by
  cases r <;> rfl

theorem updateBreakers_getElem (t : BreakersTable) (w : Window) (bs : Vector Breaker 8) (b : BreakerId) :
    (updateBreakers t w bs)[b] =
      match t.entries[b] with
      | none => Breaker.reset
      | some r => (bs[b]).update t.settle (breakerReport w r) :=
  Vector.getElem_ofFn b.isLt

theorem updateBreakers_unused {t : BreakersTable} (w : Window) (bs : Vector Breaker 8) {b : BreakerId}
    (unused : t.entries[b] = none) : (updateBreakers t w bs)[b] = Breaker.reset := by
  rw [updateBreakers_getElem, unused]

theorem updateBreakers_used {t : BreakersTable} (w : Window) (bs : Vector Breaker 8) {b : BreakerId}
    {e : BreakerRef} (used : t.entries[b] = some e) :
    (updateBreakers t w bs)[b] = (bs[b]).update t.settle (breakerReport w e) := by
  rw [updateBreakers_getElem, used]

/-! ## Selection -/

@[simp] theorem BreakerState.meets_closed (x : BreakerState) : x.meets .closed = true ↔ x = .closed := by
  cases x <;> decide

@[simp] theorem BreakerState.meets_opened (x : BreakerState) : x.meets .opened = true ↔ x = .opened := by
  cases x <;> decide

/-- R77's condition on an entry, with the two required positions written out; UNKNOWN meets neither. -/
theorem TopologyEntry.matchesStates_iff (e : TopologyEntry) (bs : Vector Breaker 8) :
    e.matchesStates bs = true ↔ e.valid = true ∧ ∀ b : BreakerId,
      (e.required[b] = some .closed → (bs[b]).state = .closed) ∧
      (e.required[b] = some .opened → (bs[b]).state = .opened) := by
  unfold TopologyEntry.matchesStates
  rw [Bool.and_eq_true, List.all_eq_true]
  refine and_congr_right fun _ => forall_congr' fun b => ?_
  rw [forall_prop_of_true (List.mem_finRange b)]
  cases e.required[b] with
  | none => simp
  | some p => cases p <;> simp

/-- The entry that matches with none before it is the one selected. -/
theorem firstMatch_eq_some {t : Vector TopologyEntry 4} {bs : Vector Breaker 8} {m : MapId}
    (hit : (t[m]).matchesStates bs = true) (first : ∀ n < m, ¬ (t[n]).matchesStates bs = true) :
    firstMatch t bs = some m := by
  refine List.find?_eq_some_iff_getElem.2 ⟨hit, m, by simp, by simp, fun j hj => ?_⟩
  simpa using first ⟨j, hj.trans m.isLt⟩ hj

theorem firstMatch_eq_none {t : Vector TopologyEntry 4} {bs : Vector Breaker 8}
    (none_matches : ∀ m : MapId, ¬ (t[m]).matchesStates bs = true) : firstMatch t bs = none :=
  List.find?_eq_none.2 fun m _ => none_matches m

/-- BREAKER-UNKNOWN has its source from the used breakers. -/
theorem breakerUnknown_iff (t : BreakersTable) (tr : Resolver) :
    breakerUnknown t tr = true ↔ ∃ b : BreakerId, t.entries[b] ≠ none ∧ (tr.breakers[b]).state = .unknown := by
  simp [breakerUnknown, Option.isSome_iff_ne_none]

/-! ## The resolver -/

theorem Resolver.resolve_of_match {t : Tables} {w : Window} {tr : Resolver} {m : MapId}
    (found : firstMatch t.topology (tr.resolve t w).breakers = some m) :
    (tr.resolve t w).map = m ∧ (tr.resolve t w).matched = true :=
  ⟨congrArg (Option.getD · tr.map) found, congrArg Option.isSome found⟩

/-- With no match the map stands (R78). -/
theorem Resolver.resolve_of_no_match {t : Tables} {w : Window} {tr : Resolver}
    (found : firstMatch t.topology (tr.resolve t w).breakers = none) :
    (tr.resolve t w).map = tr.map ∧ (tr.resolve t w).matched = false :=
  ⟨congrArg (Option.getD · tr.map) found, congrArg Option.isSome found⟩

theorem Resolver.resolve_transfer (t : Tables) (w : Window) (tr : Resolver) :
    (tr.resolve t w).transfer = true ↔ (tr.resolve t w).map ≠ tr.map :=
  bne_iff_ne

@[simp] theorem State.resolveTopology_tr (w : Window) (s : State) :
    (s.resolveTopology w).tr = s.tr.resolve s.cm.tables w := by
  unfold State.resolveTopology State.giveBreakerUnknown
  dsimp only
  split <;> rfl

/-- The condition unit takes the pulse of TRANSFER first, and then the two levels. -/
theorem State.resolveTopology_cu (w : Window) (s : State) :
    (s.resolveTopology w).cu =
      ((if (s.resolveTopology w).tr.transfer then s.cu.rise s.cm.tables.notice.masked .transfer else s.cu).give
        s.cm.tables.notice .topologyUndefined (!(s.resolveTopology w).tr.matched)).give
        s.cm.tables.notice .breakerUnknown
        (breakerUnknown s.cm.tables.breakers (s.resolveTopology w).tr) := by
  rw [State.resolveTopology_tr]
  unfold State.resolveTopology State.giveBreakerUnknown
  dsimp only
  split <;> rfl

theorem State.resolveTopology_changes (w : Window) (s : State) :
    s.resolveTopology w =
      { s with tr := (s.resolveTopology w).tr, cu := (s.resolveTopology w).cu } := by
  unfold State.resolveTopology State.giveBreakerUnknown
  dsimp only
  split <;> rfl

/-- A changed map latches TRANSFER; the levels given after it leave that flag alone. -/
theorem State.resolveTopology_transfer_flag {w : Window} {s : State}
    (changed : (s.resolveTopology w).tr.transfer = true) :
    (s.resolveTopology w).cu.flags[8] = true := by
  rw [State.resolveTopology_cu, if_pos changed]
  have other {c : Condition} (h : (8 : Fin 16) ≠ c.idx) (level : Bool) (cu : ConditionUnit) :=
    ConditionUnit.give_flag_other s.cm.tables.notice level cu h
  exact ((other (by decide) _ _).trans (other (by decide) _ _)).trans
    (s.cu.rise_flag s.cm.tables.notice.masked .transfer)

theorem State.resolveTopology_topologyUndefined (w : Window) (s : State) :
    (s.resolveTopology w).cu.sources[6] = !(s.resolveTopology w).tr.matched := by
  rw [State.resolveTopology_cu]
  exact (ConditionUnit.give_source_other (c := .breakerUnknown) (i := 6) _ _ _ (by decide)).trans
    (ConditionUnit.give_source _ .topologyUndefined _ _)

theorem State.resolveTopology_breakerUnknown (w : Window) (s : State) :
    (s.resolveTopology w).cu.sources[7] =
      breakerUnknown s.cm.tables.breakers (s.resolveTopology w).tr := by
  rw [State.resolveTopology_cu]
  exact ConditionUnit.give_source _ .breakerUnknown _ _

/-- Settles O18: the updated breakers are `updateBreakers` read at one breaker, the map is `firstMatch` over
them, and the condition unit's part is read off `State.resolveTopology_cu`. -/
theorem topologyResolution : Obligations.TopologyResolution := by
  intro s w t limit matching
  have tr_eq : t.tr = s.tr.resolve s.cm.tables w := s.resolveTopology_tr w
  have breakers_eq : t.tr.breakers = updateBreakers s.cm.tables.breakers w s.tr.breakers :=
    congrArg Resolver.breakers tr_eq
  have matching_iff (m : MapId) :
      (s.cm.tables.topology[m]).matchesStates t.tr.breakers = true ↔ matching m :=
    TopologyEntry.matchesStates_iff _ _
  refine ⟨fun b => ⟨fun unused => ?_, fun e used => ?_⟩, fun m hit first => ?_, fun none_matches => ?_, ?_,
    State.resolveTopology_transfer_flag, s.resolveTopology_topologyUndefined w, ?_,
    s.resolveTopology_changes w⟩
  · rw [breakers_eq]
    exact updateBreakers_unused w _ unused
  · intro report old new
    have new_eq : new = old.update limit report := by
      have := updateBreakers_used w s.tr.breakers used
      rwa [← breakers_eq] at this
    rw [new_eq]
    refine ⟨old.update_lastReport limit report, fun closed => ?_, fun opened => ?_, fun unclean => ?_⟩
    · rw [closed]
      exact ⟨rfl, rfl⟩
    · rw [opened]
      exact ⟨rfl, rfl⟩
    · rw [old.update_unclean limit unclean]
      exact ⟨rfl, rfl⟩
  · have found : firstMatch s.cm.tables.topology t.tr.breakers = some m :=
      firstMatch_eq_some ((matching_iff m).2 hit) fun n hn h => first n hn ((matching_iff n).1 h)
    rw [tr_eq] at found ⊢
    exact Resolver.resolve_of_match found
  · have found : firstMatch s.cm.tables.topology t.tr.breakers = none :=
      firstMatch_eq_none fun m h => none_matches m ((matching_iff m).1 h)
    rw [tr_eq] at found ⊢
    exact Resolver.resolve_of_no_match found
  · rw [tr_eq]
    exact s.tr.resolve_transfer s.cm.tables w
  · rw [s.resolveTopology_breakerUnknown w]
    exact breakerUnknown_iff s.cm.tables.breakers t.tr

end Sys2Proof.Machine
end

section
/-! WINDOW frames on an UP link: what a valid one does to its link, and what the window assembler makes of one
that is out of range (R92, R93, R101, R118, R119). -/

namespace Sys2Proof.Machine

/-! ## Updates of one link -/

theorem State.updLink_link (l : LinkId) (g : Link → Link) (s : State) :
    (s.updLink l g).links[l] = g s.links[l] :=
  Vector.getElem_set_self l.isLt

theorem State.updLink_updLink (l : LinkId) (g h : Link → Link) (s : State) :
    (s.updLink l g).updLink l h = s.updLink l fun k => h (g k) := by
  simp [State.updLink]

/-- Only what an update makes of the link as it stands matters. -/
theorem State.updLink_congr {l : LinkId} {g h : Link → Link} {s : State}
    (same : g s.links[l] = h s.links[l]) : s.updLink l g = s.updLink l h :=
  congrArg (fun k => { s with links := s.links.set l k }) same

/-- Nothing but link `l` differs where only its entry of the links was written. -/
theorem State.sameButLink_set (l : LinkId) (k : Link) (wa : Assembler) (cu : ConditionUnit) (s : State) :
    s.sameButLink l { s with links := s.links.set l k, wa := wa, cu := cu } :=
  ⟨rfl, fun m other => Vector.getElem_set_ne l.isLt m.isLt fun h => other (Fin.ext h.symm)⟩

/-! ## A link leaves the assembly records -/

theorem getLsbD_only (l m : LinkId) : (only l).getLsbD m = decide (l = m) := by
  rw [only, BitVec.getLsbD_twoPow, decide_eq_true l.isLt, Bool.true_and]
  exact decide_eq_decide.2 Fin.ext_iff.symm

/-- Taking link `l` out of a set clears its bit and no other. -/
theorem getLsbD_and_not_only (x : Set4) (l m : LinkId) :
    (x &&& ~~~only l).getLsbD m = (x.getLsbD m && !decide (l = m)) := by
  rw [BitVec.getLsbD_and, BitVec.getLsbD_not, decide_eq_true m.isLt, Bool.true_and, getLsbD_only]

theorem getLsbD_and_not_only_self (x : Set4) (l : LinkId) : (x &&& ~~~only l).getLsbD l = false := by
  rw [getLsbD_and_not_only, decide_eq_true rfl, Bool.not_true, Bool.and_false]

theorem getLsbD_and_not_only_other (x : Set4) {l m : LinkId} (other : m ≠ l) :
    (x &&& ~~~only l).getLsbD m = x.getLsbD m := by
  rw [getLsbD_and_not_only, decide_eq_false other.symm, Bool.not_false, Bool.and_true]

/-- The open records after link `l` has left: the old ones without it, but those that it alone had fed. -/
theorem Assembler.mem_linkLeaves_records {l : LinkId} {w : Assembler} {q : AssemblyRecord} :
    q ∈ (w.linkLeaves l).records ↔ q.arrived ≠ 0 ∧ ∃ r ∈ w.records,
      { r with expected := r.expected &&& ~~~only l, arrived := r.arrived &&& ~~~only l } = q := by
  simp only [Assembler.linkLeaves, List.mem_filter, List.mem_map, bne_iff_ne, and_comm]

theorem Assembler.linkLeaves_left (l : LinkId) (w : Assembler) : w.left l (w.linkLeaves l) := by
  refine ⟨rfl, rfl, rfl, fun q hq => ?_, fun r hr ⟨m, other, fed⟩ => ?_⟩
  · obtain ⟨arrived, r, -, rfl⟩ := Assembler.mem_linkLeaves_records.1 hq
    exact ⟨getLsbD_and_not_only_self _ l, getLsbD_and_not_only_self _ l, arrived⟩
  · have kept : r.arrived &&& ~~~only l ≠ 0 := fun empty => by
      have bit := getLsbD_and_not_only_other r.arrived other
      rw [empty, fed] at bit
      exact Bool.false_ne_true (BitVec.getLsbD_zero.symm.trans bit)
    exact ⟨_, Assembler.mem_linkLeaves_records.2 ⟨kept, r, hr, rfl⟩, rfl, rfl, rfl, rfl,
      fun _ h => ⟨getLsbD_and_not_only_other _ h, getLsbD_and_not_only_other _ h⟩⟩

/-! ## A link leaves UP for BREAKING -/

/-- The pulse of LINK-CHANGE leaves the flag of LINK-ERROR latched. -/
theorem ConditionUnit.rise_linkError_linkChange_flags (masked : Vector Bool 16) (cu : ConditionUnit) :
    ((cu.rise masked .linkError).rise masked .linkChange).flags[1] = true ∧
      ((cu.rise masked .linkError).rise masked .linkChange).flags[2] = true :=
  ⟨ConditionUnit.rise_flag masked .linkChange _,
    (ConditionUnit.rise_flag_other masked (c := .linkChange) (i := 2) _ (by decide)).trans
      (cu.rise_flag masked .linkError)⟩

theorem Link.isUp_of_state {k : Link} {fixed : Bool} (up : k.state = .up fixed) : k.isUp = true := by
  unfold Link.isUp
  rw [up]

/-- The state of a link that has left UP and entered BREAKING (R119). -/
def Link.broken (k : Link) : Link :=
  { k with
    state := .breaking, resolved := none, offset := none, windowSinceUp := false, lost := [], errorRun := 0
    waiting := [], sending := none, silence := none, sendTimer := none, breakHold := some 1500
    counters := { k.counters with restarts := countUp k.counters.restarts } }

/-- An UP link that enters BREAKING leaves UP first, with its LINK-CHANGE pulse. -/
theorem State.enterBreaking_of_up {l : LinkId} {s : State} (up : (s.links[l]).isUp = true) :
    s.enterBreaking l =
      { s with
        links := s.links.set l (s.links[l]).broken
        wa := s.wa.linkLeaves l
        cu := s.cu.rise s.cm.tables.notice.masked .linkChange } := by
  unfold State.enterBreaking State.leaveUp
  rw [if_pos up]
  simp [State.updLink, State.updWa, State.pulse, Link.broken, Config.breakHoldTime]

/-! ## A valid WINDOW frame on an UP link -/

/-- An UP link that has taken a valid WINDOW frame, before the window assembler judges it: the frame is counted,
the silence timer restarts, and a negotiated link keeps that a WINDOW has come (R117, R118, R125). -/
def Link.tookWindow (fixed : Bool) (k : Link) : Link :=
  { k with
    silence := some 600, windowSinceUp := k.windowSinceUp || !fixed, counters := k.counters.good }

/-- A matching WINDOW frame on an UP link goes to the window assembler (R118). -/
theorem exec_windowFrame_of_up {l : LinkId} {f : WindowFrame} {s : State} {fixed : Bool}
    (receives : s.receives l = true) (wf : f.wf = true) (up : (s.links[l]).state = .up fixed)
    (fits : (s.links[l]).matchesFrame f = true) :
    exec (.windowFrame l f) s =
      .next ((s.updLink l (Link.tookWindow fixed)).windowArrives l f) := by
  have taken : (s.goodFrame l).updLink l (fun k => { k with windowSinceUp := k.windowSinceUp || !fixed }) =
      s.updLink l (Link.tookWindow fixed) := by
    refine (s.updLink_updLink l _ _).trans (State.updLink_congr ?_)
    simp only [Link.tookWindow, LinkCounters.good, Config.silenceTime, up]
  change execWindowFrame l f s = _
  unfold execWindowFrame
  rw [receives, wf, up]
  exact (if_pos fits).trans (congrArg (fun t => Host.Outcome.next (t.windowArrives l f)) taken)

/-- A frame ahead is out-of-step (R92). -/
theorem State.windowArrives_ahead {l : LinkId} {f : WindowFrame} {s : State}
    (low : 4 ≤ s.wa.distance (f.seq + (s.links[l]).offset.getD 0))
    (high : s.wa.distance (f.seq + (s.links[l]).offset.getD 0) ≤ 32767) :
    s.windowArrives l f = (s.pulse .linkError).enterBreaking l := by
  unfold State.windowArrives
  rw [if_neg (by omega), if_pos high]

/-- A frame behind is late (R93). -/
theorem State.windowArrives_behind {l : LinkId} {f : WindowFrame} {s : State}
    (behind : 32768 ≤ s.wa.distance (f.seq + (s.links[l]).offset.getD 0)) :
    s.windowArrives l f = s.updCounters l fun c => { c with late := countUp c.late } := by
  unfold State.windowArrives
  rw [if_neg (by omega), if_neg (by omega)]

/-- An UP link whose WINDOW frame is out-of-step: LINK-ERROR and then LINK-CHANGE pulse as it breaks. -/
theorem exec_windowFrame_ahead {l : LinkId} {f : WindowFrame} {s : State} {fixed : Bool}
    (receives : s.receives l = true) (wf : f.wf = true) (up : (s.links[l]).state = .up fixed)
    (fits : (s.links[l]).matchesFrame f = true)
    (low : 4 ≤ s.wa.distance (f.seq + (s.links[l]).offset.getD 0))
    (high : s.wa.distance (f.seq + (s.links[l]).offset.getD 0) ≤ 32767) :
    exec (.windowFrame l f) s = .next
      { s with
        links := s.links.set l ((s.links[l]).tookWindow fixed).broken
        wa := s.wa.linkLeaves l
        cu := (s.cu.rise s.cm.tables.notice.masked .linkError).rise s.cm.tables.notice.masked
          .linkChange } := by
  have link := s.updLink_link l (Link.tookWindow fixed)
  have stillUp : (((s.updLink l (Link.tookWindow fixed)).pulse .linkError).links[l]).isUp = true := by
    rw [State.pulse_links, link]
    exact Link.isUp_of_state (k := (s.links[l]).tookWindow fixed) up
  rw [exec_windowFrame_of_up receives wf up fits,
    State.windowArrives_ahead (by rwa [link]) (by rwa [link]), State.enterBreaking_of_up stillUp]
  simp [State.updLink, State.pulse]

/-- An UP link whose WINDOW frame is late only counts it. -/
theorem exec_windowFrame_behind {l : LinkId} {f : WindowFrame} {s : State} {fixed : Bool}
    (receives : s.receives l = true) (wf : f.wf = true) (up : (s.links[l]).state = .up fixed)
    (fits : (s.links[l]).matchesFrame f = true)
    (behind : 32768 ≤ s.wa.distance (f.seq + (s.links[l]).offset.getD 0)) :
    exec (.windowFrame l f) s = .next (s.updLink l fun k =>
      { k with
        silence := some 600
        windowSinceUp := k.windowSinceUp || !fixed
        counters := { k.counters.good with late := countUp k.counters.late } }) := by
  rw [exec_windowFrame_of_up receives wf up fits,
    State.windowArrives_behind (by rwa [State.updLink_link])]
  exact congrArg Host.Outcome.next (s.updLink_updLink l _ _)

/-- Settles O43: a frame ahead breaks its link, which leaves the records and latches LINK-ERROR; one behind is
only counted. -/
theorem windowFrameOutOfRange : Obligations.WindowFrameOutOfRange := by
  intro l f s fixed receives wf up fits k d
  refine ⟨fun low high => ?_, exec_windowFrame_behind receives wf up fits⟩
  refine ⟨_, exec_windowFrame_ahead receives wf up fits low high, s.sameButLink_set .., ?_⟩
  have link : (s.links.set l (k.tookWindow fixed).broken)[l] = (k.tookWindow fixed).broken :=
    Vector.getElem_set_self l.isLt
  dsimp only
  rw [link]
  exact ⟨rfl, rfl, rfl, rfl, s.wa.linkLeaves_left l, rfl, s.cu.rise_linkError_linkChange_flags _⟩

end Sys2Proof.Machine
end

section
/-! What a standard asks of the parts of a state, and the operations of the condition unit, the message link, the
queues and the accounts, each of which keeps it. The four step invariants on data (capacities, record slots,
residues, window counts) and HALTED are five standards, so that each operation is treated once. -/

namespace Sys2Proof.Machine

/-! ## Standards -/

/-- What is asked of a state: whether capacities, preemption, record slots and HALTED count, and what every vector
of residues and every set of window counts has to meet. A standard is met by what starts at 0, and by what a window
adds (R18, R29). -/
structure Standard where
  caps : Prop
  preemption : Prop
  slots : Prop
  halted : Prop
  residues : Vector Nat 24 → Prop
  counts : WindowCounts → Prop
  residues_zero : residues (Vector.replicate 24 0)
  counts_zero : counts WindowCounts.zero
  residues_apply : ∀ d l x, residues x.2 → residues (applyAll d l x).2
  counts_count : ∀ r c, c.total < u32Max → counts c → counts (c.count r)

namespace Standard

variable (K : Standard)

/-- The counts of an open interval, if there is one. -/
def interval : Option Interval → Prop
  | some iv => K.counts iv.counts
  | none => True

/-- Residues and open interval of an account. -/
def account (acc : Account) : Prop := K.residues acc.residues ∧ K.interval acc.interval

/-- The residues of a register block, if it is there. -/
def block : Option RegContent → Prop
  | some c => K.residues c.residues
  | none => True

/-- The content of a save block. -/
def save : SaveBlock → Prop
  | .saved c =>
    (∀ a : AccountId, K.residues (c.accounts[a]).residues ∧ K.interval (c.accounts[a]).interval) ∧
      ∀ r ∈ c.records, K.counts r.counts
  | _ => True

/-- What a job writes, and the slot that a record job has chosen. -/
def job : Job → Prop
  | .save b => K.save b
  | .block c _ => K.residues c.residues
  | .record r n => K.counts r.counts ∧ (K.slots → n < Config.slotCount)
  | _ => True

/-- The job that runs or stands preempted, if there is one. -/
def active : Option ActiveJob → Prop
  | some j => K.job j.job
  | none => True

/-- The retained store. -/
structure store (st : Store) : Prop where
  registers : ∀ a : AccountId, K.block st.registers[a]
  spares : ∀ n : SpareId, K.block st.spares[n]
  records : ∀ p ∈ st.slots, K.counts p.2.counts
  slots : K.slots → slotsWf st.slots = true
  save : ∀ b, st.save = some b → K.save b

/-- A job stands preempted only while no job runs, or a save-block job does (R134). -/
def preempts (r : Controller) : Prop :=
  r.preempted ≠ none → r.running = none ∨ ∃ b n, r.running = some ⟨.save b, n⟩

/-- The store controller. -/
structure rsc (r : Controller) : Prop where
  history : K.caps → r.history.length ≤ 2
  preempts : K.preemption → Standard.preempts r
  halted : K.halted → r.halted = true
  images : ∀ a : AccountId, K.residues (r.images[a]).residues
  blocks : ∀ c ∈ r.blockQueue, K.residues c.residues
  records : ∀ q ∈ r.recordQueue, K.counts q.counts
  running : K.active r.running
  preempted : K.active r.preempted

/-- The interval accountant. -/
def ia (x : Accountant) : Prop := ∀ a : AccountId, K.account x.accounts[a]

/-- The condition unit (R183). -/
def cu (x : ConditionUnit) : Prop := K.caps → ∀ i : Fin 16, x.rises[i] ≤ 255

/-- The configuration manager (R157). -/
def cm (x : Manager) : Prop := K.caps → x.queue.length ≤ 8

/-- The message link controller (R193). -/
def mlc (x : MsgController) : Prop := K.caps → x.buffer.length ≤ 2

end Standard

/-- The state meets a standard. -/
structure State.Meets (K : Standard) (s : State) : Prop where
  cu : K.cu s.cu
  ia : K.ia s.ia
  store : K.store s.store
  rsc : K.rsc s.rsc
  cm : K.cm s.cm
  mlc : K.mlc s.mlc

/-- A command's outcome is a next state of which `P` holds. -/
inductive Leads (P : State → Prop) : Host.Outcome State Fault Refusal → Prop
  | next {t : State} (h : P t) : Leads P (.next t)

theorem Leads.elim {P : State → Prop} {o : Host.Outcome State Fault Refusal} {t : State} (h : Leads P o)
    (next : o = .next t) : P t := by
  subst next
  obtain ⟨h⟩ := h
  exact h

theorem Leads.ite {P : State → Prop} {c : Prop} [Decidable c] {x y : Host.Outcome State Fault Refusal}
    (yes : c → Leads P x) (no : ¬ c → Leads P y) : Leads P (if c then x else y) := by
  split
  next h => exact yes h
  next h => exact no h

theorem State.Meets.ite {K : Standard} {c : Prop} [Decidable c] {x y : State}
    (yes : c → x.Meets K) (no : ¬ c → y.Meets K) : (if c then x else y).Meets K := by
  split
  next h => exact yes h
  next h => exact no h

/-- An entry of a vector after a write: the new one, or the one that stood. -/
theorem Vector.forall_set {α : Type} {n : Nat} {P : α → Prop} {v : Vector α n} {x : α} (i : Fin n) (hx : P x)
    (hv : ∀ j : Fin n, P v[j]) (j : Fin n) : P ((v.set i x)[j]) := by
  simp only [Fin.getElem_fin, Vector.getElem_set]
  split
  next => exact hx
  next => exact hv j

theorem Vector.forall_ofFn {α : Type} {n : Nat} {P : α → Prop} {f : Fin n → α} (h : ∀ i, P (f i)) (j : Fin n) :
    P ((Vector.ofFn f)[j]) := by
  simpa using h j

theorem Vector.forall_replicate {α : Type} {n : Nat} {P : α → Prop} {x : α} (h : P x) (j : Fin n) :
    P ((Vector.replicate n x)[j]) := by
  simpa using h

/-! ## The condition unit -/

section
variable {cu : ConditionUnit}

theorem ConditionUnit.rise_rises_le (masked : Vector Bool 16) (c : Condition)
    (h : ∀ i : Fin 16, cu.rises[i] ≤ 255) : ∀ i : Fin 16, (cu.rise masked c).rises[i] ≤ 255 := by
  unfold ConditionUnit.rise
  split
  · exact Vector.forall_set (P := (· ≤ 255)) c.idx (Nat.min_le_left _ _) h
  · exact Vector.forall_set (P := (· ≤ 255)) c.idx (by decide) h

theorem ConditionUnit.fall_rises_le (t : NoticeTable) (c : Condition)
    (h : ∀ i : Fin 16, cu.rises[i] ≤ 255) : ∀ i : Fin 16, (cu.fall t c).rises[i] ≤ 255 := by
  unfold ConditionUnit.fall
  split
  · exact Vector.forall_set (P := (· ≤ 255)) c.idx (by decide) h
  · exact h

theorem ConditionUnit.give_rises_le (t : NoticeTable) (c : Condition) (level : Bool)
    (h : ∀ i : Fin 16, cu.rises[i] ≤ 255) : ∀ i : Fin 16, (cu.give t c level).rises[i] ≤ 255 := by
  unfold ConditionUnit.give
  split
  · exact h
  · split
    · exact ConditionUnit.rise_rises_le _ c h
    · exact ConditionUnit.fall_rises_le t c h

theorem ConditionUnit.clearWhere_rises_le (masked : Vector Bool 16) (drop : Fin 16 → Bool)
    (h : ∀ i : Fin 16, cu.rises[i] ≤ 255) : ∀ i : Fin 16, (cu.clearWhere masked drop).rises[i] ≤ 255 := by
  refine Vector.forall_ofFn (P := (· ≤ 255)) fun i => ?_
  split
  · decide
  · exact h i

end

namespace State.Meets

variable {K : Standard} {s : State}

/-! ## Single parts -/

theorem withCu (h : s.Meets K) {x : ConditionUnit} (hx : K.cu x) : ({ s with cu := x } : State).Meets K :=
  { h with cu := hx }

theorem updIa (h : s.Meets K) {f : Accountant → Accountant} (hf : K.ia (f s.ia)) : (s.updIa f).Meets K :=
  { h with ia := hf }

theorem updStore (h : s.Meets K) {f : Store → Store} (hf : K.store (f s.store)) : (s.updStore f).Meets K :=
  { h with store := hf }

theorem updRsc (h : s.Meets K) {f : Controller → Controller} (hf : K.rsc (f s.rsc)) : (s.updRsc f).Meets K :=
  { h with rsc := hf }

theorem updCm (h : s.Meets K) {f : Manager → Manager} (hf : K.cm (f s.cm)) : (s.updCm f).Meets K :=
  { h with cm := hf }

theorem updMlc (h : s.Meets K) {f : MsgController → MsgController} (hf : K.mlc (f s.mlc)) :
    (s.updMlc f).Meets K :=
  { h with mlc := hf }

theorem updSm (h : s.Meets K) (f : SupplyMonitor → SupplyMonitor) : (s.updSm f).Meets K := { h with }

theorem updWa (h : s.Meets K) (f : Assembler → Assembler) : (s.updWa f).Meets K := { h with }

theorem updLink (h : s.Meets K) (l : LinkId) (f : Link → Link) : (s.updLink l f).Meets K := { h with }

theorem updCounters (h : s.Meets K) (l : LinkId) (f : LinkCounters → LinkCounters) :
    (s.updCounters l f).Meets K :=
  h.updLink l _

theorem updPoint (h : s.Meets K) (p : PointId) (f : Point → Point) : (s.updPoint p f).Meets K := { h with }

theorem updAccount (h : s.Meets K) {a : AccountId} {f : Account → Account}
    (hf : K.account (f s.ia.accounts[a])) : (s.updAccount a f).Meets K :=
  h.updIa (Vector.forall_set a hf h.ia)

/-- Counters of the store controller are not asked about. -/
theorem updStoreCounters (h : s.Meets K) (f : StoreCounters → StoreCounters) : (s.updStoreCounters f).Meets K :=
  h.updRsc { h.rsc with }

/-! ## Conditions -/

theorem pulse (h : s.Meets K) (c : Condition) : (s.pulse c).Meets K :=
  h.withCu fun hc => ConditionUnit.rise_rises_le _ c (h.cu hc)

theorem level (h : s.Meets K) (c : Condition) (v : Bool) : (s.level c v).Meets K :=
  h.withCu fun hc => ConditionUnit.give_rises_le _ c v (h.cu hc)

theorem giveRegisterFlag (h : s.Meets K) : s.giveRegisterFlag.Meets K := h.level _ _
theorem givePointLevels (h : s.Meets K) : s.givePointLevels.Meets K := (h.level _ _).level _ _
theorem giveBreakerUnknown (h : s.Meets K) : s.giveBreakerUnknown.Meets K := h.level _ _
theorem giveTimeInvalid (h : s.Meets K) : s.giveTimeInvalid.Meets K := h.level _ _
theorem giveSupply (h : s.Meets K) : s.giveSupply.Meets K := h.level _ _
theorem giveStoreAlert (h : s.Meets K) : s.giveStoreAlert.Meets K := h.level _ _
theorem giveFatal (h : s.Meets K) : s.giveFatal.Meets K := h.level _ _

/-! ## Time and the message link -/

theorem freshBoundary (h : s.Meets K) : s.freshBoundary.Meets K := { h with ia := h.ia }

theorem advance (h : s.Meets K) (dt : Nat) : (s.advance dt).Meets K := by
  unfold State.advance
  dsimp only
  refine .ite (fun _ => .ite (fun _ => ?_) fun _ => ?_) fun _ => { h with }
  · exact State.Meets.giveTimeInvalid { h with ia := h.ia, rsc := { h.rsc with } }
  · exact { h with rsc := { h.rsc with } }

theorem transmit (h : s.Meets K) (frame : List Byte) : (s.transmit frame).Meets K := h.updMlc h.mlc

theorem finish (h : s.Meets K) (kind : Byte) (payload : List Byte) : (s.finish kind payload).Meets K := by
  unfold State.finish
  split
  next => exact h
  next f rest hb =>
    have served : (s.updMlc fun m => { m with buffer := rest, inService := none }).Meets K :=
      h.updMlc fun hc => Nat.le_of_succ_le (by simpa [hb] using h.mlc hc)
    exact .ite (fun _ => served) fun _ => served.transmit _

theorem ack (h : s.Meets K) (payload : List Byte) : (s.ack payload).Meets K := h.finish _ _

theorem refuse (h : s.Meets K) (reason : Reason) : (s.refuse reason).Meets K := by
  unfold State.refuse
  split
  · exact h
  · exact h.finish _ _

theorem waitFor (h : s.Meets K) (w : ServiceWait) : (s.waitFor w).Meets K := h.updMlc h.mlc

/-! ## The queues of the store controller -/

theorem handConfig (h : s.Meets K) (t : TableId) : (s.handConfig t).Meets K := h.updRsc { h.rsc with }

theorem queueSave (h : s.Meets K) (j : SaveJob) : (s.queueSave j).Meets K := h.updRsc { h.rsc with }

end State.Meets

theorem mem_joinBlock {c x : RegContent} {l : List RegContent} (h : x ∈ joinBlock c l) : x = c ∨ x ∈ l := by
  induction l with
  | nil => simpa [joinBlock] using h
  | cons y rest ih =>
    unfold joinBlock at h
    split at h
    · exact (List.mem_cons.1 h).imp_right (List.mem_cons_of_mem _)
    · rcases List.mem_cons.1 h with rfl | h
      · exact .inr List.mem_cons_self
      · exact (ih h).imp_right (List.mem_cons_of_mem _)

namespace State.Meets

variable {K : Standard} {s : State}

theorem queueBlock (h : s.Meets K) {c : RegContent} (hc : K.residues c.residues) : (s.queueBlock c).Meets K :=
  h.updRsc { h.rsc with
    blocks := fun x hx => (mem_joinBlock hx).elim (fun e => e ▸ hc) (h.rsc.blocks x) }

/-- The content that an account hands has the residues of the account. -/
theorem handBlock (h : s.Meets K) (a : AccountId) : (s.handBlock a).Meets K := by
  have queued := h.queueBlock (c := ⟨a, s.ia.accounts[a].regs, s.ia.accounts[a].residues⟩) (h.ia a).1
  have image := queued.updRsc (f := fun r =>
      { r with images := r.images.set a ⟨a, s.ia.accounts[a].regs, s.ia.accounts[a].residues⟩ })
    { queued.rsc with
      images := Vector.forall_set (P := fun c : RegContent => K.residues c.residues) a (h.ia a).1 queued.rsc.images }
  exact image.updAccount (a := a) (f := fun acc => { acc with inFlight := true, blockOwed := true }) (h.ia a)

theorem handRecord (h : s.Meets K) {q : IntervalRecord} (hq : K.counts q.counts) : (s.handRecord q).Meets K :=
  h.updRsc { h.rsc with
    records := fun x hx => by
      rcases List.mem_append.1 hx with hx | hx
      · exact h.rsc.records x hx
      · exact List.mem_singleton.1 hx ▸ hq }

end State.Meets

theorem Standard.active_dropRead {K : Standard} {j : Option ActiveJob} (h : K.active j) : K.active (dropRead j) := by
  unfold dropRead
  split
  · trivial
  · exact h

/-- Dropping a read leaves a save-block job, and no job, as they are. -/
theorem Standard.preempts_dropRead {r : Controller} (h : preempts r) (b : Bool) (q : Option ReadJob) :
    preempts { r with
      halted := b, readQueue := q, running := dropRead r.running, preempted := dropRead r.preempted } := by
  intro hp
  have before : r.preempted ≠ none := fun e => hp (by simp [e, dropRead])
  rcases h before with e | ⟨c, n, e⟩
  · exact .inl (by simp [e, dropRead])
  · exact .inr ⟨c, n, by simp [e, dropRead]⟩

namespace State.Meets

variable {K : Standard} {s : State}

theorem enterHalted (h : s.Meets K) : s.enterHalted.Meets K := by
  unfold State.enterHalted
  dsimp only
  refine .ite (fun _ => h) fun _ => ?_
  have halted := h.updRsc (f := fun r =>
      { r with halted := true, readQueue := none, running := dropRead r.running, preempted := dropRead r.preempted })
    { h.rsc with
      preempts := fun hp => Standard.preempts_dropRead (h.rsc.preempts hp) true none
      halted := fun _ => rfl
      running := Standard.active_dropRead h.rsc.running
      preempted := Standard.active_dropRead h.rsc.preempted }
  have abandoned := (halted.updWa fun w => { w with processing := none }).giveFatal
  exact .ite (fun _ => abandoned.refuse _) fun _ => abandoned

/-! ## Accounts -/

theorem openAccount (h : s.Meets K) (start : Nat) (a : AccountId) : (s.openAccount start a).Meets K :=
  h.updAccount (a := a) ⟨(h.ia a).1, K.counts_zero⟩

theorem closeAccount (h : s.Meets K) (cause : EndCause) (endTime : Nat) (reopen : Reopen) (a : AccountId) :
    (s.closeAccount cause endTime reopen a).Meets K := by
  unfold State.closeAccount
  split
  next => exact h
  next iv hiv =>
    have counts : K.interval (some iv) := hiv ▸ (h.ia a).2
    have closed := (h.updAccount (a := a)
      (f := fun acc =>
        { acc with interval := none, regs := closedRegs s.cm.tables.contract.ratio iv s.ia.accounts[a].regs })
      ⟨(h.ia a).1, trivial⟩)
    have numbered := closed.updIa (f := fun ia => { ia with nextSeq := ia.nextSeq + 1 }) closed.ia
    dsimp only
    split
    · exact (((numbered.handBlock a).handRecord (by exact counts)).pulse _).giveRegisterFlag
    · exact ((((numbered.openAccount _ a).handBlock a).handRecord (by exact counts)).pulse _).giveRegisterFlag

theorem closeList (h : s.Meets K) (cause : EndCause) (endTime : Nat) (reopen : Reopen) (l : List AccountId) :
    (s.closeList cause endTime reopen l).Meets K := by
  induction l generalizing s with
  | nil => exact h
  | cons a rest ih => exact ih (h.closeAccount cause endTime reopen a)

theorem closeAll (h : s.Meets K) (cause : EndCause) (endTime : Nat) (reopen : Reopen) :
    (s.closeAll cause endTime reopen).Meets K :=
  h.closeList _ _ _ _

theorem runEvent (h : s.Meets K) (e : CloseEvent) : (s.runEvent e).Meets K :=
  .ite (fun _ => (h.closeAll _ _ _).freshBoundary) fun _ => h.closeAll _ _ _

theorem waitEvent (h : s.Meets K) (e : CloseEvent) : (s.waitEvent e).Meets K := h.updIa h.ia

theorem raiseEvent (h : s.Meets K) (e : CloseEvent) : (s.raiseEvent e).Meets K :=
  .ite (fun _ => h.waitEvent e) fun _ => .ite (fun _ => (h.waitEvent e).enterHalted) fun _ => h.runEvent e

theorem releaseTimeSet (h : s.Meets K) : s.releaseTimeSet.Meets K := .ite (fun _ => h.ack _) fun _ => h

theorem beginWaiting (h : s.Meets K) : s.beginWaiting.Meets K := by
  unfold State.beginWaiting
  split
  next => exact h
  next e rest _ =>
    have taken : (s.updIa fun ia => { ia with waiting := rest }).Meets K := h.updIa h.ia
    exact .ite (fun _ => h) fun _ => .ite (fun _ => h.enterHalted) fun _ => (taken.runEvent e).releaseTimeSet

theorem boundaryFalls (h : s.Meets K) (awaited : Bool) : (s.boundaryFalls awaited).Meets K := by
  unfold State.boundaryFalls
  split
  next => exact h
  next b _ =>
    have passed : (s.updIa fun ia => { ia with nextBoundary := some (b + s.intervalSeconds) }).Meets K :=
      h.updIa h.ia
    exact .ite (fun _ => passed) fun _ => .ite (fun _ => h.updIa h.ia) fun _ =>
      .ite (fun _ => passed) fun _ => passed.raiseEvent _

theorem presetAccount (h : s.Meets K) (a : AccountId) (values : Vector Nat 25) :
    (s.presetAccount a values).Meets K :=
  ((h.updAccount (a := a) ⟨K.residues_zero, (h.ia a).2⟩).handBlock a).giveRegisterFlag

theorem handBlocks (h : s.Meets K) (l : List AccountId) : (s.handBlocks l).Meets K := by
  induction l generalizing s with
  | nil => exact h
  | cons a rest ih => exact ih (h.handBlock a)

theorem eraseAccounts (h : s.Meets K) : s.eraseAccounts.Meets K := by
  have erased := h.updIa (f := fun ia => { ia with accounts := Vector.ofFn fun a => (ia.accounts[a]).erased })
    (Vector.forall_ofFn (P := K.account) fun _ => ⟨K.residues_zero, trivial⟩)
  exact (erased.handBlocks _).giveRegisterFlag

theorem openAll (h : s.Meets K) (l : List AccountId) : (s.openAll l).Meets K := by
  induction l generalizing s with
  | nil => exact h
  | cons a rest ih => exact ih (h.openAccount _ a)

/-! ## The supply monitor -/

theorem callSave (h : s.Meets K) : s.callSave.Meets K := (h.queueSave _).updSm _

theorem holdBoundaries (h : s.Meets K) : (s.updIa Accountant.holdBoundaries).Meets K := by
  refine h.updIa ?_
  unfold Accountant.holdBoundaries
  split
  · exact h.ia
  · exact h.ia

theorem pfwAsserted (h : s.Meets K) : s.pfwAsserted.Meets K := by
  unfold State.pfwAsserted
  split
  · exact (((h.updSm _).holdBoundaries.updWa _).callSave).giveSupply.releaseTimeSet
  · exact h.updSm _

end State.Meets

/-- The OUTAGE flag is not asked about. -/
theorem Standard.interval_map {K : Standard} {f : Interval → Interval} (hf : ∀ iv, (f iv).counts = iv.counts)
    {x : Option Interval} (h : K.interval x) : K.interval (x.map f) := by
  cases x with
  | none => trivial
  | some iv =>
    show K.counts (f iv).counts
    rw [hf]
    exact h

namespace State.Meets

variable {K : Standard} {s : State}

theorem flagOutage (h : s.Meets K) : (s.updIa Accountant.flagOutage).Meets K :=
  h.updIa (Vector.forall_ofFn (P := K.account) fun a =>
    ⟨(h.ia a).1, Standard.interval_map (f := fun iv => { iv with outage := true }) (fun _ => rfl) (h.ia a).2⟩)

theorem returnToNormal (h : s.Meets K) : s.returnToNormal.Meets K := by
  unfold State.returnToNormal
  have back := ((h.updSm fun m => { m with state := .normal, deassertHeld := false }).flagOutage.queueSave
    .running).giveSupply
  dsimp only
  split
  next => exact back
  next b _ =>
    have fresh := (back.updIa (f := fun ia => { ia with pendingBoundary := none }) back.ia).freshBoundary
    exact .ite (fun _ => fresh) fun _ => fresh.raiseEvent _

theorem pfwDeasserted (h : s.Meets K) : s.pfwDeasserted.Meets K := by
  unfold State.pfwDeasserted
  split
  · exact h
  · exact h.updSm _
  · exact h.returnToNormal

theorem saveComplete (h : s.Meets K) (verified : Bool) (time : TimeStamp) :
    (s.saveComplete verified time).Meets K :=
  .ite (fun _ => .ite (fun _ => (h.updSm _).returnToNormal) fun _ => (h.updSm _).updSm _) fun _ => h.updSm _

/-- The content of a save is formed from what the state holds. -/
theorem saveContent (h : s.Meets K) (hp : K.active s.rsc.running ∧ K.active s.rsc.preempted) (j : SaveJob) :
    K.save (s.saveContent j) := by
  have job_records : ∀ j : Option ActiveJob, K.active j → ∀ r ∈ ActiveJob.record? j, K.counts r.counts := by
    intro j hj r hr
    unfold ActiveJob.record? at hr
    split at hr
    · rw [List.mem_singleton.1 hr]
      exact hj.1
    · exact absurd hr (List.not_mem_nil)
  cases j with
  | save =>
    refine ⟨fun a => ?_, fun r hr => ?_⟩
    · simpa [State.savedState, Standard.account] using h.ia a
    · rcases List.mem_append.1 hr with hr | hr
      · rcases List.mem_append.1 hr with hr | hr
        · exact job_records _ hp.1 r hr
        · exact job_records _ hp.2 r hr
      · exact h.rsc.records r hr
  | running => trivial
  | clean =>
    unfold State.saveContent
    dsimp only
    split <;> trivial

end State.Meets

end Sys2Proof.Machine
end

section
/-! The retained store and its controller meet a standard after each of their operations (chapter 7). -/

namespace Sys2Proof.Machine

/-! ## The units of the store -/

namespace Standard

variable {K : Standard} {st : Store}

theorem store.setBlock (h : K.store st) (loc : BlockLoc) {c : Option RegContent} (hc : K.block c) :
    K.store (st.setBlock loc c) := by
  cases loc with
  | register n => exact { h with registers := Vector.forall_set (P := K.block) n hc h.registers }
  | spare n => exact { h with spares := Vector.forall_set (P := K.block) n hc h.spares }

theorem store.eraseSlot (h : K.store st) (n : Nat) : K.store { st with slots := Machine.eraseSlot n st.slots } :=
  { h with
    records := fun p hp => h.records p (List.mem_filter.1 hp).1
    slots := fun hs => eraseSlot_wf (h.slots hs) }

theorem store.put (h : K.store st) {job : Job} (hj : K.job job) : K.store (st.put job) := by
  cases job with
  | save b => exact { h with save := fun x hx => Option.some.inj hx ▸ hj }
  | block c loc => exact h.setBlock loc hj
  | record r n =>
    exact { h with
      records := fun p hp => (mem_writeSlot hp).elim (fun e => e ▸ hj.1) (h.records p)
      slots := fun hs => writeSlot_wf (hj.2 hs) (h.slots hs) }
  | config c g => exact { h with }
  | read v b => exact h
  | patrol u b => exact h

theorem store.tear (h : K.store st) (job : Job) : K.store (st.tear job) := by
  cases job with
  | save b => exact { h with save := fun x hx => nomatch hx }
  | block c loc => exact h.setBlock loc (c := none) trivial
  | record r n => exact h.eraseSlot n
  | config c g => exact { h with }
  | read v b => exact h
  | patrol u b => exact h

theorem store.leave (h : K.store st) (left : UnitLeft) {job : Job} (hj : K.job job) : K.store (st.leave left job) := by
  cases left with
  | untouched => exact h
  | torn => exact h.tear job
  | complete => exact h.put hj

theorem store.decay (h : K.store st) (u : StoreUnit) : K.store (st.decay u) := by
  cases u with
  | register n => exact h.setBlock (.register n) (c := none) trivial
  | spare n => exact h.setBlock (.spare n) (c := none) trivial
  | config t => exact { h with }
  | slot n => exact h.eraseSlot n.val
  | save => exact { h with save := fun x hx => nomatch hx }

end Standard

/-! ## Jobs -/

/-- A job that may run while another stands preempted: the save (R134). -/
def Job.isSave : Job → Prop
  | .save _ => True
  | _ => False

/-- A controller with job `j` running meets what the one before met, if the job does. -/
theorem Standard.rsc.run {K : Standard} {r : Controller} (h : K.rsc r) {job : Job} (n : Nat) (hj : K.job job)
    (hp : K.preemption → job.isSave ∨ r.preempted = none) : K.rsc { r with running := some ⟨job, n⟩ } :=
  { h with
    preempts := fun hk stands => by
      rcases hp hk with save | none
      · cases job with
        | save b => exact .inr ⟨b, n, rfl⟩
        | _ => exact save.elim
      · exact absurd none stands
    running := hj }

/-- With no job running nothing is asked about preemption. -/
theorem Standard.rsc.idle {K : Standard} {r : Controller} (h : K.rsc r) : K.rsc { r with running := none } :=
  { h with preempts := fun _ _ => .inl rfl, running := trivial }

namespace State.Meets

variable {K : Standard} {s : State}

theorem jobEnds (h : s.Meets K) : s.jobEnds.Meets K := h.updRsc h.rsc.idle

theorem countRetry (h : s.Meets K) : s.countRetry.Meets K := h.updStoreCounters _

theorem startJob (h : s.Meets K) {job : Job} (hj : K.job job)
    (hp : K.preemption → job.isSave ∨ s.rsc.preempted = none) : (s.startJob job).Meets K :=
  h.updRsc (h.rsc.run 1 hj hp)

theorem preempt (h : s.Meets K) {j : ActiveJob} (hj : K.job j.job) : (s.preempt j).Meets K :=
  h.updRsc { h.rsc with preempts := fun _ _ => .inl rfl, running := trivial, preempted := hj }

theorem interrupt (h : s.Meets K) (left : UnitLeft) : (s.interrupt left).Meets K := by
  unfold State.interrupt
  split
  next => exact h
  next j hj =>
    have running : K.active (some j) := hj ▸ h.rsc.running
    exact h.updStore (h.store.leave left running)

theorem resume (h : s.Meets K) {p : ActiveJob} (hp : K.job p.job) : (s.resume p).Meets K := by
  unfold State.resume
  have taken := h.updRsc (f := fun r => { r with preempted := none })
    { h.rsc with preempts := fun _ x => absurd rfl x, preempted := trivial }
  refine .ite (fun _ => ?_) fun _ => taken.updRsc (taken.rsc.run _ hp fun _ => .inr rfl)
  dsimp only
  split
  · exact taken.updRsc (taken.rsc.run _ hp fun _ => .inr rfl)
  · exact taken.countRetry.updRsc (taken.countRetry.rsc.run _ hp fun _ => .inr rfl)

theorem makeRoom (h : s.Meets K) : (s.updRsc Controller.makeRoom).Meets K := by
  refine h.updRsc ?_
  unfold Controller.makeRoom
  split
  · exact { h.rsc with }
  · exact h.rsc

end State.Meets

@[simp] theorem Controller.makeRoom_preempted (r : Controller) : r.makeRoom.preempted = r.preempted := by
  unfold Controller.makeRoom
  split <;> rfl

@[simp] theorem Controller.makeRoom_saveQueue (r : Controller) : r.makeRoom.saveQueue = r.saveQueue := by
  unfold Controller.makeRoom
  split <;> rfl

namespace State.Meets

variable {K : Standard} {s : State}

theorem startRecord (h : s.Meets K) {q : IntervalRecord} (hq : K.counts q.counts) (hp : s.rsc.preempted = none) :
    (s.startRecord q).Meets K :=
  h.makeRoom.startJob ⟨hq, fun _ => s.rsc.nextSlot_lt⟩ fun _ => .inr (by simpa using hp)

theorem startConfig (h : s.Meets K) (j : ConfigJob) (hp : s.rsc.preempted = none) : (s.startConfig j).Meets K := by
  unfold State.startConfig
  split
  · exact (h.updRsc (f := fun r => { r with map := { s.rsc.map with nextSeq := s.ia.nextSeq } })
      { h.rsc with }).startJob trivial fun _ => .inr hp
  · exact h.startJob trivial fun _ => .inr hp

theorem startPatrol (h : s.Meets K) (hp : s.rsc.preempted = none) : s.startPatrol.Meets K := by
  unfold State.startPatrol
  have taken := h.updRsc (f := fun r => { r with patrolQueued := false }) { h.rsc with }
  dsimp only
  split
  · exact taken.updRsc { taken.rsc with }
  next u _ =>
    exact (taken.updRsc (f := fun r => { r with patrolPos := u }) { taken.rsc with }).startJob trivial
      fun _ => .inr hp

/-- The arbiter starts what it finds; it is asked only while no job runs (R132, R134). -/
theorem startNext (h : s.Meets K) : s.startNext.Meets K := by
  have active := And.intro h.rsc.running h.rsc.preempted
  unfold State.startNext
  split
  next j _ =>
    exact (h.updRsc (f := fun r => { r with saveQueue := none }) { h.rsc with }).startJob
      (h.saveContent active j) fun _ => .inl trivial
  next =>
    split
    next p hp =>
      have stood : K.active (some p) := hp ▸ h.rsc.preempted
      exact h.resume stood
    next none =>
      split
      next c rest hq =>
        have blocks := hq ▸ h.rsc.blocks
        exact (h.updRsc (f := fun r => { r with blockQueue := rest })
          { h.rsc with blocks := fun x hx => blocks x (List.mem_cons_of_mem _ hx) }).startJob
          (job := .block c _) (blocks c List.mem_cons_self) fun _ => .inr none
      next =>
        split
        next q rest hq =>
          have records := hq ▸ h.rsc.records
          exact (h.updRsc (f := fun r => { r with recordQueue := rest })
            { h.rsc with records := fun x hx => records x (List.mem_cons_of_mem _ hx) }).startRecord
            (records q List.mem_cons_self) none
        next =>
          split
          next j rest _ =>
            exact (h.updRsc (f := fun r => { r with configQueue := rest }) { h.rsc with }).startConfig j none
          next =>
            split
            next j _ =>
              exact (h.updRsc (f := fun r => { r with readQueue := Option.none }) { h.rsc with }).startJob trivial
                fun _ => .inr none
            next => exact .ite (fun _ => h.startPatrol none) fun _ => h

theorem execStoreJobStart (h : s.Meets K) : Leads (State.Meets K) (execStoreJobStart s) := by
  unfold Machine.execStoreJobStart
  refine .ite (fun _ => .next h) fun _ => ?_
  split
  · exact .next h.startNext
  · exact .ite (fun _ => .next ((h.preempt (j := ⟨.read _ true, _⟩) trivial).startNext)) fun _ => .next h
  · exact .next h

/-! ## The end of a write -/

theorem settleFlight (h : s.Meets K) (a : AccountId) : (s.settleFlight a).Meets K :=
  .ite (fun _ => h.updAccount (a := a) (f := fun acc => { acc with inFlight := false }) (h.ia a)) fun _ => h

theorem consume (h : s.Meets K) (f : Consumption → Consumption) : (s.consume f).Meets K := by
  unfold State.consume
  split
  · exact h
  · have ended := h.updRsc (f := fun r => { r with consumption := none }) { h.rsc with }
    exact .ite (fun _ => .ite (fun _ => ended) fun _ => ended.queueSave _) fun _ => h.updRsc { h.rsc with }

theorem verified (h : s.Meets K) {job : Job} (hj : K.job job) : (s.verified job).Meets K := by
  have ended := (h.updStore (h.store.put hj)).jobEnds
  unfold State.verified
  dsimp only
  split
  next b =>
    split
    · exact ended
    · exact (ended.updRsc (f := fun r => { r with saveFailed := false }) { ended.rsc with }).saveComplete _ _
  next c loc =>
    exact ((ended.updAccount (a := c.account) (f := fun acc => { acc with
      blockOwed := acc.blockOwed && s.rsc.blockQueue.any (·.account == c.account) })
      (ended.ia c.account)).settleFlight _).consume _
  next q n =>
    exact ((ended.updRsc (f := fun r => { r with
      oldest := if r.newest < r.oldest then q.seq else r.oldest, newest := q.seq, newestSlot := n })
      { ended.rsc with }).settleFlight _).consume _
  next => exact ended

theorem nextAttempt (h : s.Meets K) {job : Job} (n : Nat) (hj : K.job job)
    (hp : K.preemption → job.isSave ∨ s.rsc.preempted = none) : (s.nextAttempt job n).Meets K := by
  unfold State.nextAttempt
  split
  · exact h.countRetry.updRsc (h.countRetry.rsc.run _ hj hp)
  · exact h.preempt hj
  · dsimp only
    split
    · exact h.updRsc (h.rsc.run _ hj hp)
    · exact h.countRetry.updRsc (h.countRetry.rsc.run _ hj hp)

theorem slotFailed (h : s.Meets K) {q : IntervalRecord} (n : Nat) (hq : K.counts q.counts)
    (hp : K.preemption → s.rsc.preempted = none) : (s.slotFailed q n).Meets K := by
  unfold State.slotFailed
  refine .ite (fun _ => ?_) fun _ => ?_
  · exact (h.jobEnds.updRsc (f := fun r => { r with recordQueue := q :: r.recordQueue })
      { h.jobEnds.rsc with
        records := fun x hx => (List.mem_cons.1 hx).elim (fun e => e ▸ hq) (h.rsc.records x) }).enterHalted
  · have listed := h.updRsc (f := fun r => { r with map := { r.map with badSlots := r.map.badSlots ++ [n] } })
      { h.rsc with }
    exact (listed.makeRoom.handConfig .patrol).nextAttempt 0 ⟨hq, fun _ => StoreMap.goodFrom_lt _ _⟩
      fun hk => .inr (by simpa using hp hk)

theorem blockFailed (h : s.Meets K) {c : RegContent} (hc : K.residues c.residues)
    (hp : K.preemption → s.rsc.preempted = none) : (s.blockFailed c).Meets K := by
  unfold State.blockFailed
  split
  next => exact h.jobEnds.enterHalted
  next i _ =>
    have moved := h.updRsc (f := fun r => { r with map := r.map.assign i c.account }) { h.rsc with }
    exact (moved.handConfig .patrol).nextAttempt (job := .block c (.spare i)) 0 hc fun hk => .inr (hp hk)

theorem saveWriteFailed (h : s.Meets K) (b : SaveBlock) : (s.saveWriteFailed b).Meets K := by
  unfold State.saveWriteFailed
  have torn := (h.updStore (h.store.tear (.save b))).jobEnds
  have failed := (torn.updRsc (f := fun r => { r with saveFailed := true }) { torn.rsc with }).updStoreCounters
    fun c => { c with saveFailures := countUp c.saveFailures }
  dsimp only
  split
  · exact failed
  · exact failed.saveComplete _ _

theorem writeFailed (h : s.Meets K) {job : Job} (hj : K.job job)
    (hp : K.preemption → job.isSave ∨ s.rsc.preempted = none) : (s.writeFailed job).Meets K := by
  cases job with
  | save b => exact h.saveWriteFailed b
  | block c loc => exact h.blockFailed hj fun hk => (hp hk).resolve_left id
  | record q n => exact h.slotFailed n hj.1 fun hk => (hp hk).resolve_left id
  | config c g => exact h.jobEnds.enterHalted
  | read v b => exact h
  | patrol u b => exact h

/-- While a job that is no save runs, none stands preempted. -/
theorem preempted_none (h : s.Meets K) {job : Job} {n : Nat} (hr : s.rsc.running = some ⟨job, n⟩)
    (hk : K.preemption) : job.isSave ∨ s.rsc.preempted = none := by
  by_cases hp : s.rsc.preempted = none
  · exact .inr hp
  · rcases h.rsc.preempts hk hp with e | ⟨b, m, e⟩
    · exact absurd (hr.symm.trans e) (by simp)
    · have : job = .save b := by simpa using congrArg (Option.map ActiveJob.job) (hr.symm.trans e)
      exact .inl (this ▸ trivial)

theorem execStoreWriteAttemptDone (h : s.Meets K) (result : AttemptResult) :
    Leads (State.Meets K) (execStoreWriteAttemptDone result s) := by
  unfold Machine.execStoreWriteAttemptDone
  split
  next => exact .next h
  next job n hr =>
    have hj : K.active (some ⟨job, n⟩) := hr ▸ h.rsc.running
    refine .ite (fun _ => .next h) fun _ => ?_
    split
    · exact .next (h.verified hj)
    next left =>
      have left' := h.updStore (h.store.leave left hj)
      exact .ite (fun _ => .next (left'.nextAttempt n hj (h.preempted_none hr)))
        fun _ => .next (left'.writeFailed hj (h.preempted_none hr))

/-! ## Reading the log -/

theorem countRecordError (h : s.Meets K) : s.countRecordError.Meets K := h.updStoreCounters _

theorem readRecord (h : s.Meets K) (q : Nat) (agrees : Bool) : (s.readRecord q agrees).2.Meets K := by
  unfold State.readRecord
  split
  next => exact h
  next n r _ =>
    cases agrees with
    | true => exact h
    | false => exact { h with store := h.store.eraseSlot n }

theorem execLogReadJobDone (h : s.Meets K) (firstOk secondOk : Bool) :
    Leads (State.Meets K) (execLogReadJobDone firstOk secondOk s) := by
  unfold Machine.execLogReadJobDone
  split
  next verdict _ _ _ =>
    refine .ite (fun _ => .next h) fun _ => ?_
    have ended := h.jobEnds
    cases verdict with
    | gone => exact .next (ended.refuse _)
    | notFound => exact .next (ended.refuse _)
    | read q second =>
      have first := ended.readRecord q firstOk
      dsimp only
      split
      next u hu => exact .next ((by simpa [hu] using first : u.Meets K).countRecordError.refuse _)
      next r u hu =>
        have read : u.Meets K := by simpa [hu] using first
        split
        · exact .next (read.ack _)
        next q' _ =>
          have next := read.readRecord q' secondOk
          split
          next v hv => exact .next ((by simpa [hv] using next : v.Meets K).ack _)
          next r' v hv => exact .next ((by simpa [hv] using next : v.Meets K).ack _)
  next => exact .next h

/-! ## The patrol -/

theorem execPatrolStepDue (h : s.Meets K) : Leads (State.Meets K) (execPatrolStepDue s) := by
  unfold Machine.execPatrolStepDue
  refine .ite (fun _ => .next h) fun _ => ?_
  exact .next ((h.advance _).updRsc { (h.advance _).rsc with })

theorem spoil (h : s.Meets K) (u : PatrolPos) : (s.spoil u).Meets K := by
  unfold State.spoil
  split
  · exact h.updStore (h.store.setBlock _ (c := none) trivial)
  · exact h.updStore (h.store.decay _)
  · split
    · exact h
    · exact h.updStore (h.store.eraseSlot _)

theorem repair (h : s.Meets K) (u : PatrolPos) : (s.repair u).Meets K := by
  have counted := h.updStoreCounters fun c => { c with repairs := countUp c.repairs }
  unfold State.repair
  split
  next a => exact (counted.queueBlock (h.rsc.images a)).pulse _
  next t => exact (counted.handConfig t).pulse _
  next => exact h.countRecordError

end State.Meets

theorem historyStep_length (mismatch : Bool) {l : List Nat} (h : l.length ≤ 2) : (historyStep mismatch l).length ≤ 2 := by
  cases mismatch with
  | false => simpa [historyStep] using h
  | true => exact List.length_take_le 2 _

namespace State.Meets

variable {K : Standard} {s : State}

theorem stepEnds (h : s.Meets K) (u : PatrolPos) (mismatch : Bool) : (s.stepEnds u mismatch).Meets K :=
  (h.jobEnds.updRsc (f := fun r =>
    { r with
      counters := { r.counters with patrolSteps := countUp r.counters.patrolSteps }
      history := historyStep mismatch r.history
      alert := alertStep mismatch r.history r.alert
      patrolPos := r.positionAfter u })
    { h.jobEnds.rsc with history := fun hc => historyStep_length mismatch (h.rsc.history hc) }).giveStoreAlert

theorem execPatrolReadDone (h : s.Meets K) (agrees : Bool) :
    Leads (State.Meets K) (execPatrolReadDone agrees s) := by
  unfold Machine.execPatrolReadDone
  split
  next u second n hr =>
    have alone := fun hk => (h.preempted_none hr hk).resolve_left id
    exact .ite (fun _ => .next h) fun _ => .ite
      (fun _ => .ite (fun _ => .next ((h.updStoreCounters _).stepEnds u false)) fun _ => .next (h.stepEnds u false))
      fun _ => .ite (fun _ => .next (((h.spoil u).stepEnds u true).repair u))
        fun _ => .ite (fun _ => .next (h.preempt (j := ⟨.patrol u true, n⟩) trivial))
          fun _ => .next (h.updRsc (h.rsc.run (job := .patrol u true) n trivial fun hk => .inr (alone hk)))
  next => exact .next h

end State.Meets

end Sys2Proof.Machine
end

section
/-! The acquisition links, the points, the topology, the windows and the change queue meet a standard after each
of their operations (chapters 1 to 6 and 8). -/

namespace Sys2Proof.Machine

/-! ## Links -/

namespace State.Meets

variable {K : Standard} {s : State}

theorem leaveUp (h : s.Meets K) (l : LinkId) : (s.leaveUp l).Meets K :=
  .ite (fun _ => ((h.updLink l _).updWa _).pulse _) fun _ => h

theorem enterOffering (h : s.Meets K) (l : LinkId) (cause : Option OfferContent) :
    (s.enterOffering l cause).Meets K :=
  { h with }

theorem toOffering (h : s.Meets K) (l : LinkId) (cause : Option OfferContent) : (s.toOffering l cause).Meets K :=
  (h.leaveUp l).enterOffering l cause

theorem enterDisabled (h : s.Meets K) (l : LinkId) : (s.enterDisabled l).Meets K := (h.leaveUp l).updLink l _

theorem enterBreaking (h : s.Meets K) (l : LinkId) : (s.enterBreaking l).Meets K := (h.leaveUp l).updLink l _

theorem enterAcknowledging (h : s.Meets K) (l : LinkId) (c : AcceptContent) : (s.enterAcknowledging l c).Meets K :=
  h.updLink l _

theorem enterUp (h : s.Meets K) (l : LinkId) (fixed : Bool) (c : AcceptContent) (offset : Seq) :
    (s.enterUp l fixed c offset).Meets K :=
  (h.updLink l _).pulse _

theorem badFrame (h : s.Meets K) (count : LinkCounters → LinkCounters) (l : LinkId) : (s.badFrame count l).Meets K :=
  h.updLink l _

theorem goodFrame (h : s.Meets K) (l : LinkId) : (s.goodFrame l).Meets K := h.updLink l _

theorem resolveOffer (h : s.Meets K) (l : LinkId) (c : OfferContent) : (s.resolveOffer l c).Meets K := by
  unfold State.resolveOffer
  split
  · exact .ite (fun _ => h.enterAcknowledging l _) fun _ => (h.updLink l _).pulse _
  · exact (h.updLink l _).pulse _

theorem offerInOffering (h : s.Meets K) (l : LinkId) (c : OfferContent) : (s.offerInOffering l c).Meets K :=
  .ite (fun _ => h.updLink l _) fun _ => .ite (fun _ => (h.updLink l _).resolveOffer l c) fun _ => h.updLink l _

theorem execOfferFrame (h : s.Meets K) (l : LinkId) (c : OfferContent) :
    Leads (State.Meets K) (execOfferFrame l c s) := by
  unfold Machine.execOfferFrame
  have good := h.goodFrame l
  refine .ite (fun _ => .next h) fun _ => .ite (fun _ => .next (h.badFrame _ l)) fun _ => ?_
  dsimp only
  split
  · exact .next (good.offerInOffering l c)
  · exact .ite (fun _ => .next good) fun _ => .next (good.toOffering l _)
  · exact .next (good.toOffering l _)
  · exact .next good

theorem acceptInAcknowledging (h : s.Meets K) (l : LinkId) (c : AcceptContent) :
    (s.acceptInAcknowledging l c).Meets K :=
  .ite (fun _ => .ite (fun _ => h.updLink l _) fun _ => ((h.updLink l _).enterUp l _ c _).updLink l _)
    fun _ => h.toOffering l _

theorem acceptInUp (h : s.Meets K) (l : LinkId) (fixed : Bool) (c : AcceptContent) :
    (s.acceptInUp l fixed c).Meets K :=
  .ite (fun _ => h.toOffering l _) fun _ => .ite (fun _ => h) fun _ => h.updLink l _

theorem execAcceptFrame (h : s.Meets K) (l : LinkId) (c : AcceptContent) :
    Leads (State.Meets K) (execAcceptFrame l c s) := by
  unfold Machine.execAcceptFrame
  have good := h.goodFrame l
  refine .ite (fun _ => .next h) fun _ => .ite (fun _ => .next (h.badFrame _ l)) fun _ => ?_
  dsimp only
  split
  · exact .next (good.acceptInAcknowledging l c)
  · exact .next (good.acceptInUp l _ c)
  · exact .next good

theorem bufferFrame (h : s.Meets K) (l : LinkId) (seq : Seq) (f : WindowFrame) : (s.bufferFrame l seq f).Meets K :=
  { h with }

theorem windowArrives (h : s.Meets K) (l : LinkId) (f : WindowFrame) : (s.windowArrives l f).Meets K :=
  .ite (fun _ => .ite (fun _ => h.updCounters l _) fun _ => h.bufferFrame l _ f)
    fun _ => .ite (fun _ => (h.pulse _).enterBreaking l) fun _ => h.updCounters l _

theorem windowInOffering (h : s.Meets K) (l : LinkId) (f : WindowFrame) : (s.windowInOffering l f).Meets K :=
  .ite (fun _ => h) fun _ => .ite (fun _ => h.updLink l _) fun _ =>
    .ite (fun _ => h.updLink l _) fun _ => ((h.updLink l _).enterUp l _ _ _).windowArrives l f

theorem execWindowFrame (h : s.Meets K) (l : LinkId) (f : WindowFrame) :
    Leads (State.Meets K) (execWindowFrame l f s) := by
  unfold Machine.execWindowFrame
  have good := h.goodFrame l
  refine .ite (fun _ => .next h) fun _ => .ite (fun _ => .next (h.badFrame _ l)) fun _ => ?_
  split
  · exact .next (good.windowInOffering l f)
  · exact .ite (fun _ => .next ((good.updLink l _).windowArrives l f)) fun _ => .next (h.badFrame _ l)
  · exact .next good

theorem execInvalidFrame (h : s.Meets K) (l : LinkId) : Leads (State.Meets K) (execInvalidFrame l s) :=
  .ite (fun _ => .next (h.badFrame _ l)) fun _ => .next h

theorem execDamagedWindow (h : s.Meets K) (l : LinkId) (seq : Seq) :
    Leads (State.Meets K) (execDamagedWindow l seq s) :=
  .ite (fun _ => .next h) fun _ => .ite (fun _ => .next (h.badFrame _ l)) fun _ =>
    .ite (fun _ => .next ((h.updCounters l _).updLink l _)) fun _ => .next (h.updCounters l _)

theorem execJabberCut (h : s.Meets K) (l : LinkId) : Leads (State.Meets K) (execJabberCut l s) :=
  .ite (fun _ => .next h) fun _ => .next (((h.badFrame _ l).updLink l _).pulse _)

theorem execJabberIdleEnd (h : s.Meets K) (l : LinkId) : Leads (State.Meets K) (execJabberIdleEnd l s) := by
  unfold Machine.execJabberIdleEnd
  split
  · exact .next h
  · exact .ite (fun _ => .next ((h.advance _).updLink l _)) fun _ => .next h

theorem execOfferSendPeriod (h : s.Meets K) (l : LinkId) : Leads (State.Meets K) (execOfferSendPeriod l s) :=
  .ite (fun _ => .next ((h.advance _).updLink l _)) fun _ => .next h

theorem execAcceptSendPeriod (h : s.Meets K) (l : LinkId) : Leads (State.Meets K) (execAcceptSendPeriod l s) := by
  unfold Machine.execAcceptSendPeriod
  split
  · exact .ite (fun _ => .next ((h.advance _).updLink l _)) fun _ => .next h
  · exact .next h

theorem execLinkFrameSend (h : s.Meets K) (l : LinkId) : Leads (State.Meets K) (execLinkFrameSend l s) := by
  unfold Machine.execLinkFrameSend
  refine .ite (fun _ => .next h) fun _ => ?_
  split
  · exact .next h
  · dsimp only
    split
    · exact .next ((h.updLink l _).updCounters l _)
    · exact .next (h.updLink l _)

theorem execSilenceTimerExpiry (h : s.Meets K) (l : LinkId) :
    Leads (State.Meets K) (execSilenceTimerExpiry l s) := by
  unfold Machine.execSilenceTimerExpiry
  split
  · exact .next h
  · exact .ite (fun _ => .next ((h.advance _).toOffering l _)) fun _ => .next h

theorem execBreakHoldExpiry (h : s.Meets K) (l : LinkId) : Leads (State.Meets K) (execBreakHoldExpiry l s) := by
  unfold Machine.execBreakHoldExpiry
  split
  · exact .next h
  · exact .ite (fun _ => .next ((h.advance _).enterOffering l _)) fun _ => .next h

theorem execAssemblyDeadlineExpiry (h : s.Meets K) (seq : Seq) :
    Leads (State.Meets K) (execAssemblyDeadlineExpiry seq s) := by
  unfold Machine.execAssemblyDeadlineExpiry
  split
  · exact .next h
  · exact .ite (fun _ => .next (h.advance _)) fun _ => .next h

/-! ## Points and topology -/

theorem storePoints (h : s.Meets K) (stored : Vector PointStored 16) : (s.storePoints stored).Meets K :=
  .ite (fun _ => h) fun _ => (h.updCm (f := fun c => { c with stored := stored }) h.cm).handConfig _

theorem storeMode (h : s.Meets K) (p : PointId) : (s.storeMode p).Meets K := h.storePoints _

theorem enterShadow (h : s.Meets K) (p : PointId) : (s.enterShadow p).Meets K := (h.updPoint p _).givePointLevels

theorem toDirect (h : s.Meets K) (p : PointId) : (s.toDirect p).Meets K :=
  ((h.updPoint p _).storeMode p).givePointLevels

theorem adjustPoint (h : s.Meets K) (p : PointId) (old new : PointEntry) : (s.adjustPoint p old new).Meets K := by
  unfold State.adjustPoint
  have forgotten : (if old.phases = new.phases then s else (s.updPoint p Point.forget).givePointLevels).Meets K :=
    .ite (fun _ => h) fun _ => (h.updPoint p _).givePointLevels
  refine .ite (fun _ => forgotten) fun _ => ?_
  split
  · exact forgotten.toDirect p
  · exact .ite (fun _ => forgotten.toDirect p) fun _ => forgotten
  · exact forgotten

/-- The point stage's own state is not asked about. -/
theorem withPoints (h : s.Meets K) (x : Vector Point 16) : ({ s with points := x } : State).Meets K := { h with }

theorem healthChanged (h : s.Meets K) : s.healthChanged.Meets K :=
  ((h.withPoints _).storePoints _).givePointLevels

theorem settlePoints (h : s.Meets K) (w : Window) (ds : Vector Direct 16) : (s.settlePoints w ds).Meets K := by
  unfold State.settlePoints
  dsimp only
  refine State.Meets.givePointLevels (.storePoints (.withPoints ?_ _) _)
  exact .ite (fun _ => h.pulse _) fun _ => h

theorem resolveTopology (h : s.Meets K) (w : Window) : (s.resolveTopology w).Meets K := by
  unfold State.resolveTopology
  have resolved : ({ s with tr := s.tr.resolve s.cm.tables w } : State).Meets K := { h with }
  exact State.Meets.giveBreakerUnknown (.level (.ite (fun _ => resolved.pulse _) fun _ => resolved) _ _)

theorem breakersChanged (h : s.Meets K) (old : BreakersTable) : (s.breakersChanged old).Meets K :=
  State.Meets.giveBreakerUnknown { h with }

/-! ## Windows -/

theorem reportTake (h : s.Meets K) (seq : Seq) (l : LinkId) : (s.reportTake seq l).Meets K :=
  .ite (fun _ => .ite (fun _ => ((h.updLink l _).pulse _).enterBreaking l) fun _ => h.updLink l _) fun _ => h

theorem reportTakes (h : s.Meets K) (seq : Seq) (ls : List LinkId) : (s.reportTakes seq ls).Meets K := by
  induction ls generalizing s with
  | nil => exact h
  | cons l rest ih => exact ih (h.reportTake seq l)

theorem process (h : s.Meets K) (w : Window) : (s.process w).Meets K := by
  unfold State.process
  refine updWa (settlePoints ?_ w _) _
  exact { h.resolveTopology w with }

end State.Meets

/-- The energy of a window leaves the counts alone. -/
@[simp] theorem applyAll_counts (d : Nat) (l : List (Fin 24 × Nat)) (x : Interval × Vector Nat 24) :
    (applyAll d l x).1.counts = x.1.counts := by
  induction l generalizing x with
  | nil => rfl
  | cons c rest ih => exact (ih _).trans rfl

theorem Standard.account_applyWindow {K : Standard} {acc : Account} (h : K.account acc)
    (bands : Vector (Option Band) 8) (d : Nat) (m : MapId) (r : AccountWindow) :
    K.account (acc.applyWindow bands d m r) := by
  unfold Account.applyWindow
  split
  next => exact h
  next iv hiv =>
    have counts : K.interval (some iv) := hiv ▸ h.2
    refine ⟨K.residues_apply _ _ _ h.1, ?_⟩
    show K.counts (applyAll _ _ _).1.counts
    rw [applyAll_counts]
    unfold Interval.count
    split
    next => exact counts
    next below => exact K.counts_count _ _ (Nat.lt_of_not_le below) counts

namespace State.Meets

variable {K : Standard} {s : State}

theorem applyResults (h : s.Meets K) (p : Processing) : (s.applyResults p).Meets K := by
  unfold State.applyResults
  split
  · exact h
  · refine .ite (fun _ => { h with ia := ?_ }) fun _ => h
    exact Vector.forall_ofFn (P := K.account) fun a => Standard.account_applyWindow (h.ia a) _ _ _ _

theorem applyProcessing (h : s.Meets K) : s.applyProcessing.Meets K := by
  unfold State.applyProcessing
  split
  · exact h
  · exact .ite (fun _ => (h.applyResults _).updWa _) fun _ => h

theorem execTakeWindow (h : s.Meets K) (applied : Bool) : Leads (State.Meets K) (execTakeWindow applied s) := by
  unfold Machine.execTakeWindow
  have taken := (h.updWa Assembler.take).reportTakes s.wa.windowAt.seq (List.finRange 4)
  have processed := taken.process s.wa.windowAt
  dsimp only
  refine Leads.ite (fun _ => .next h) fun _ => Leads.ite (fun _ => .next taken) fun _ => ?_
  exact .next (.ite (fun _ => processed.applyProcessing) fun _ => processed)

/-! ## The change queue -/

theorem linksChanged (h : s.Meets K) (l : LinkId) (old new : LinkEntry) : (s.linksChanged l old new).Meets K := by
  unfold State.linksChanged
  refine .ite (fun _ => .ite (fun _ => h.enterDisabled l) fun _ => h) fun _ =>
    .ite (fun _ => h.enterOffering l _) fun _ => ?_
  split
  · exact h
  · exact h
  · exact h.toOffering l _

theorem adjust (h : s.Meets K) (old : Tables) (p : TablePart) : (s.adjust old p).Meets K := by
  unfold State.adjust
  split
  · exact h.linksChanged _ _ _
  · exact h.adjustPoint _ _ _
  · exact h.breakersChanged _
  · exact h.breakersChanged _
  · exact .ite (fun _ => h) fun _ => h.freshBoundary
  · exact h.healthChanged
  next n =>
    refine h.withCu fun hc => ?_
    unfold ConditionUnit.noticeChanged
    split
    · exact ConditionUnit.clearWhere_rises_le _ _ (h.cu hc)
    · exact h.cu hc
  · exact h

theorem applyTable (h : s.Meets K) (p : TablePart) : (s.applyTable p).Meets K := by
  unfold State.applyTable
  have closed := h.closeList .config s.closeTime .atCount (s.cm.closes (.table p))
  have adjusted := (closed.updCm (f := fun m => { m with tables := s.cm.tables.put p }) closed.cm).adjust s.cm.tables p
  exact .ite (fun _ => h) fun _ =>
    (adjusted.updCm (f := fun m => { m with generation := countUp m.generation }) adjusted.cm).handConfig _

theorem setMode (h : s.Meets K) (m : DeviceMode) : (s.setMode m).Meets K :=
  (h.updCm (f := fun c => { c with mode := m }) h.cm).handConfig _

theorem applyMode (h : s.Meets K) (target : DeviceMode) : (s.applyMode target).Meets K := by
  unfold State.applyMode
  refine .ite (fun _ => h) fun _ => ?_
  cases target with
  | metering => exact (h.setMode _).openAll _
  | commissioning => exact (h.closeAll _ _ _).setMode _

theorem applyPreset (h : s.Meets K) (a : AccountId) (values : Vector Nat 25) : (s.applyPreset a values).Meets K :=
  (h.closeList _ _ _ _).presetAccount a values

theorem applyErase (h : s.Meets K) : s.applyErase.Meets K := by
  have erased := h.eraseAccounts
  have emptied := (erased.updRsc (f := (·.eraseLog s.eraseAccounts.ia.nextSeq)) { erased.rsc with }).queueSave .running
  have saved := emptied.handConfig .patrol
  exact (saved.updCm (f := fun m => { m with mode := .commissioning, locked := false }) saved.cm).handConfig _

theorem applyChange (h : s.Meets K) (c : Change) : (s.applyChange c).Meets K := by
  cases c with
  | table p => exact h.applyTable p
  | preset a values => exact h.applyPreset a values
  | mode target => exact h.applyMode target
  | erase => exact h.applyErase

theorem stopWalk (h : s.Meets K) (e : ChangeEntry) (reason : StopReason) : (s.stopWalk e reason).Meets K :=
  h.updCm h.cm

theorem walkOn (h : s.Meets K) {rest : List ChangeEntry} (fits : K.caps → rest.length ≤ 8) :
    (s.walkOn rest).Meets K := by
  unfold State.walkOn
  split
  · exact h.updCm fun _ => Nat.zero_le _
  · exact h.updCm fits

theorem walk (h : s.Meets K) : s.walk.Meets K := by
  unfold State.walk
  split
  next => exact h.walkOn fun _ => Nat.zero_le _
  next e rest hq =>
    have fits : K.caps → rest.length ≤ 8 := fun hc => Nat.le_of_succ_le (by simpa [hq] using h.cm hc)
    split
    · exact h.stopWalk e _
    · exact h.enterHalted.stopWalk e _
    · exact ((h.updCm (f := fun m =>
        { m with lastDiscarded := some e.number, discards := countUp m.discards }) h.cm).pulse _).walkOn fits
    · exact ((h.updCm (f := fun m => { m with lastApplied := some e.number }) h.cm).applyChange _).walkOn fits

theorem execWindowBoundary (h : s.Meets K) : Leads (State.Meets K) (execWindowBoundary s) :=
  .ite (fun _ => .next ((h.applyProcessing.updWa _).walk)) fun _ => .ite (fun _ => .next h.walk) fun _ => .next h

end State.Meets

end Sys2Proof.Machine
end

section
/-! Start-up, the supply, the message link and the requests meet a standard (chapters 7 to 11), and so does every
step; the step invariants follow. -/

namespace Sys2Proof.Machine

/-! ## The load -/

theorem Manager.load_queue (c : ConfigContent) (m : Manager) : (m.load c).queue = m.queue := by
  cases c <;> rfl

/-- After the load the change queue is empty (R152). -/
@[simp] theorem Store.loadManager_queue (st : Store) : st.loadManager.queue = [] := by
  have folded : ∀ (l : List ConfigBlock) (m : Manager), m.queue = [] →
      (l.foldl (fun m b => m.load b.content) m).queue = [] := by
    intro l
    induction l with
    | nil => exact fun m h => h
    | cons b rest ih => exact fun m h => ih _ ((Manager.load_queue _ _).trans h)
  exact folded _ _ rfl

theorem mem_insertRecord {r x : IntervalRecord} {l : List IntervalRecord} (h : x ∈ insertRecord r l) :
    x = r ∨ x ∈ l := by
  induction l with
  | nil => simpa [insertRecord] using h
  | cons q rest ih =>
    unfold insertRecord at h
    split at h
    · exact List.mem_cons.1 h
    · rcases List.mem_cons.1 h with rfl | h
      · exact .inr List.mem_cons_self
      · exact (ih h).imp_right (List.mem_cons_of_mem _)

/-- The pending records are records of the save. -/
theorem mem_pendingRecords {saved : Option SavedState} {n : Nat} {x : IntervalRecord}
    (h : x ∈ pendingRecords saved n) : ∃ c, saved = some c ∧ x ∈ c.records := by
  cases saved with
  | none => exact absurd h List.not_mem_nil
  | some c =>
    refine ⟨c, rfl, ?_⟩
    have folded : ∀ l : List IntervalRecord, x ∈ l.foldr insertRecord [] → x ∈ l := by
      intro l
      induction l with
      | nil => exact id
      | cons q rest ih =>
        exact fun hx => (mem_insertRecord hx).elim (fun e => e ▸ List.mem_cons_self)
          fun hx => List.mem_cons_of_mem _ (ih hx)
    exact (List.mem_filter.1 (folded _ h)).1

theorem saved_of_saved? {b : Option SaveBlock} {c : SavedState} (h : SaveBlock.saved? b = some c) :
    b = some (.saved c) := by
  unfold SaveBlock.saved? at h
  split at h
  · rw [Option.some.inj h]
  · cases h

namespace Standard

variable {K : Standard} {st : Store}

theorem store.saved (h : K.store st) {c : SavedState} (hc : SaveBlock.saved? st.save = some c) : K.save (.saved c) :=
  h.save _ (saved_of_saved? hc)

theorem store.atBlock (h : K.store st) (loc : BlockLoc) : K.block (st.block loc) := by
  cases loc with
  | register n => exact h.registers n
  | spare n => exact h.spares n

/-- What the load finds for an account has residues from the save or the store, or 0 (R147). -/
theorem store.loadAccount (h : K.store st) (map : StoreMap) (log : Option FoundLog) (a : AccountId) :
    K.residues (st.loadAccount map log (SaveBlock.saved? st.save) a).1.residues := by
  unfold Store.loadAccount
  dsimp only
  split
  next c hc => exact ((h.saved hc).1 a).1
  next =>
    split
    next b hb =>
      have found : K.block (some b) := hb ▸ h.atBlock _
      exact found
    next =>
      split
      · exact K.residues_zero
      · exact K.residues_zero

theorem store.decayed (h : K.store st) (us : List StoreUnit) : K.store (us.foldl Store.decay st) := by
  induction us generalizing st with
  | nil => exact h
  | cons u rest ih => exact ih (h.decay u)

end Standard

namespace State.Meets

variable {K : Standard} {s : State}

/-- With all working state discarded only the store is asked about, and HALTED is left. -/
theorem cleared (h : K.store s.store) (left : ¬ K.halted) : s.cleared.Meets K where
  cu := fun _ => Vector.forall_replicate (P := (· ≤ 255)) (by decide)
  ia := Vector.forall_replicate (P := K.account) ⟨K.residues_zero, trivial⟩
  store := h
  rsc :=
    { history := fun _ => Nat.zero_le _
      preempts := fun _ x => absurd rfl x
      halted := fun hk => absurd hk left
      images := Vector.forall_ofFn (P := fun c : RegContent => K.residues c.residues) fun _ => K.residues_zero
      blocks := fun _ hx => absurd hx List.not_mem_nil
      records := fun _ hx => absurd hx List.not_mem_nil
      running := trivial
      preempted := trivial }
  cm := fun _ => Nat.zero_le _
  mlc := fun _ => Nat.zero_le _

theorem writeDefaults (h : s.Meets K) (ts : List TableId) : (s.writeDefaults ts).Meets K := by
  induction ts generalizing s with
  | nil => exact h
  | cons t rest ih => exact ih ((h.handConfig t).pulse _)

theorem loadConfig (h : s.Meets K) : s.loadConfig.Meets K := by
  unfold State.loadConfig
  refine State.Meets.writeDefaults ?_ _
  exact { h with
    rsc := { h.rsc with }
    cm := fun _ => by simp }

theorem writeBlocks (h : s.Meets K) {l : List RegContent} (hl : ∀ c ∈ l, K.residues c.residues) :
    (s.writeBlocks l).Meets K := by
  induction l generalizing s with
  | nil => exact h
  | cons c rest ih =>
    exact ih ((h.queueBlock (hl c List.mem_cons_self)).pulse _) fun x hx => hl x (List.mem_cons_of_mem _ hx)

theorem endLoad (h : s.Meets K) (saved : Bool) (blocks : List AccountId) (records : List Nat) :
    (s.endLoad saved blocks records).Meets K :=
  .ite (fun _ => h.updRsc { h.rsc with }) fun _ => h.queueSave _

theorem loadAccounts (h : s.Meets K) : s.loadAccounts.Meets K := by
  unfold State.loadAccounts
  have found (a : AccountId) := h.store.loadAccount s.rsc.map (s.store.findLog s.rsc.map) a
  refine State.Meets.endLoad (.writeBlocks ?_ ?_) _ _ _
  · exact { h with
      ia := Vector.forall_ofFn (P := K.account) fun a => ⟨by simpa [Account.idle] using found a, trivial⟩
      rsc := { h.rsc with
        images := Vector.forall_ofFn (P := fun c : RegContent => K.residues c.residues) fun a => by
          simpa using found a
        records := fun q hq => by
          obtain ⟨c, hc, hm⟩ := mem_pendingRecords hq
          exact (h.store.saved hc).2 q hm } }
  · intro c hc
    obtain ⟨x, hx, rfl⟩ := List.mem_map.1 hc
    obtain ⟨i, hi, rfl⟩ := List.mem_iff_getElem.1 (List.mem_filter.1 hx).1
    simpa using found ⟨i, by simpa using hi⟩

/-! ## The start-up sequence -/

theorem settleManager (h : s.Meets K) (saved : Option SavedState) : (s.settleManager saved).Meets K := by
  unfold State.settleManager
  have told : (if s.stale saved then s.pulse .changeRejected else s).Meets K :=
    .ite (fun _ => h.pulse _) fun _ => h
  exact .ite (fun _ => told) fun _ => (told.updCm (f := fun m => { m with
    mode := (State.settled saved (if s.stale saved then s.pulse .changeRejected else s)).1
    locked := (State.settled saved (if s.stale saved then s.pulse .changeRejected else s)).2 }) told.cm).handConfig _

theorem takeSaved (h : s.Meets K) {c : SavedState} (hc : K.save (.saved c)) :
    (s.updIa (·.takeSaved c)).Meets K :=
  h.updIa (Vector.forall_ofFn (P := K.account) fun a =>
    ⟨(h.ia a).1, Standard.interval_map (f := fun iv => { iv with outage := true }) (fun _ => rfl) (hc.1 a).2⟩)

theorem resumeSaved (h : s.Meets K) {c : SavedState} (hc : K.save (.saved c)) (outcome : Option SavedOutcome) :
    (s.resumeSaved c outcome).Meets K := by
  have taken := h.takeSaved hc
  unfold State.resumeSaved
  dsimp only
  split
  · exact h
  · exact { taken with ia := taken.ia }
  · exact .ite (fun _ => taken) fun _ => taken.raiseEvent _
  · exact .ite (fun _ => taken) fun _ => taken.raiseEvent _

theorem loadStep (h : s.Meets K) (kind : ResetKind) : (s.loadStep kind).Meets K := by
  unfold State.loadStep
  dsimp only
  have settled := h.loadAccounts.settleManager (SaveBlock.saved? s.store.save)
  cases hc : SaveBlock.saved? s.store.save with
  | none =>
    rw [hc] at settled
    exact .ite (fun _ => (settled.updSm _).pfwAsserted) fun _ => settled.updSm _
  | some c =>
    rw [hc] at settled
    have resumed := settled.resumeSaved (h.store.saved hc)
    exact .ite (fun _ => ((resumed _).updSm _).pfwAsserted) fun _ => (resumed _).updSm _

theorem startLinks (h : s.Meets K) (ls : List LinkId) : (s.startLinks ls).Meets K := by
  induction ls generalizing s with
  | nil => exact h
  | cons l rest ih => exact ih (.ite (fun _ => h.enterOffering l _) fun _ => h)

theorem enterMode (h : s.Meets K) : s.enterMode.Meets K := by
  unfold State.enterMode
  have opened : (if s.cm.mode = .metering then s.openAll s.idleAccounts else s).Meets K :=
    .ite (fun _ => h.openAll _) fun _ => h
  exact .ite (fun _ => opened) fun _ => opened.freshBoundary

theorem startLevels (h : s.Meets K) : s.startLevels.Meets K :=
  h.giveRegisterFlag.givePointLevels.giveBreakerUnknown.giveTimeInvalid

theorem startUp (h : K.store s.store) (left : ¬ K.halted) (kind : ResetKind) (decayed : List StoreUnit) :
    (s.startUp kind decayed).Meets K := by
  have discarded : (s.updStore fun st => decayed.foldl Store.decay st).cleared.Meets K :=
    .cleared (h.decayed decayed) left
  exact ((discarded.loadConfig.loadStep kind).startLinks _).enterMode.startLevels

theorem execPowerOnReset (h : s.Meets K) (left : ¬ K.halted) (straps : Straps) (u : UnitLeft)
    (decayed : List StoreUnit) : Leads (State.Meets K) (execPowerOnReset straps u decayed s) :=
  .next (startUp (s := { s.interrupt u with powered := true, straps := straps, tk := (s.interrupt u).tk.powerOn })
    (h.interrupt u).store left _ _)

theorem execPinReset (h : s.Meets K) (left : ¬ K.halted) (straps : Straps) (u : UnitLeft)
    (decayed : List StoreUnit) : Leads (State.Meets K) (execPinReset straps u decayed s) :=
  .ite (fun _ => .next h) fun _ => .next (startUp (s := { s.interrupt u with straps := straps })
    (h.interrupt u).store left _ _)

theorem writeClean (h : s.Meets K) (marker : AttemptResult) : (s.writeClean marker).Meets K := by
  unfold State.writeClean
  have content := h.saveContent ⟨h.rsc.running, h.rsc.preempted⟩ .clean
  refine .ite (fun _ => ?_) fun _ => h
  dsimp only
  split
  · exact h.updStore (h.store.put (job := .save _) content)
  · exact h.updStore (h.store.tear _)

theorem execSoftResetProceed (h : s.Meets K) (left : ¬ K.halted) (marker : AttemptResult)
    (decayed : List StoreUnit) : Leads (State.Meets K) (execSoftResetProceed marker decayed s) := by
  have sent := h.advance (s.sendTime s.mlc.replies)
  have written : (if (s.advance (s.sendTime s.mlc.replies)).rsc.halted then
      (s.advance (s.sendTime s.mlc.replies)).interrupt (leftBy marker)
    else (s.advance (s.sendTime s.mlc.replies)).writeClean marker).Meets K :=
    .ite (fun _ => sent.interrupt _) fun _ => sent.writeClean marker
  exact .ite (fun _ => .next h) fun _ => .next (.startUp written.store left _ _)

theorem execLossOfSupply (h : s.Meets K) (left : ¬ K.halted) (u : UnitLeft) :
    Leads (State.Meets K) (execLossOfSupply u s) :=
  .ite (fun _ => .next h) fun _ => .next { State.Meets.cleared (h.interrupt u).store left with }

/-! ## Time and supply -/

theorem execOscillatorStop (h : s.Meets K) : Leads (State.Meets K) (execOscillatorStop s) :=
  .ite (fun _ => .next h) fun _ => .next { h with }

theorem execTkSecondsWrap (h : s.Meets K) : Leads (State.Meets K) (execTkSecondsWrap s) := .next (h.advance _)

theorem execIntervalBoundary (h : s.Meets K) : Leads (State.Meets K) (execIntervalBoundary s) := by
  unfold Machine.execIntervalBoundary
  split
  · exact .next h
  · exact .ite (fun _ => .next h) fun _ => .next ((h.advance _).boundaryFalls _)

theorem execCloseEventBegin (h : s.Meets K) : Leads (State.Meets K) (execCloseEventBegin s) :=
  .ite (fun _ => .next h.beginWaiting) fun _ => .next h

theorem execPfwAssert (h : s.Meets K) : Leads (State.Meets K) (execPfwAssert s) := by
  have driven : ({ s with pfw := true } : State).Meets K := { h with }
  exact .ite (fun _ => .next driven.pfwAsserted) fun _ => .next driven

theorem execPfwDeassert (h : s.Meets K) : Leads (State.Meets K) (execPfwDeassert s) := by
  have released : ({ s with pfw := false } : State).Meets K := { h with }
  exact .ite (fun _ => .next released.pfwDeasserted) fun _ => .next released

end State.Meets

/-! ## The receiver -/

namespace MsgController

variable {m : MsgController}

/-- A frame joins only while a place is free (R193). -/
theorem join_buffer_le (f : MsgFrame) (h : m.buffer.length ≤ 2) : (m.join f).buffer.length ≤ 2 := by
  unfold join
  split
  next free => simpa [Config.bufferPlaces] using free
  next => exact h

theorem judge_buffer_le (own address kind tag : Byte) (payload : List Byte) (h : m.buffer.length ≤ 2) :
    (m.judge own address kind tag payload).buffer.length ≤ 2 := by
  unfold judge
  split
  · exact join_buffer_le _ h
  · split
    · split
      · exact join_buffer_le _ h
      · exact h
    · exact h

theorem check_buffer_le (own : Byte) (bytes : List Byte) (h : m.buffer.length ≤ 2) :
    (m.check own bytes).buffer.length ≤ 2 := by
  unfold check
  dsimp only
  split
  · split
    · exact judge_buffer_le _ _ _ _ _ h
    · exact h
  · exact h

theorem byte_buffer_le (own : Byte) (b : Byte) (h : m.buffer.length ≤ 2) : (m.byte own b).buffer.length ≤ 2 := by
  unfold byte
  dsimp only
  split
  · split <;> exact h
  · unfold frameByte
    dsimp only
    split
    · exact h
    · split
      · exact h
      · split
        · exact h
        · exact check_buffer_le _ _ h

@[simp] theorem gapCheck_buffer (m : MsgController) : m.gapCheck.buffer = m.buffer := by
  unfold gapCheck
  split <;> rfl

theorem bytes_buffer_le (own : Byte) (bytes : List Byte) (h : m.buffer.length ≤ 2) :
    (bytes.foldl (MsgController.byte own) m).buffer.length ≤ 2 := by
  induction bytes generalizing m with
  | nil => exact h
  | cons b rest ih => exact ih (byte_buffer_le own b h)

end MsgController

namespace State.Meets

variable {K : Standard} {s : State}

theorem receive (h : s.Meets K) (bytes : List Byte) : (s.receive bytes).Meets K :=
  h.updMlc fun hc => MsgController.bytes_buffer_le _ _ (by simpa using h.mlc hc)

theorem execMessageFrameReceived (h : s.Meets K) (bytes : List Byte) :
    Leads (State.Meets K) (execMessageFrameReceived bytes s) :=
  .ite (fun _ => .next (h.receive _)) fun _ => .next h

theorem execStrayByte (h : s.Meets K) (b : Byte) : Leads (State.Meets K) (execStrayByte b s) :=
  .ite (fun _ => .next (h.receive _)) fun _ => .next h

theorem execFramingError (h : s.Meets K) : Leads (State.Meets K) (execFramingError s) :=
  .ite (fun _ => .next h) fun _ => .next (h.updMlc fun hc => by simpa using h.mlc hc)

theorem execByteGapExpiry (h : s.Meets K) : Leads (State.Meets K) (execByteGapExpiry s) :=
  .ite (fun _ => .next ((h.advance _).updMlc (f := MsgController.abandon) (h.advance _).mlc)) fun _ => .next h

theorem execNoticeTransmit (h : s.Meets K) : Leads (State.Meets K) (execNoticeTransmit s) := by
  have quiet : ({ s.advance s.txTime with
      cu := { (s.advance s.txTime).cu with noticePending := false } } : State).Meets K :=
    { h.advance s.txTime with cu := (h.advance s.txTime).cu }
  exact .ite (fun _ => .next (quiet.transmit _)) fun _ => .next h

/-! ## Requests -/

/-- A request keeps a standard if its effect does. -/
theorem serve (h : s.Meets K) (k : RequestKind) {act : List Byte → State → State}
    (ha : ∀ p, (act p s).Meets K) : Leads (State.Meets K) (s.serve k act) := by
  unfold State.serve
  refine .ite (fun _ => .next h) fun _ => ?_
  split
  · exact .next h
  · exact .ite (fun _ => .next h) fun _ => .ite (fun _ => .next (h.refuse _)) fun _ =>
      .ite (fun _ => .next (h.refuse _)) fun _ => .next (ha _)

theorem answerStatus (h : s.Meets K) : s.answerStatus.Meets K := by
  unfold State.answerStatus
  refine (h.withCu fun hc => ?_).ack _
  unfold ConditionUnit.statusFormed
  dsimp only
  split
  · exact ConditionUnit.clearWhere_rises_le _ _ (h.cu hc)
  · exact h.cu hc

theorem answerClear (h : s.Meets K) (named : Nat) : (s.answerClear named).Meets K := by
  unfold State.answerClear
  split
  · exact h.refuse _
  · exact (h.withCu (x := s.cu.clearNamed s.cm.tables.notice.masked named) fun hc =>
      ConditionUnit.clearWhere_rises_le _ _ (h.cu hc)).ack _

theorem setTime (h : s.Meets K) (seconds millis : Nat) : (s.setTime seconds millis).Meets K :=
  State.Meets.giveTimeInvalid { h with }

theorem finishTimeSet (h : s.Meets K) : s.finishTimeSet.Meets K := .ite (fun _ => h.waitFor _) fun _ => h.ack _

theorem takeSmallStep (h : s.Meets K) (seconds millis : Nat) : (s.takeSmallStep seconds millis).Meets K := by
  unfold State.takeSmallStep
  have set := h.setTime seconds millis
  dsimp only
  split
  · exact set.freshBoundary
  · split
    · exact set
    · exact .ite (fun _ => set.boundaryFalls _) fun _ => set

theorem takeLargeStep (h : s.Meets K) (seconds millis : Nat) : (s.takeLargeStep seconds millis).Meets K := by
  unfold State.takeLargeStep
  have set := h.setTime seconds millis
  exact .ite (fun _ => (set.raiseEvent _).freshBoundary) fun _ => set.freshBoundary

theorem answerTimeSet (h : s.Meets K) (seconds millis : Nat) : (s.answerTimeSet seconds millis).Meets K :=
  .ite (fun _ => h.refuse _) fun _ => .ite (fun _ => (h.takeSmallStep _ _).finishTimeSet) fun _ =>
    .ite (fun _ => h.refuse _) fun _ => (h.takeLargeStep _ _).finishTimeSet

theorem answerTableGet (h : s.Meets K) (payload : List Byte) : (s.answerTableGet payload).Meets K := by
  unfold State.answerTableGet
  split
  · exact h.refuse _
  · exact h.ack _

/-- An entry joins the change queue only while a place is free (R157). -/
theorem enqueue (h : s.Meets K) (c : Change) : (s.enqueue c).Meets K := by
  unfold State.enqueue
  refine .ite (fun _ => h.refuse _) fun _ => .ite (fun _ => h.refuse _) fun free => ?_
  have joined := h.updCm (f := fun m =>
    { m with queue := m.queue ++ [⟨s.cm.nextChange, c⟩], nextChange := countUp s.cm.nextChange })
    fun _ => by simpa [Config.changePlaces] using free
  exact joined.ack _

theorem answerTablePut (h : s.Meets K) (payload : List Byte) : (s.answerTablePut payload).Meets K := by
  unfold State.answerTablePut
  split
  · exact h.refuse _
  · exact .ite (fun _ => h.refuse _) fun _ => .ite (fun _ => h.refuse _) fun _ => h.enqueue _

theorem answerPreset (h : s.Meets K) (payload : List Byte) : (s.answerPreset payload).Meets K := by
  unfold State.answerPreset
  split
  · exact h.refuse _
  · exact h.enqueue _

theorem answerMode (h : s.Meets K) (target : Nat) : (s.answerMode target).Meets K := by
  unfold State.answerMode
  split
  · exact h.refuse _
  · exact h.enqueue _

theorem setLock (h : s.Meets K) (locked : Bool) : (s.setLock locked).Meets K := by
  unfold State.setLock
  have written := (h.updCm (f := fun m => { m with locked := locked }) h.cm).handConfig .contract
  exact .ite (fun _ => h) fun _ => .ite (fun _ => written) fun _ => written.callSave

theorem answerLock (h : s.Meets K) : s.answerLock.Meets K :=
  .ite (fun _ => h.refuse _) fun _ => (h.setLock _).ack _

theorem answerUnlock (h : s.Meets K) : s.answerUnlock.Meets K :=
  .ite (fun _ => (h.setLock _).ack _) fun _ => h.refuse _

theorem answerAccountRead (h : s.Meets K) (n : Nat) : (s.answerAccountRead n).Meets K := by
  unfold State.answerAccountRead
  split
  · exact h.refuse _
  · exact h.ack _

theorem answerLogRead (h : s.Meets K) (first count : Nat) : (s.answerLogRead first count).Meets K :=
  .ite (fun _ => (h.updRsc (f := fun r => { r with readQueue := some ⟨first, count == 2⟩ })
    { h.rsc with }).waitFor _) fun _ => h.refuse _

theorem answerLinkStatus (h : s.Meets K) (n : Nat) : (s.answerLinkStatus n).Meets K := by
  unfold State.answerLinkStatus
  split
  · exact h.refuse _
  · exact h.ack _

theorem answerLinkRestart (h : s.Meets K) (n : Nat) : (s.answerLinkRestart n).Meets K := by
  unfold State.answerLinkRestart
  split
  · exact h.refuse _
  · exact .ite (fun _ => h.refuse _) fun _ => (h.enterBreaking _).ack _

theorem answerPointStatus (h : s.Meets K) (n : Nat) : (s.answerPointStatus n).Meets K := by
  unfold State.answerPointStatus
  split
  · exact h.refuse _
  · exact h.ack _

theorem answerPointSubstitute (h : s.Meets K) (n : Nat) : (s.answerPointSubstitute n).Meets K := by
  unfold State.answerPointSubstitute
  split
  · exact h.refuse _
  · exact .ite (fun _ => h.refuse _) fun _ => .ite (fun _ => (h.enterShadow _).ack _) fun _ => h.refuse _

theorem answerPointRestore (h : s.Meets K) (n : Nat) : (s.answerPointRestore n).Meets K := by
  unfold State.answerPointRestore
  split
  · exact h.refuse _
  · split
    · exact h.refuse _
    · exact (h.toDirect _).ack _
    · exact .ite (fun _ => h.refuse _) fun _ => (h.toDirect _).ack _

theorem beginReset (h : s.Meets K) : s.beginReset.Meets K := by
  unfold State.beginReset
  have dropped := h.updRsc (f := fun r => { r with patrolQueued := false }) { h.rsc with }
  exact .ite (fun _ => dropped.raiseEvent _) fun _ => dropped

theorem answerReset (h : s.Meets K) : s.answerReset.Meets K := by
  unfold State.answerReset
  have taken := (h.ack []).updMlc (f := fun m => { m with resetTaken := true }) (h.ack []).mlc
  exact .ite (fun _ => h.refuse _) fun _ => .ite (fun _ => taken) fun _ => taken.beginReset

theorem execUnknownRequestKind (h : s.Meets K) : Leads (State.Meets K) (execUnknownRequestKind s) := by
  unfold Machine.execUnknownRequestKind
  refine .ite (fun _ => .next h) fun _ => ?_
  split
  · exact .next h
  · exact .ite (fun _ => .next h) fun _ => .next (h.refuse _)

theorem execIdent (h : s.Meets K) : Leads (State.Meets K) (execIdent s) :=
  h.serve (act := fun _ s => s.ack s.identPayload) .ident fun _ => h.ack _

theorem execStatus (h : s.Meets K) : Leads (State.Meets K) (execStatus s) :=
  h.serve (act := fun _ s => s.answerStatus) .status fun _ => h.answerStatus

theorem execClear (h : s.Meets K) : Leads (State.Meets K) (execClear s) :=
  h.serve (act := fun p s => s.answerClear (natAt p 0 2)) .clear fun _ => h.answerClear _

theorem execTimeSet (h : s.Meets K) : Leads (State.Meets K) (execTimeSet s) :=
  h.serve (act := fun p s => s.answerTimeSet (natAt p 0 4) (natAt p 4 2)) .timeSet fun _ => h.answerTimeSet _ _

theorem execTimeGet (h : s.Meets K) : Leads (State.Meets K) (execTimeGet s) :=
  h.serve (act := fun _ s => s.ack s.timePayload) .timeGet fun _ => h.ack _

theorem execTableGet (h : s.Meets K) : Leads (State.Meets K) (execTableGet s) :=
  h.serve (act := fun p s => s.answerTableGet p) .tableGet fun _ => h.answerTableGet _

theorem execTablePut (h : s.Meets K) : Leads (State.Meets K) (execTablePut s) :=
  h.serve (act := fun p s => s.answerTablePut p) .tablePut fun _ => h.answerTablePut _

theorem execAccountRead (h : s.Meets K) : Leads (State.Meets K) (execAccountRead s) :=
  h.serve (act := fun p s => s.answerAccountRead (natAt p 0 1)) .accountRead fun _ => h.answerAccountRead _

theorem execWindowPeek (h : s.Meets K) : Leads (State.Meets K) (execWindowPeek s) :=
  h.serve (act := fun _ s => s.ack s.peekPayload) .windowPeek fun _ => h.ack _

theorem execLogInfo (h : s.Meets K) : Leads (State.Meets K) (execLogInfo s) :=
  h.serve (act := fun _ s => s.ack s.logInfoPayload) .logInfo fun _ => h.ack _

theorem execLogRead (h : s.Meets K) : Leads (State.Meets K) (execLogRead s) :=
  h.serve (act := fun p s => s.answerLogRead (natAt p 0 4) (natAt p 4 1)) .logRead fun _ => h.answerLogRead _ _

theorem execLinkStatus (h : s.Meets K) : Leads (State.Meets K) (execLinkStatus s) :=
  h.serve (act := fun p s => s.answerLinkStatus (natAt p 0 1)) .linkStatus fun _ => h.answerLinkStatus _

theorem execLinkRestart (h : s.Meets K) : Leads (State.Meets K) (execLinkRestart s) :=
  h.serve (act := fun p s => s.answerLinkRestart (natAt p 0 1)) .linkRestart fun _ => h.answerLinkRestart _

theorem execPointStatus (h : s.Meets K) : Leads (State.Meets K) (execPointStatus s) :=
  h.serve (act := fun p s => s.answerPointStatus (natAt p 0 1)) .pointStatus fun _ => h.answerPointStatus _

theorem execPointSubstitute (h : s.Meets K) : Leads (State.Meets K) (execPointSubstitute s) :=
  h.serve (act := fun p s => s.answerPointSubstitute (natAt p 0 1)) .pointSubstitute fun _ => h.answerPointSubstitute _

theorem execPointRestore (h : s.Meets K) : Leads (State.Meets K) (execPointRestore s) :=
  h.serve (act := fun p s => s.answerPointRestore (natAt p 0 1)) .pointRestore fun _ => h.answerPointRestore _

theorem execPreset (h : s.Meets K) : Leads (State.Meets K) (execPreset s) :=
  h.serve (act := fun p s => s.answerPreset p) .preset fun _ => h.answerPreset _

theorem execMode (h : s.Meets K) : Leads (State.Meets K) (execMode s) :=
  h.serve (act := fun p s => s.answerMode (natAt p 0 1)) .mode fun _ => h.answerMode _

theorem execLock (h : s.Meets K) : Leads (State.Meets K) (execLock s) :=
  h.serve (act := fun _ s => s.answerLock) .lock fun _ => h.answerLock

theorem execUnlock (h : s.Meets K) : Leads (State.Meets K) (execUnlock s) :=
  h.serve (act := fun _ s => s.answerUnlock) .unlock fun _ => h.answerUnlock

theorem execErase (h : s.Meets K) : Leads (State.Meets K) (execErase s) :=
  h.serve (act := fun _ s => s.enqueue .erase) .erase fun _ => h.enqueue _

theorem execReset (h : s.Meets K) : Leads (State.Meets K) (execReset s) :=
  h.serve (act := fun _ s => s.answerReset) .reset fun _ => h.answerReset

/-! ## Every command -/

/-- Every command keeps a standard; one that asks for HALTED is kept by the commands that are no restart
(R148). -/
theorem exec (h : s.Meets K) (c : Instr) (left : ¬ K.halted ∨ restarts c = false) :
    Leads (State.Meets K) (exec c s) := by
  have restarting (hc : restarts c = true) : ¬ K.halted := left.resolve_right (by simp [hc])
  cases c with
  | powerOnReset straps u decayed => exact h.execPowerOnReset (restarting rfl) _ _ _
  | pinReset straps u decayed => exact h.execPinReset (restarting rfl) _ _ _
  | tkSecondsWrap => exact h.execTkSecondsWrap
  | intervalBoundary => exact h.execIntervalBoundary
  | closeEventBegin => exact h.execCloseEventBegin
  | pfwAssert => exact h.execPfwAssert
  | pfwDeassert => exact h.execPfwDeassert
  | messageFrameReceived bytes => exact h.execMessageFrameReceived _
  | framingError => exact h.execFramingError
  | byteGapExpiry => exact h.execByteGapExpiry
  | ident => exact h.execIdent
  | status => exact h.execStatus
  | clear => exact h.execClear
  | timeSet => exact h.execTimeSet
  | timeGet => exact h.execTimeGet
  | tableGet => exact h.execTableGet
  | tablePut => exact h.execTablePut
  | accountRead => exact h.execAccountRead
  | windowPeek => exact h.execWindowPeek
  | logInfo => exact h.execLogInfo
  | logRead => exact h.execLogRead
  | logReadJobDone firstOk secondOk => exact h.execLogReadJobDone _ _
  | linkStatus => exact h.execLinkStatus
  | linkRestart => exact h.execLinkRestart
  | pointStatus => exact h.execPointStatus
  | pointSubstitute => exact h.execPointSubstitute
  | pointRestore => exact h.execPointRestore
  | preset => exact h.execPreset
  | mode => exact h.execMode
  | lock => exact h.execLock
  | unlock => exact h.execUnlock
  | erase => exact h.execErase
  | reset => exact h.execReset
  | unknownRequestKind => exact h.execUnknownRequestKind
  | softResetProceed marker decayed => exact h.execSoftResetProceed (restarting rfl) _ _
  | noticeTransmit => exact h.execNoticeTransmit
  | offerFrame l c => exact h.execOfferFrame _ _
  | acceptFrame l c => exact h.execAcceptFrame _ _
  | windowFrame l f => exact h.execWindowFrame _ _
  | invalidFrame l => exact h.execInvalidFrame _
  | damagedWindow l seq => exact h.execDamagedWindow _ _
  | jabberCut l => exact h.execJabberCut _
  | jabberIdleEnd l => exact h.execJabberIdleEnd _
  | offerSendPeriod l => exact h.execOfferSendPeriod _
  | acceptSendPeriod l => exact h.execAcceptSendPeriod _
  | linkFrameSend l => exact h.execLinkFrameSend _
  | silenceTimerExpiry l => exact h.execSilenceTimerExpiry _
  | breakHoldExpiry l => exact h.execBreakHoldExpiry _
  | assemblyDeadlineExpiry seq => exact h.execAssemblyDeadlineExpiry _
  | takeWindow applied => exact h.execTakeWindow _
  | windowBoundary => exact h.execWindowBoundary
  | storeJobStart => exact h.execStoreJobStart
  | storeWriteAttemptDone result => exact h.execStoreWriteAttemptDone _
  | patrolStepDue => exact h.execPatrolStepDue
  | patrolReadDone agrees => exact h.execPatrolReadDone _
  | lossOfSupply u => exact h.execLossOfSupply (restarting rfl) _
  | oscillatorStop => exact h.execOscillatorStop
  | strayByte b => exact h.execStrayByte _

/-- Every step keeps a standard that does not ask for HALTED. -/
theorem step {t : State} (h : s.Meets K) (left : ¬ K.halted) (run : step s = .next t) : t.Meets K := by
  unfold Machine.step at run
  split at run
  · exact (Leads.next (h.advance 1)).elim run
  next c rest _ =>
    have queued : ({ s with pending := rest } : State).Meets K := { h with }
    exact (queued.exec c (.inl left)).elim run

end State.Meets

/-! ## The standards -/

/-- Nothing is asked. -/
def Standard.trivial : Standard where
  caps := False
  preemption := False
  slots := False
  halted := False
  residues := fun _ => True
  counts := fun _ => True
  residues_zero := True.intro
  counts_zero := True.intro
  residues_apply := fun _ _ _ _ => True.intro
  counts_count := fun _ _ _ _ => True.intro

/-- What is asked of a job's content holds where nothing is asked of residues and counts, and slots are in
range. -/
theorem Standard.active_of_slotInRange {K : Standard} (hr : ∀ r, K.residues r) (hc : ∀ c, K.counts c)
    {j : Option ActiveJob} (h : K.slots → slotInRange j) : K.active j := by
  have interval (x : Option Interval) : K.interval x := by
    cases x with
    | none => exact True.intro
    | some iv => exact hc _
  match j with
  | none => exact True.intro
  | some ⟨.save (.saved c), _⟩ => exact ⟨fun a => ⟨hr _, interval _⟩, fun r _ => hc _⟩
  | some ⟨.save .running, _⟩ => exact True.intro
  | some ⟨.save .clean, _⟩ => exact True.intro
  | some ⟨.block c _, _⟩ => exact hr _
  | some ⟨.record r n, _⟩ => exact ⟨hc _, h⟩
  | some ⟨.config _ _, _⟩ => exact True.intro
  | some ⟨.read _ _, _⟩ => exact True.intro
  | some ⟨.patrol _ _, _⟩ => exact True.intro

/-- A standard that asks nothing of residues and counts is met where its other parts hold. -/
theorem State.Meets.of_parts {K : Standard} (hr : ∀ r, K.residues r) (hc : ∀ c, K.counts c) {s : State}
    (caps : K.caps → s.capacitiesOk) (preemption : K.preemption → s.jobsOk) (slots : K.slots → s.slotsOk)
    (halted : K.halted → s.rsc.halted = true) : s.Meets K := by
  have interval (x : Option Interval) : K.interval x := by
    cases x with
    | none => exact True.intro
    | some iv => exact hc _
  have block (x : Option RegContent) : K.block x := by
    cases x with
    | none => exact True.intro
    | some c => exact hr _
  exact {
    cu := fun hk => (caps hk).2.2.2
    ia := fun a => ⟨hr _, interval _⟩
    store :=
      { registers := fun a => block _
        spares := fun n => block _
        records := fun p _ => hc _
        slots := fun hk => (slots hk).1
        save := fun b _ => by
          cases b with
          | saved c => exact ⟨fun a => ⟨hr _, interval _⟩, fun r _ => hc _⟩
          | running => exact True.intro
          | clean => exact True.intro }
    rsc :=
      { history := fun hk => (caps hk).2.2.1
        preempts := preemption
        halted := halted
        images := fun a => hr _
        blocks := fun c _ => hr _
        records := fun q _ => hc _
        running := Standard.active_of_slotInRange hr hc fun hk => (slots hk).2.1
        preempted := Standard.active_of_slotInRange hr hc fun hk => (slots hk).2.2 }
    cm := fun hk => (caps hk).1
    mlc := fun hk => (caps hk).2.1 }

/-- The standard of the capacities. -/
def Standard.capacities : Standard := { Standard.trivial with caps := True }

theorem State.meets_capacities {s : State} : s.Meets .capacities ↔ s.capacitiesOk :=
  ⟨fun h => ⟨h.cm True.intro, h.mlc True.intro, h.rsc.history True.intro, h.cu True.intro⟩,
    fun h => .of_parts (fun _ => True.intro) (fun _ => True.intro) (fun _ => h) False.elim False.elim False.elim⟩

/-- The standard of preemption. -/
def Standard.preempting : Standard := { Standard.trivial with preemption := True }

theorem State.meets_preempting {s : State} : s.Meets .preempting ↔ s.jobsOk :=
  ⟨fun h => h.rsc.preempts True.intro,
    fun h => .of_parts (fun _ => True.intro) (fun _ => True.intro) False.elim (fun _ => h) False.elim False.elim⟩

/-- Settles O5: capacities and preemption are standards, which every step keeps. -/
theorem capacitiesAreKept : Obligations.CapacitiesAreKept :=
  ⟨fun _ _ h run => State.meets_capacities.1 ((State.meets_capacities.2 h).step id run),
    fun _ _ h run => State.meets_preempting.1 ((State.meets_preempting.2 h).step id run)⟩

/-- The standard of the record slots. -/
def Standard.canonicalSlots : Standard := { Standard.trivial with slots := True }

theorem Standard.slotInRange_of_active {K : Standard} (hk : K.slots) {j : Option ActiveJob} (h : K.active j) :
    slotInRange j := by
  unfold slotInRange
  split
  · exact h.2 hk
  · exact True.intro

theorem State.meets_canonicalSlots {s : State} : s.Meets .canonicalSlots ↔ s.slotsOk :=
  ⟨fun h => ⟨h.store.slots True.intro, Standard.slotInRange_of_active True.intro h.rsc.running,
      Standard.slotInRange_of_active True.intro h.rsc.preempted⟩,
    fun h => .of_parts (fun _ => True.intro) (fun _ => True.intro) False.elim False.elim (fun _ => h) False.elim⟩

/-- Settles O6: the canonical form of the record slots is a standard, which every step keeps. -/
theorem recordSlotsAreKept : Obligations.RecordSlotsAreKept :=
  fun _ _ h run => State.meets_canonicalSlots.1 ((State.meets_canonicalSlots.2 h).step id run)

/-- The standard of the bound of the residues: what is left over after whole units is below one (R18). -/
def Standard.residueBound : Standard := { Standard.trivial with
  residues := residuesBelow
  residues_zero := Vector.forall_replicate (P := (· < Config.energyUnit)) (by decide)
  residues_apply := fun d l x h => by
    induction l generalizing x with
    | nil => exact h
    | cons c rest ih =>
      exact ih _ (Vector.forall_set (P := (· < Config.energyUnit)) c.1 (Nat.mod_lt _ (by decide)) h) }

theorem Standard.residueBound_interval (x : Option Interval) : Standard.residueBound.interval x := by
  cases x <;> exact True.intro

theorem Standard.residueBound_save (b : SaveBlock) : Standard.residueBound.save b ↔ b.residuesOk := by
  cases b with
  | saved c =>
    exact ⟨fun h a => (h.1 a).1, fun h => ⟨fun a => ⟨h a, Standard.residueBound_interval _⟩, fun _ _ => True.intro⟩⟩
  | running => exact Iff.rfl
  | clean => exact Iff.rfl

theorem Standard.residueBound_active (j : Option ActiveJob) : Standard.residueBound.active j ↔ jobResiduesOk j :=
  match j with
  | none => Iff.rfl
  | some ⟨.save b, _⟩ => Standard.residueBound_save b
  | some ⟨.block _ _, _⟩ => Iff.rfl
  | some ⟨.record _ _, _⟩ => ⟨fun _ => True.intro, fun _ => ⟨True.intro, False.elim⟩⟩
  | some ⟨.config _ _, _⟩ => Iff.rfl
  | some ⟨.read _ _, _⟩ => Iff.rfl
  | some ⟨.patrol _ _, _⟩ => Iff.rfl

theorem Standard.residueBound_block (c : Option RegContent) : Standard.residueBound.block c ↔ blockResiduesOk c := by
  cases c <;> exact Iff.rfl

theorem State.meets_residueBound {s : State} : s.Meets .residueBound ↔ s.residuesOk := by
  constructor
  · intro h
    exact ⟨fun a => (h.ia a).1, h.rsc.images, h.rsc.blocks, (Standard.residueBound_active _).1 h.rsc.running,
      (Standard.residueBound_active _).1 h.rsc.preempted,
      fun a => (Standard.residueBound_block _).1 (h.store.registers a),
      fun n => (Standard.residueBound_block _).1 (h.store.spares n),
      fun b hb => (Standard.residueBound_save b).1 (h.store.save b hb)⟩
  · rintro ⟨accounts, images, blocks, running, preempted, registers, spares, save⟩
    exact {
      cu := False.elim
      ia := fun a => ⟨accounts a, Standard.residueBound_interval _⟩
      store :=
        { registers := fun a => (Standard.residueBound_block _).2 (registers a)
          spares := fun n => (Standard.residueBound_block _).2 (spares n)
          records := fun _ _ => True.intro
          slots := False.elim
          save := fun b hb => (Standard.residueBound_save b).2 (save b hb) }
      rsc :=
        { history := False.elim
          preempts := False.elim
          halted := False.elim
          images := images
          blocks := blocks
          records := fun _ _ => True.intro
          running := (Standard.residueBound_active _).2 running
          preempted := (Standard.residueBound_active _).2 preempted }
      cm := False.elim
      mlc := False.elim }

/-- One window raises the total and one of its three parts, and a flag's count by at most 1 (R29). -/
theorem WindowCounts.ok_count (r : AccountWindow) {c : WindowCounts} (below : c.total < u32Max) (h : c.ok) :
    (c.count r).ok := by
  obtain ⟨parts, total, flags⟩ := h
  have flag (b : Bool) {n : Nat} (hn : n ≤ c.total) : (if b then n + 1 else n) ≤ c.total + 1 := by
    split <;> omega
  obtain ⟨h1, h2, h3, h4, h5, h6⟩ := flags
  refine ⟨?_, below, flag _ h1, flag _ h2, flag _ h3, flag _ h4, flag _ h5, flag _ h6⟩
  cases hs : r.status <;> simp [WindowCounts.count, hs] <;> omega

/-- The standard of the agreement of the window counts (R29). -/
def Standard.countAgreement : Standard := { Standard.trivial with
  counts := WindowCounts.ok
  counts_zero := by simp [WindowCounts.ok, WindowCounts.zero]
  counts_count := fun r _ below h => WindowCounts.ok_count r below h }

theorem Standard.countAgreement_interval (x : Option Interval) :
    Standard.countAgreement.interval x ↔ ∀ iv, x = some iv → iv.counts.ok := by
  cases x with
  | none => exact ⟨fun _ _ h => (nomatch h), fun _ => True.intro⟩
  | some iv => exact ⟨fun h _ e => Option.some.inj e ▸ h, fun h => h iv rfl⟩

theorem Standard.countAgreement_save (b : SaveBlock) : Standard.countAgreement.save b ↔ b.countsOk := by
  cases b with
  | saved c =>
    exact ⟨fun h => ⟨fun a => (Standard.countAgreement_interval _).1 (h.1 a).2, h.2⟩,
      fun h => ⟨fun a => ⟨True.intro, (Standard.countAgreement_interval _).2 (h.1 a)⟩, h.2⟩⟩
  | running => exact Iff.rfl
  | clean => exact Iff.rfl

theorem Standard.countAgreement_active (j : Option ActiveJob) : Standard.countAgreement.active j ↔ jobCountsOk j :=
  match j with
  | none => Iff.rfl
  | some ⟨.save b, _⟩ => Standard.countAgreement_save b
  | some ⟨.block _ _, _⟩ => Iff.rfl
  | some ⟨.record _ _, _⟩ => ⟨fun h => h.1, fun h => ⟨h, False.elim⟩⟩
  | some ⟨.config _ _, _⟩ => Iff.rfl
  | some ⟨.read _ _, _⟩ => Iff.rfl
  | some ⟨.patrol _ _, _⟩ => Iff.rfl

theorem State.meets_countAgreement {s : State} : s.Meets .countAgreement ↔ s.countsOk := by
  have block (x : Option RegContent) : Standard.countAgreement.block x := by
    cases x <;> exact True.intro
  constructor
  · intro h
    exact ⟨fun a => (Standard.countAgreement_interval _).1 (h.ia a).2, h.rsc.records,
      (Standard.countAgreement_active _).1 h.rsc.running, (Standard.countAgreement_active _).1 h.rsc.preempted,
      h.store.records, fun b hb => (Standard.countAgreement_save b).1 (h.store.save b hb)⟩
  · rintro ⟨intervals, records, running, preempted, slots, save⟩
    exact {
      cu := False.elim
      ia := fun a => ⟨True.intro, (Standard.countAgreement_interval _).2 (intervals a)⟩
      store :=
        { registers := fun _ => block _
          spares := fun _ => block _
          records := slots
          slots := False.elim
          save := fun b hb => (Standard.countAgreement_save b).2 (save b hb) }
      rsc :=
        { history := False.elim
          preempts := False.elim
          halted := False.elim
          images := fun _ => True.intro
          blocks := fun _ _ => True.intro
          records := records
          running := (Standard.countAgreement_active _).2 running
          preempted := (Standard.countAgreement_active _).2 preempted }
      cm := False.elim
      mlc := False.elim }

/-- Settles O7: the bound of the residues and the agreement of the counts are standards, which every step keeps. -/
theorem residuesAreKept : Obligations.ResiduesAreKept :=
  ⟨fun _ _ h run => State.meets_residueBound.1 ((State.meets_residueBound.2 h).step id run),
    fun _ _ h run => State.meets_countAgreement.1 ((State.meets_countAgreement.2 h).step id run)⟩

/-- The standard of HALTED. -/
def Standard.staysHalted : Standard := { Standard.trivial with halted := True }

/-- Settles O9: to be HALTED is a standard, which every command that is no restart keeps. -/
theorem haltedUntilReset : Obligations.HaltedUntilReset := by
  intro c s t halted noRestart run
  have h : s.Meets .staysHalted :=
    .of_parts (fun _ => True.intro) (fun _ => True.intro) False.elim False.elim False.elim fun _ => halted
  exact ((h.exec c (.inr noRestart)).elim run).rsc.halted True.intro

end Sys2Proof.Machine
end

section
/-! The commands in groups: the request commands as one, and those that leave links, windows, points, accounts and
supply monitor alone. -/

namespace Sys2Proof.Machine

/-- A property of the next state may be replaced by a weaker one. -/
theorem Leads.mono {P Q : State → Prop} {o : Host.Outcome State Fault Refusal} (h : Leads P o)
    (weaker : ∀ t, P t → Q t) : Leads Q o := by
  cases h with
  | next h => exact .next (weaker _ h)

/-! ## Requests -/

/-- What a request does that passed the checks on its kind, its length and HALTED (chapter 11.3). -/
def RequestKind.act : RequestKind → List Byte → State → State
  | .ident => fun _ s => s.ack s.identPayload
  | .status => fun _ s => s.answerStatus
  | .clear => fun p s => s.answerClear (natAt p 0 2)
  | .timeSet => fun p s => s.answerTimeSet (natAt p 0 4) (natAt p 4 2)
  | .timeGet => fun _ s => s.ack s.timePayload
  | .tableGet => fun p s => s.answerTableGet p
  | .tablePut => fun p s => s.answerTablePut p
  | .accountRead => fun p s => s.answerAccountRead (natAt p 0 1)
  | .windowPeek => fun _ s => s.ack s.peekPayload
  | .logInfo => fun _ s => s.ack s.logInfoPayload
  | .logRead => fun p s => s.answerLogRead (natAt p 0 4) (natAt p 4 1)
  | .linkStatus => fun p s => s.answerLinkStatus (natAt p 0 1)
  | .linkRestart => fun p s => s.answerLinkRestart (natAt p 0 1)
  | .pointStatus => fun p s => s.answerPointStatus (natAt p 0 1)
  | .pointSubstitute => fun p s => s.answerPointSubstitute (natAt p 0 1)
  | .pointRestore => fun p s => s.answerPointRestore (natAt p 0 1)
  | .preset => fun p s => s.answerPreset p
  | .mode => fun p s => s.answerMode (natAt p 0 1)
  | .lock => fun _ s => s.answerLock
  | .unlock => fun _ s => s.answerUnlock
  | .erase => fun _ s => s.enqueue .erase
  | .reset => fun _ s => s.answerReset

/-- A request command serves its kind. -/
theorem exec_command (k : RequestKind) (s : State) : exec k.command s = s.serve k k.act := by
  cases k <;> rfl

/-- A request command leads to the state as it was, to a refusal, or to its effect; in HALTED to its effect only
where the kind is served there (R195). -/
theorem Leads.serve {P : State → Prop} {s : State} {k : RequestKind} {act : List Byte → State → State}
    (idle : P s) (refused : ∀ r, P (s.refuse r))
    (acted : ∀ p, (s.rsc.halted = true → k.servedInHalted = true) → P (act p s)) : Leads P (s.serve k act) := by
  unfold State.serve
  refine .ite (fun _ => .next idle) fun _ => ?_
  split
  · exact .next idle
  · refine .ite (fun _ => .next idle) fun _ => .ite (fun _ => .next (refused _)) fun _ =>
      .ite (fun _ => .next (refused _)) fun served => .next (acted _ fun halted => ?_)
    simpa [halted] using served

/-! ## The commands that leave the metering path alone -/

/-- From `s` to `t` links, windows, points, accounts, supply monitor and waiting commands stand. -/
structure State.Untouched (s t : State) : Prop where
  links : t.links = s.links := by simp
  wa : t.wa = s.wa := by simp
  points : t.points = s.points := by simp
  ia : t.ia = s.ia := by simp
  sm : t.sm = s.sm := by simp
  pending : t.pending = s.pending := by simp

theorem State.Untouched.refl (s : State) : s.Untouched s where

/-- The requests that leave links, windows, points, accounts and supply monitor alone. -/
def RequestKind.plain : RequestKind → Bool
  | .timeSet | .linkRestart | .pointSubstitute | .pointRestore | .lock | .unlock | .reset => false
  | _ => true

theorem RequestKind.act_untouched {k : RequestKind} (hk : k.plain = true) (p : List Byte) (s : State) :
    s.Untouched (k.act p s) := by
  cases k with
  | timeSet | linkRestart | pointSubstitute | pointRestore | lock | unlock | reset => cases hk
  | _ => constructor <;> simp [RequestKind.act]

/-- The result of a read of one record: the store, at most, has lost the record's slot (R142). -/
theorem State.readRecord_eq {s u : State} {q : Nat} {agrees : Bool} {x : Option IntervalRecord}
    (h : s.readRecord q agrees = (x, u)) : u = { s with store := u.store } := by
  unfold State.readRecord at h
  split at h
  · obtain ⟨-, rfl⟩ := h
    rfl
  · split at h
    · obtain ⟨-, rfl⟩ := h
      rfl
    · obtain ⟨-, rfl⟩ := h
      rfl

namespace State.Untouched

variable {s t u : State}

theorem trans (h : s.Untouched t) (h' : t.Untouched u) : s.Untouched u where
  links := h'.links.trans h.links
  wa := h'.wa.trans h.wa
  points := h'.points.trans h.points
  ia := h'.ia.trans h.ia
  sm := h'.sm.trans h.sm
  pending := h'.pending.trans h.pending

theorem readRecord {q : Nat} {agrees : Bool} {x : Option IntervalRecord} (h : s.readRecord q agrees = (x, u)) :
    s.Untouched u := by
  rw [State.readRecord_eq h]
  exact {}

theorem execStoreJobStart (s : State) : Leads s.Untouched (execStoreJobStart s) := by
  unfold Machine.execStoreJobStart
  refine .ite (fun _ => .next (refl s)) fun _ => ?_
  split
  · exact .next {}
  · exact .ite (fun _ => .next {}) fun _ => .next (refl s)
  · exact .next (refl s)

theorem execLogReadJobDone (firstOk secondOk : Bool) (s : State) :
    Leads s.Untouched (execLogReadJobDone firstOk secondOk s) := by
  unfold Machine.execLogReadJobDone
  have ended : s.Untouched s.jobEnds := {}
  split
  · refine .ite (fun _ => .next (refl s)) fun _ => ?_
    dsimp only
    split
    · exact .next {}
    · exact .next {}
    · split
      next u hu => exact .next ((ended.trans (readRecord hu)).trans {})
      next r u hu =>
        have read := ended.trans (readRecord hu)
        split
        · exact .next (read.trans {})
        · split
          next v hv => exact .next ((read.trans (readRecord hv)).trans {})
          next r' v hv => exact .next ((read.trans (readRecord hv)).trans {})
  · exact .next (refl s)

theorem execPatrolReadDone (agrees : Bool) (s : State) : Leads s.Untouched (execPatrolReadDone agrees s) := by
  unfold Machine.execPatrolReadDone
  split
  · exact .ite (fun _ => .next (refl s)) fun _ => .ite (fun _ => .ite (fun _ => .next {}) fun _ => .next {})
      fun _ => .ite (fun _ => .next {}) fun _ => .ite (fun _ => .next {}) fun _ => .next {}
  · exact .next (refl s)

theorem execRequest {k : RequestKind} (hk : k.plain = true) (s : State) :
    Leads s.Untouched (s.serve k k.act) :=
  .serve (refl s) (fun _ => {}) fun p _ => RequestKind.act_untouched hk p s

theorem execUnknownRequestKind (s : State) : Leads s.Untouched (execUnknownRequestKind s) := by
  unfold Machine.execUnknownRequestKind
  refine .ite (fun _ => .next (refl s)) fun _ => ?_
  split
  · exact .next (refl s)
  · exact .ite (fun _ => .next (refl s)) fun _ => .next {}

end State.Untouched

/-- The commands of the receiver, of the store's reads, and of the requests that leave the metering path alone. -/
def leavesMetering : Instr → Bool
  | .storeJobStart | .logReadJobDone .. | .patrolReadDone _ | .unknownRequestKind => true
  | .messageFrameReceived _ | .strayByte _ | .framingError | .oscillatorStop => true
  | .ident | .status | .clear | .timeGet | .tableGet | .tablePut | .accountRead | .windowPeek | .logInfo | .logRead
  | .linkStatus | .pointStatus | .preset | .mode | .erase => true
  | _ => false

/-- Such a command leaves links, windows, points, accounts and supply monitor alone. -/
theorem exec_untouched {c : Instr} (hc : leavesMetering c = true) (s : State) : Leads s.Untouched (exec c s) := by
  cases c with
  | storeJobStart => exact State.Untouched.execStoreJobStart s
  | logReadJobDone firstOk secondOk => exact State.Untouched.execLogReadJobDone _ _ s
  | patrolReadDone agrees => exact State.Untouched.execPatrolReadDone _ s
  | unknownRequestKind => exact State.Untouched.execUnknownRequestKind s
  | messageFrameReceived bytes => exact .ite (fun _ => .next {}) fun _ => .next {}
  | strayByte b => exact .ite (fun _ => .next {}) fun _ => .next {}
  | framingError => exact .ite (fun _ => .next {}) fun _ => .next {}
  | oscillatorStop => exact .ite (fun _ => .next {}) fun _ => .next {}
  | ident => exact State.Untouched.execRequest (k := .ident) rfl s
  | status => exact State.Untouched.execRequest (k := .status) rfl s
  | clear => exact State.Untouched.execRequest (k := .clear) rfl s
  | timeGet => exact State.Untouched.execRequest (k := .timeGet) rfl s
  | tableGet => exact State.Untouched.execRequest (k := .tableGet) rfl s
  | tablePut => exact State.Untouched.execRequest (k := .tablePut) rfl s
  | accountRead => exact State.Untouched.execRequest (k := .accountRead) rfl s
  | windowPeek => exact State.Untouched.execRequest (k := .windowPeek) rfl s
  | logInfo => exact State.Untouched.execRequest (k := .logInfo) rfl s
  | logRead => exact State.Untouched.execRequest (k := .logRead) rfl s
  | linkStatus => exact State.Untouched.execRequest (k := .linkStatus) rfl s
  | pointStatus => exact State.Untouched.execRequest (k := .pointStatus) rfl s
  | preset => exact State.Untouched.execRequest (k := .preset) rfl s
  | mode => exact State.Untouched.execRequest (k := .mode) rfl s
  | erase => exact State.Untouched.execRequest (k := .erase) rfl s
  | _ => cases hc

end Sys2Proof.Machine
end

section
/-! Alignment buffers, open records and lost lists stay at distinct sequences within W..W+3 (R91, R94, R121): what
each operation of the links and the window assembler makes of them. -/

namespace Sys2Proof.Machine

/-! ## Lists of sequences -/

namespace alignedSeqs

variable {front : Seq} {l m : List Seq}

theorem nil : alignedSeqs front [] := ⟨List.nodup_nil, fun _ h => absurd h List.not_mem_nil⟩

theorem sublist (h : alignedSeqs front l) (sub : m.Sublist l) : alignedSeqs front m :=
  ⟨h.1.sublist sub, fun q hq => h.2 q (sub.subset hq)⟩

theorem perm (h : alignedSeqs front l) (p : m.Perm l) : alignedSeqs front m :=
  ⟨p.nodup_iff.2 h.1, fun q hq => h.2 q (p.mem_iff.1 hq)⟩

theorem cons (h : alignedSeqs front l) {q : Seq} (near : (q - front).toNat ≤ 3) (fresh : q ∉ l) :
    alignedSeqs front (q :: l) :=
  ⟨List.nodup_cons.2 ⟨fresh, h.1⟩, fun x hx => (List.mem_cons.1 hx).elim (fun e => e ▸ near) (h.2 x)⟩

/-- W rises by 1 once no sequence is left at W (R98). -/
theorem succ (h : alignedSeqs front l) (gone : front ∉ l) : alignedSeqs (front + 1) l :=
  ⟨h.1, fun q hq => by
    have near := h.2 q hq
    have other : q ≠ front := fun e => gone (e ▸ hq)
    bv_omega⟩

end alignedSeqs

/-- The frames of a buffer after one was placed in it, in another order. -/
theorem insertFrame_perm (front : Seq) (f : BufferedFrame) (l : List BufferedFrame) :
    (insertFrame front f l).Perm (f :: l) := by
  induction l with
  | nil => exact .refl _
  | cons g rest ih =>
    unfold insertFrame
    split
    · exact .refl _
    · exact (ih.cons g).trans (.swap f g rest)

/-- The sequences of the open records after a link has left them are some of those before. -/
theorem Assembler.linkLeaves_records_sublist (l : LinkId) (w : Assembler) :
    ((w.linkLeaves l).records.map (·.seq)).Sublist (w.records.map (·.seq)) := by
  refine (List.filter_sublist.map _).trans ?_
  rw [List.map_map]
  exact .refl _

/-- The open records after a frame has entered the one of its sequence: the same sequences, or one more at the
end. -/
theorem Assembler.enter_records (l : LinkId) (seq : Seq) (d : Nat) (up : Set4) (now allowance : Nat)
    (w : Assembler) :
    (seq ∈ w.records.map (·.seq) ∧
      (w.enter l seq d up now allowance).records.map (·.seq) = w.records.map (·.seq)) ∨
    (seq ∉ w.records.map (·.seq) ∧
      (w.enter l seq d up now allowance).records.map (·.seq) = w.records.map (·.seq) ++ [seq]) := by
  unfold Assembler.enter
  split
  next known =>
    refine .inl ⟨by simpa using known, ?_⟩
    rw [List.map_map]
    refine List.map_congr_left fun r _ => ?_
    dsimp only [Function.comp]
    split <;> rfl
  next unknown => exact .inr ⟨by simpa using unknown, by simp⟩

/-! ## Alignment of a state -/

namespace State.alignmentOk

variable {s t : State}

/-- Alignment is a matter of W, the buffers, the records and the lost lists alone. -/
theorem congr (h : s.alignmentOk) (front : t.wa.front = s.wa.front) (records : t.wa.records = s.wa.records)
    (buffers : t.wa.buffers = s.wa.buffers) (lost : ∀ l : LinkId, (t.links[l]).lost = (s.links[l]).lost) :
    t.alignmentOk := by
  unfold State.alignmentOk
  rw [front, records, buffers]
  refine ⟨h.1, fun l => ?_⟩
  rw [lost l]
  exact h.2 l

theorem same (h : s.alignmentOk) (wa : t.wa = s.wa) (links : t.links = s.links) : t.alignmentOk :=
  h.congr (by rw [wa]) (by rw [wa]) (by rw [wa]) fun l => by rw [links]

theorem ite {c : Prop} [Decidable c] (h : s.alignmentOk) (h' : t.alignmentOk) :
    (if c then s else t).alignmentOk := by
  split
  · exact h
  · exact h'

/-- With nothing buffered, recorded or lost. -/
theorem of_empty (wa : s.wa = Assembler.reset) (lost : ∀ l : LinkId, (s.links[l]).lost = []) : s.alignmentOk := by
  unfold State.alignmentOk
  rw [wa]
  refine ⟨.nil, fun l => ?_⟩
  rw [lost l]
  have empty : Assembler.reset.buffers[l] = [] := Vector.getElem_replicate l.isLt
  rw [empty]
  exact ⟨.nil, .nil, fun _ h => absurd h List.not_mem_nil⟩

/-! ## Links -/

/-- A change of link `l` after which its lost list is aligned and clear of its buffer. -/
theorem updLink (h : s.alignmentOk) (l : LinkId) {f : Link → Link}
    (aligned : alignedSeqs s.wa.front (f s.links[l]).lost)
    (clear : ∀ b ∈ s.wa.buffers[l], b.seq ∉ (f s.links[l]).lost) : (s.updLink l f).alignmentOk := by
  refine ⟨h.1, fun m => ?_⟩
  by_cases e : m = l
  · subst e
    rw [State.updLink_link]
    exact ⟨(h.2 m).1, aligned, clear⟩
  · have other : (s.updLink l f).links[m] = s.links[m] :=
      Vector.getElem_set_ne l.isLt m.isLt fun h => e (Fin.ext h.symm)
    rw [other]
    exact h.2 m

/-- A change of link `l` after which its lost list holds only what it held. -/
theorem updLink_sublist (h : s.alignmentOk) (l : LinkId) {f : Link → Link}
    (sub : (f s.links[l]).lost.Sublist (s.links[l]).lost) : (s.updLink l f).alignmentOk :=
  h.updLink l ((h.2 l).2.1.sublist sub) fun b hb hm => (h.2 l).2.2 b hb (sub.subset hm)

theorem updLink_keeps (h : s.alignmentOk) (l : LinkId) {f : Link → Link}
    (lost : ∀ k, (f k).lost = k.lost := by exact fun _ => rfl) : (s.updLink l f).alignmentOk :=
  h.updLink_sublist l (by rw [lost])

theorem updCounters (h : s.alignmentOk) (l : LinkId) (f : LinkCounters → LinkCounters) :
    (s.updCounters l f).alignmentOk :=
  h.updLink_keeps l

theorem pulse (h : s.alignmentOk) (c : Condition) : (s.pulse c).alignmentOk := h.same rfl rfl

theorem linkLeaves (h : s.alignmentOk) (l : LinkId) (empty : (s.links[l]).lost = []) :
    (s.updWa (·.linkLeaves l)).alignmentOk := by
  refine ⟨h.1.sublist (s.wa.linkLeaves_records_sublist l), fun m => ?_⟩
  by_cases e : m = l
  · subst e
    have gone : (s.updWa (·.linkLeaves m)).wa.buffers[m] = [] := Vector.getElem_set_self m.isLt
    rw [gone, State.updWa_links, empty]
    exact ⟨.nil, .nil, fun _ h => absurd h List.not_mem_nil⟩
  · have other : (s.updWa (·.linkLeaves l)).wa.buffers[m] = s.wa.buffers[m] :=
      Vector.getElem_set_ne l.isLt m.isLt fun h => e (Fin.ext h.symm)
    rw [other]
    exact h.2 m

theorem leaveUp (h : s.alignmentOk) (l : LinkId) : (s.leaveUp l).alignmentOk := by
  unfold State.leaveUp
  split
  · exact ((h.updLink_sublist l (List.nil_sublist _)).linkLeaves l (by rw [State.updLink_link])).pulse _
  · exact h

theorem enterOffering (h : s.alignmentOk) (l : LinkId) (cause : Option OfferContent) :
    (s.enterOffering l cause).alignmentOk :=
  h.updLink_keeps l

theorem toOffering (h : s.alignmentOk) (l : LinkId) (cause : Option OfferContent) :
    (s.toOffering l cause).alignmentOk :=
  (h.leaveUp l).enterOffering l cause

theorem enterDisabled (h : s.alignmentOk) (l : LinkId) : (s.enterDisabled l).alignmentOk :=
  (h.leaveUp l).updLink_keeps l

theorem enterBreaking (h : s.alignmentOk) (l : LinkId) : (s.enterBreaking l).alignmentOk :=
  (h.leaveUp l).updLink_keeps l

theorem enterAcknowledging (h : s.alignmentOk) (l : LinkId) (c : AcceptContent) :
    (s.enterAcknowledging l c).alignmentOk :=
  h.updLink_keeps l

theorem enterUp (h : s.alignmentOk) (l : LinkId) (fixed : Bool) (c : AcceptContent) (offset : Seq) :
    (s.enterUp l fixed c offset).alignmentOk :=
  (h.updLink_sublist l (List.nil_sublist _)).pulse _

end State.alignmentOk

@[simp] theorem Link.resetRuns_lost (k : Link) : k.resetRuns.lost = k.lost := by
  unfold Link.resetRuns
  split <;> rfl

namespace State.alignmentOk

variable {s : State}

theorem badFrame (h : s.alignmentOk) (count : LinkCounters → LinkCounters) (l : LinkId) :
    (s.badFrame count l).alignmentOk :=
  h.updLink_keeps l Link.resetRuns_lost

theorem goodFrame (h : s.alignmentOk) (l : LinkId) : (s.goodFrame l).alignmentOk :=
  h.updLink_keeps l

theorem resolveOffer (h : s.alignmentOk) (l : LinkId) (c : OfferContent) : (s.resolveOffer l c).alignmentOk := by
  have refused : ((s.updLink l fun k => { k with refused := some c }).pulse .linkError).alignmentOk :=
    (h.updLink_keeps l).pulse _
  unfold State.resolveOffer
  split
  · split
    · exact h.enterAcknowledging l _
    · exact refused
  · exact refused

theorem offerInOffering (h : s.alignmentOk) (l : LinkId) (c : OfferContent) :
    (s.offerInOffering l c).alignmentOk := by
  unfold State.offerInOffering
  dsimp only
  split
  · exact h.updLink_keeps l
  · generalize (if 0 < (s.links[l]).offerRun ∧ (s.links[l]).offerRunContent = some c then
      (s.links[l]).offerRun + 1 else 1) = run
    have counted : ∀ n : Nat, (s.updLink l fun k =>
        { k with lastOffer := some c, refused := none, offerRunContent := some c, offerRun := n }).alignmentOk :=
      fun _ => h.updLink_keeps l
    split
    · exact (counted 0).resolveOffer l c
    · exact counted run

theorem execOfferFrame (h : s.alignmentOk) (l : LinkId) (c : OfferContent) :
    Leads State.alignmentOk (execOfferFrame l c s) := by
  unfold Machine.execOfferFrame
  have good := h.goodFrame l
  refine Leads.ite (fun _ => .next h) fun _ => Leads.ite (fun _ => .next (h.badFrame _ l)) fun _ => ?_
  dsimp only
  split
  · exact .next (good.offerInOffering l c)
  · exact Leads.ite (fun _ => .next good) fun _ => .next (good.toOffering l _)
  · exact .next (good.toOffering l _)
  · exact .next good

theorem acceptInAcknowledging (h : s.alignmentOk) (l : LinkId) (c : AcceptContent) :
    (s.acceptInAcknowledging l c).alignmentOk := by
  unfold State.acceptInAcknowledging
  dsimp only
  split
  · have counted : (s.updLink l fun k => { k with acceptRun := (s.links[l]).acceptRun + 1 }).alignmentOk :=
      h.updLink_keeps l
    split
    · exact counted
    · exact (counted.enterUp l _ _ _).updLink_keeps l
  · exact h.toOffering l _

theorem acceptInUp (h : s.alignmentOk) (l : LinkId) (fixed : Bool) (c : AcceptContent) :
    (s.acceptInUp l fixed c).alignmentOk := by
  unfold State.acceptInUp
  dsimp only
  split
  · exact h.toOffering l _
  · split
    · exact h
    · exact h.updLink_keeps l

theorem execAcceptFrame (h : s.alignmentOk) (l : LinkId) (c : AcceptContent) :
    Leads State.alignmentOk (execAcceptFrame l c s) := by
  unfold Machine.execAcceptFrame
  have good := h.goodFrame l
  refine Leads.ite (fun _ => .next h) fun _ => Leads.ite (fun _ => .next (h.badFrame _ l)) fun _ => ?_
  dsimp only
  split
  · exact .next (good.acceptInAcknowledging l c)
  · exact .next (good.acceptInUp l _ c)
  · exact .next good

/-! ## Arrival of a frame -/

/-- A frame in range that is not buffered yet joins its buffer and its record, and leaves the lost list
(R91, R94, R122). -/
theorem bufferFrame (h : s.alignmentOk) (l : LinkId) {seq : Seq} (f : WindowFrame)
    (near : (seq - s.wa.front).toNat ≤ 3) (fresh : ∀ b ∈ s.wa.buffers[l], b.seq ≠ seq) :
    (s.bufferFrame l seq f).alignmentOk := by
  have front : (s.bufferFrame l seq f).wa.front = s.wa.front := by
    unfold State.bufferFrame Assembler.enter
    dsimp only [State.updWa, State.updLink]
    split <;> rfl
  have buffers : (s.bufferFrame l seq f).wa.buffers =
      s.wa.buffers.set l (insertFrame s.wa.front ⟨seq, f⟩ s.wa.buffers[l]) := by
    unfold State.bufferFrame Assembler.enter
    dsimp only [State.updWa, State.updLink]
    split <;> rfl
  have lost : (s.bufferFrame l seq f).links =
      s.links.set l { s.links[l] with lost := (s.links[l]).lost.filter (· != seq), errorRun := 0 } := rfl
  unfold State.alignmentOk
  rw [front, buffers, lost]
  refine ⟨?_, fun m => ?_⟩
  · have entered := Assembler.enter_records l seq f.duration.toNat s.upSet s.timeBase
      s.cm.tables.contract.allowance
      { s.wa with buffers := s.wa.buffers.set l (insertFrame s.wa.front ⟨seq, f⟩ s.wa.buffers[l]) }
    rcases entered with ⟨_, e⟩ | ⟨unknown, e⟩
    · exact (congrArg (alignedSeqs s.wa.front) e).mpr h.1
    · exact (congrArg (alignedSeqs s.wa.front) e).mpr
        ((h.1.cons near unknown).perm (List.perm_append_singleton _ _))
  · by_cases e : m = l
    · subst e
      have inserted := insertFrame_perm s.wa.front ⟨seq, f⟩ s.wa.buffers[m]
      have new : ((s.wa.buffers.set m (insertFrame s.wa.front ⟨seq, f⟩ s.wa.buffers[m]))[m]) =
          insertFrame s.wa.front ⟨seq, f⟩ s.wa.buffers[m] := Vector.getElem_set_self m.isLt
      have kept : (s.links.set m
          { s.links[m] with lost := (s.links[m]).lost.filter (· != seq), errorRun := 0 })[m] =
          { s.links[m] with lost := (s.links[m]).lost.filter (· != seq), errorRun := 0 } :=
        Vector.getElem_set_self m.isLt
      rw [new, kept]
      obtain ⟨buffered, missing, clear⟩ := h.2 m
      refine ⟨?_, missing.sublist List.filter_sublist, fun b hb hm => ?_⟩
      · exact (buffered.cons (q := seq) near fun hm => by
          obtain ⟨b, hb, e⟩ := List.mem_map.1 hm
          exact fresh b hb e).perm (inserted.map _)
      · obtain ⟨hl, hne⟩ := List.mem_filter.1 hm
        rcases List.mem_cons.1 (inserted.mem_iff.1 hb) with rfl | hb
        · exact absurd hne (by simp)
        · exact clear b hb hl
    · have other : ∀ {α : Type} (v : Vector α 4) (x : α), (v.set l x)[m] = v[m] :=
        fun v x => Vector.getElem_set_ne l.isLt m.isLt fun h => e (Fin.ext h.symm)
      rw [other, other]
      exact h.2 m

theorem windowArrives (h : s.alignmentOk) (l : LinkId) (f : WindowFrame) : (s.windowArrives l f).alignmentOk := by
  unfold State.windowArrives
  dsimp only
  split
  next near =>
    split
    next => exact h.updCounters l _
    next fresh => exact h.bufferFrame l f near (by simpa using fresh)
  next =>
    split
    · exact (h.pulse _).enterBreaking l
    · exact h.updCounters l _

theorem windowInOffering (h : s.alignmentOk) (l : LinkId) (f : WindowFrame) :
    (s.windowInOffering l f).alignmentOk := by
  unfold State.windowInOffering
  dsimp only
  split
  · exact h
  · refine ite (h.updLink_keeps l) (ite ?_ ?_)
    · exact h.updLink_keeps l
    · exact ((h.updLink_keeps l).enterUp l _ _ _).windowArrives l f

theorem execWindowFrame (h : s.alignmentOk) (l : LinkId) (f : WindowFrame) :
    Leads State.alignmentOk (execWindowFrame l f s) := by
  unfold Machine.execWindowFrame
  have good := h.goodFrame l
  refine Leads.ite (fun _ => .next h) fun _ => Leads.ite (fun _ => .next (h.badFrame _ l)) fun _ => ?_
  split
  · exact .next (good.windowInOffering l f)
  · exact Leads.ite (fun _ => .next ((good.updLink_keeps l).windowArrives l f))
      fun _ => .next (h.badFrame _ l)
  · exact .next good

/-- A damaged window joins the lost list only in range, and neither lost nor buffered (R121). -/
theorem execDamagedWindow (h : s.alignmentOk) (l : LinkId) (seq : Seq) :
    Leads State.alignmentOk (execDamagedWindow l seq s) := by
  unfold Machine.execDamagedWindow
  have counted := h.updCounters l LinkCounters.crcError
  refine Leads.ite (fun _ => .next h) fun _ => Leads.ite (fun _ => .next (h.badFrame _ l)) fun _ => ?_
  dsimp only
  refine Leads.ite (fun joins => .next ?_) fun _ => .next counted
  obtain ⟨near, known, unbuffered⟩ := joins
  obtain ⟨_, missing, clear⟩ := counted.2 l
  refine counted.updLink l ((missing.cons near known).perm (List.perm_append_singleton _ _)) fun b hb hm => ?_
  rcases List.mem_append.1 hm with hm | hm
  · exact clear b hb hm
  · exact absurd (List.mem_singleton.1 hm) (by simpa using List.all_eq_true.1 unbuffered b hb)

theorem execJabberCut (h : s.alignmentOk) (l : LinkId) : Leads State.alignmentOk (execJabberCut l s) :=
  Leads.ite (fun _ => .next h) fun _ => .next (((h.badFrame _ l).updLink_keeps l).pulse _)

/-! ## Time -/

theorem advance (h : s.alignmentOk) (dt : Nat) : (s.advance dt).alignmentOk := by
  refine h.congr (by simp) (by simp) (by simp) fun l => ?_
  unfold State.advance
  dsimp only
  split
  · split <;> simp [Link.advance]
  · rfl

theorem execJabberIdleEnd (h : s.alignmentOk) (l : LinkId) : Leads State.alignmentOk (execJabberIdleEnd l s) := by
  unfold Machine.execJabberIdleEnd
  split
  · exact .next h
  · exact Leads.ite (fun _ => .next ((h.advance _).updLink_keeps l)) fun _ => .next h

theorem execOfferSendPeriod (h : s.alignmentOk) (l : LinkId) :
    Leads State.alignmentOk (execOfferSendPeriod l s) :=
  Leads.ite (fun _ => .next ((h.advance _).updLink_keeps l)) fun _ => .next h

theorem execAcceptSendPeriod (h : s.alignmentOk) (l : LinkId) :
    Leads State.alignmentOk (execAcceptSendPeriod l s) := by
  unfold Machine.execAcceptSendPeriod
  split
  · exact Leads.ite (fun _ => .next ((h.advance _).updLink_keeps l)) fun _ => .next h
  · exact .next h

theorem execLinkFrameSend (h : s.alignmentOk) (l : LinkId) : Leads State.alignmentOk (execLinkFrameSend l s) := by
  unfold Machine.execLinkFrameSend
  refine Leads.ite (fun _ => .next h) fun _ => ?_
  split
  next => exact .next h
  next x rest _ =>
    have sent : (s.updLink l fun k =>
        { k with waiting := rest, sending := some (x.bytes s.wa.front) }).alignmentOk :=
      h.updLink_keeps l
    dsimp only
    split
    · exact .next (sent.updCounters l _)
    · exact .next sent

theorem execSilenceTimerExpiry (h : s.alignmentOk) (l : LinkId) :
    Leads State.alignmentOk (execSilenceTimerExpiry l s) := by
  unfold Machine.execSilenceTimerExpiry
  split
  · exact .next h
  · exact Leads.ite (fun _ => .next ((h.advance _).toOffering l _)) fun _ => .next h

theorem execBreakHoldExpiry (h : s.alignmentOk) (l : LinkId) :
    Leads State.alignmentOk (execBreakHoldExpiry l s) := by
  unfold Machine.execBreakHoldExpiry
  split
  · exact .next h
  · exact Leads.ite (fun _ => .next ((h.advance _).enterOffering l _)) fun _ => .next h

theorem execAssemblyDeadlineExpiry (h : s.alignmentOk) (seq : Seq) :
    Leads State.alignmentOk (execAssemblyDeadlineExpiry seq s) := by
  unfold Machine.execAssemblyDeadlineExpiry
  split
  · exact .next h
  · exact Leads.ite (fun _ => .next (h.advance _)) fun _ => .next h

end State.alignmentOk

end Sys2Proof.Machine
end

section
/-! Every step keeps the alignment of buffers, records and lost lists: what the taking of a window makes of it, and
that the operations outside the links and the assembler leave the assembly alone. -/

namespace Sys2Proof.Machine

/-- An assembler without its window in processing: what alignment is about. -/
def Assembler.assembly (w : Assembler) : Assembler := { w with processing := none }

@[simp] theorem Assembler.dropResults_assembly (w : Assembler) : w.dropResults.assembly = w.assembly := rfl

@[simp] theorem Assembler.withProcessing_assembly (w : Assembler) (x : Option Processing) :
    ({ w with processing := x } : Assembler).assembly = w.assembly := rfl

namespace State

/-- HALTED drops the window in processing and leaves the assembly (R148). -/
@[simp] theorem enterHalted_assembly (s : State) : s.enterHalted.wa.assembly = s.wa.assembly := by
  unfold enterHalted
  split
  · rfl
  · dsimp only
    split <;> simp

@[simp] theorem raiseEvent_assembly (e : CloseEvent) (s : State) :
    (s.raiseEvent e).wa.assembly = s.wa.assembly := by
  unfold raiseEvent
  (repeat' split) <;> simp

@[simp] theorem beginWaiting_assembly (s : State) : s.beginWaiting.wa.assembly = s.wa.assembly := by
  unfold beginWaiting
  (repeat' split) <;> simp

@[simp] theorem boundaryFalls_assembly (awaited : Bool) (s : State) :
    (s.boundaryFalls awaited).wa.assembly = s.wa.assembly := by
  unfold boundaryFalls
  dsimp only
  (repeat' split) <;> simp

@[simp] theorem pfwAsserted_assembly (s : State) : s.pfwAsserted.wa.assembly = s.wa.assembly := by
  unfold pfwAsserted
  split <;> simp

@[simp] theorem returnToNormal_assembly (s : State) : s.returnToNormal.wa.assembly = s.wa.assembly := by
  unfold returnToNormal
  dsimp only
  (repeat' split) <;> simp

@[simp] theorem pfwDeasserted_assembly (s : State) : s.pfwDeasserted.wa.assembly = s.wa.assembly := by
  unfold pfwDeasserted
  split <;> simp

@[simp] theorem saveComplete_assembly (verified : Bool) (time : TimeStamp) (s : State) :
    (s.saveComplete verified time).wa.assembly = s.wa.assembly := by
  unfold saveComplete
  dsimp only
  (repeat' split) <;> simp

@[simp] theorem verified_assembly (job : Job) (s : State) : (s.verified job).wa.assembly = s.wa.assembly := by
  unfold verified
  dsimp only
  (repeat' split) <;> simp

@[simp] theorem writeFailed_assembly (job : Job) (s : State) :
    (s.writeFailed job).wa.assembly = s.wa.assembly := by
  unfold writeFailed saveWriteFailed blockFailed slotFailed
  dsimp only
  (repeat' split) <;> simp

@[simp] theorem answerTimeSet_assembly (seconds millis : Nat) (s : State) :
    (s.answerTimeSet seconds millis).wa.assembly = s.wa.assembly := by
  unfold answerTimeSet takeSmallStep takeLargeStep
  dsimp only
  (repeat' split) <;> simp

@[simp] theorem answerReset_assembly (s : State) : s.answerReset.wa.assembly = s.wa.assembly := by
  unfold answerReset beginReset
  dsimp only
  (repeat' split) <;> simp

@[simp] theorem resumeSaved_assembly (c : SavedState) (outcome : Option SavedOutcome) (s : State) :
    (s.resumeSaved c outcome).wa.assembly = s.wa.assembly := by
  unfold resumeSaved
  dsimp only
  (repeat' split) <;> simp

@[simp] theorem loadStep_assembly (kind : ResetKind) (s : State) :
    (s.loadStep kind).wa.assembly = s.wa.assembly := by
  unfold loadStep
  dsimp only
  (repeat' split) <;> simp

@[simp] theorem process_assembly (w : Window) (s : State) : (s.process w).wa.assembly = s.wa.assembly := by
  unfold process
  simp

@[simp] theorem applyProcessing_assembly (s : State) : s.applyProcessing.wa.assembly = s.wa.assembly := by
  unfold applyProcessing
  (repeat' split) <;> simp

end State

/-! ## A window is taken -/

theorem Assembler.windowAt_seq (w : Assembler) : w.windowAt.seq = w.front := by
  unfold Assembler.windowAt
  split <;> rfl

/-- From `s` to `t` nothing joins records, buffers or lost lists. -/
structure State.Shrinks (s t : State) : Prop where
  front : t.wa.front = s.wa.front
  records : (t.wa.records.map (·.seq)).Sublist (s.wa.records.map (·.seq))
  buffers : ∀ m : LinkId, (t.wa.buffers[m]).Sublist (s.wa.buffers[m])
  lost : ∀ m : LinkId, (t.links[m]).lost.Sublist (s.links[m]).lost

namespace State.Shrinks

variable {s t u : State}

theorem refl (s : State) : s.Shrinks s := ⟨rfl, .refl _, fun _ => .refl _, fun _ => .refl _⟩

theorem trans (h : s.Shrinks t) (h' : t.Shrinks u) : s.Shrinks u where
  front := h'.front.trans h.front
  records := h'.records.trans h.records
  buffers := fun m => (h'.buffers m).trans (h.buffers m)
  lost := fun m => (h'.lost m).trans (h.lost m)

theorem updLink (s : State) (l : LinkId) {f : Link → Link} (sub : (f s.links[l]).lost.Sublist (s.links[l]).lost) :
    s.Shrinks (s.updLink l f) where
  front := rfl
  records := .refl _
  buffers := fun _ => .refl _
  lost := fun m => by
    by_cases e : m = l
    · subst e
      rwa [State.updLink_link]
    · have other : (s.updLink l f).links[m] = s.links[m] :=
        Vector.getElem_set_ne l.isLt m.isLt fun h => e (Fin.ext h.symm)
      rw [other]

theorem linkLeaves (s : State) (l : LinkId) : s.Shrinks (s.updWa (·.linkLeaves l)) where
  front := rfl
  records := s.wa.linkLeaves_records_sublist l
  buffers := fun m => by
    by_cases e : m = l
    · subst e
      have gone : (s.updWa (·.linkLeaves m)).wa.buffers[m] = [] := Vector.getElem_set_self m.isLt
      rw [gone]
      exact List.nil_sublist _
    · have other : (s.updWa (·.linkLeaves l)).wa.buffers[m] = s.wa.buffers[m] :=
        Vector.getElem_set_ne l.isLt m.isLt fun h => e (Fin.ext h.symm)
      rw [other]
  lost := fun _ => .refl _

theorem pulse (h : s.Shrinks t) (c : Condition) : s.Shrinks (t.pulse c) := ⟨h.front, h.records, h.buffers, h.lost⟩

theorem leaveUp (s : State) (l : LinkId) : s.Shrinks (s.leaveUp l) := by
  unfold State.leaveUp
  split
  · exact ((updLink s l (List.nil_sublist _)).trans (linkLeaves _ l)).pulse _
  · exact refl s

theorem enterBreaking (s : State) (l : LinkId) : s.Shrinks (s.enterBreaking l) :=
  (leaveUp s l).trans (updLink _ l (.refl _))

theorem reportTake (s : State) (q : Seq) (l : LinkId) : s.Shrinks (s.reportTake q l) := by
  unfold State.reportTake
  split
  · have reported (n : Nat) : s.Shrinks (s.updLink l fun k =>
        { k with lost := k.lost.filter (· != q), errorRun := n }) := updLink s l List.filter_sublist
    dsimp only
    split
    · exact ((reported _).pulse _).trans (enterBreaking _ l)
    · exact reported _
  · exact refl s

theorem reportTakes (s : State) (q : Seq) (ls : List LinkId) : s.Shrinks (s.reportTakes q ls) := by
  induction ls generalizing s with
  | nil => exact refl s
  | cons l rest ih => exact (reportTake s q l).trans (ih _)

end State.Shrinks

/-- After its report a link no longer holds the taken sequence in its lost list (R98, R123). -/
theorem State.reportTake_gone (s : State) (q : Seq) (l : LinkId) : q ∉ ((s.reportTake q l).links[l]).lost := by
  unfold State.reportTake
  split
  · have gone (n : Nat) : q ∉ ((s.updLink l fun k =>
        { k with lost := k.lost.filter (· != q), errorRun := n }).links[l]).lost := by
      rw [State.updLink_link]
      simp
    dsimp only
    split
    · intro h
      have kept := ((State.Shrinks.enterBreaking _ l).lost l).subset h
      exact gone ((s.links[l]).errorRun + 1) kept
    · exact gone ((s.links[l]).errorRun + 1)
  next other => exact other

theorem State.reportTakes_gone (s : State) (q : Seq) {ls : List LinkId} {l : LinkId} (hl : l ∈ ls) :
    q ∉ ((s.reportTakes q ls).links[l]).lost := by
  induction ls generalizing s with
  | nil => cases hl
  | cons m rest ih =>
    rcases List.mem_cons.1 hl with rfl | hl
    · exact fun h => s.reportTake_gone q l (((State.Shrinks.reportTakes _ q rest).lost l).subset h)
    · exact ih (s.reportTake q m) hl

namespace State.alignmentOk

variable {s t : State}

/-- Alignment where the assembly and the links stand. -/
theorem of_assembly (h : s.alignmentOk) (wa : t.wa.assembly = s.wa.assembly := by simp)
    (links : t.links = s.links := by simp) : t.alignmentOk :=
  h.congr (congrArg (fun w : Assembler => w.front) wa :) (congrArg (fun w : Assembler => w.records) wa :)
    (congrArg (fun w : Assembler => w.buffers) wa :) fun l => by rw [links]

/-- Taking the window at W keeps alignment, at W + 1, once W has been reported to all links (R98, R123). -/
theorem take (h : s.alignmentOk) (shrinks : (s.updWa Assembler.take).Shrinks t)
    (gone : ∀ l : LinkId, s.wa.front ∉ (t.links[l]).lost) : t.alignmentOk := by
  have front : t.wa.front = s.wa.front + 1 := shrinks.front
  unfold State.alignmentOk
  rw [front]
  have left : s.wa.front ∉ (s.wa.records.filter fun r => r.seq != s.wa.front).map (·.seq) := by simp
  refine ⟨.sublist (.succ (h.1.sublist (List.filter_sublist.map _)) left) shrinks.records, fun l => ?_⟩
  obtain ⟨buffered, missing, clear⟩ := h.2 l
  have taken : (s.wa.take.buffers[l]) = (s.wa.buffers[l]).filter fun b => b.seq != s.wa.front :=
    Vector.getElem_ofFn l.isLt
  have unbuffered : s.wa.front ∉ (s.wa.take.buffers[l]).map (·.seq) := by rw [taken]; simp
  have fewer : (s.wa.take.buffers[l]).Sublist s.wa.buffers[l] := taken ▸ List.filter_sublist
  have frames := shrinks.buffers l
  have kept := shrinks.lost l
  refine ⟨.sublist (.succ (buffered.sublist (fewer.map _)) unbuffered) (frames.map _),
    .succ (missing.sublist kept) (gone l), fun b hb hm => ?_⟩
  exact clear b (fewer.subset (frames.subset hb)) (kept.subset hm)

theorem execTakeWindow (h : s.alignmentOk) (applied : Bool) :
    Leads State.alignmentOk (execTakeWindow applied s) := by
  unfold Machine.execTakeWindow
  have taken : ((s.updWa Assembler.take).reportTakes s.wa.windowAt.seq (List.finRange 4)).alignmentOk := by
    rw [Assembler.windowAt_seq]
    exact h.take (.reportTakes _ _ _) fun l => State.reportTakes_gone _ _ (List.mem_finRange l)
  have processed := taken.of_assembly (State.process_assembly s.wa.windowAt _)
  dsimp only
  refine Leads.ite (fun _ => .next h) fun _ => Leads.ite (fun _ => .next taken) fun _ => .next ?_
  exact ite processed.of_assembly processed

/-! ## The change queue -/

theorem linksChanged (h : s.alignmentOk) (l : LinkId) (old new : LinkEntry) :
    (s.linksChanged l old new).alignmentOk := by
  unfold State.linksChanged
  refine ite (ite (h.enterDisabled l) h) (ite (h.enterOffering l _) ?_)
  split
  · exact h
  · exact h
  · exact h.toOffering l _

theorem adjust (h : s.alignmentOk) (old : Tables) (p : TablePart) : (s.adjust old p).alignmentOk := by
  unfold State.adjust
  split
  · exact h.linksChanged _ _ _
  · exact h.of_assembly
  · exact h.of_assembly
  · exact h.of_assembly
  · exact ite h h.of_assembly
  · exact h.of_assembly
  · exact h.of_assembly
  · exact h

theorem applyTable (h : s.alignmentOk) (p : TablePart) : (s.applyTable p).alignmentOk := by
  unfold State.applyTable
  have closed : (s.closeList .config s.closeTime .atCount (s.cm.closes (.table p))).alignmentOk := h.of_assembly
  have put := closed.same (t := State.updCm (fun m => { m with tables := s.cm.tables.put p }) _) rfl rfl
  exact ite h (of_assembly (put.adjust s.cm.tables p))

theorem applyChange (h : s.alignmentOk) (c : Change) : (s.applyChange c).alignmentOk := by
  cases c with
  | table p => exact h.applyTable p
  | preset a values => exact h.of_assembly (by simp [State.applyChange]) (by simp [State.applyChange])
  | mode target => exact h.of_assembly (by simp [State.applyChange]) (by simp [State.applyChange])
  | erase => exact h.of_assembly (by simp [State.applyChange]) (by simp [State.applyChange])

theorem walk (h : s.alignmentOk) : s.walk.alignmentOk := by
  unfold State.walk
  split
  · exact h.of_assembly
  · split
    · exact h.of_assembly
    · exact h.of_assembly
    · exact h.of_assembly
    next e rest _ _ _ =>
      have told := h.same (t := s.updCm fun m => { m with lastApplied := some e.number }) rfl rfl
      exact (told.applyChange e.change).of_assembly

theorem execWindowBoundary (h : s.alignmentOk) : Leads State.alignmentOk (execWindowBoundary s) := by
  unfold Machine.execWindowBoundary
  have ended : (s.applyProcessing.updWa fun w => { w with processing := none }).alignmentOk := h.of_assembly
  exact Leads.ite (fun _ => .next ended.walk) fun _ => Leads.ite (fun _ => .next h.walk) fun _ => .next h

/-! ## Start-up -/

theorem startLinks (h : s.alignmentOk) (ls : List LinkId) : (s.startLinks ls).alignmentOk := by
  induction ls generalizing s with
  | nil => exact h
  | cons l rest ih => exact ih (ite (h.enterOffering l _) h)

theorem cleared (s : State) : s.cleared.alignmentOk :=
  .of_empty rfl fun l => by simp [State.cleared, Link.reset]

/-- A start-up begins with nothing buffered, recorded or lost (R177). -/
theorem startUp (s : State) (kind : ResetKind) (decayed : List StoreUnit) :
    (s.startUp kind decayed).alignmentOk := by
  unfold State.startUp
  have loaded := (cleared (s.updStore fun st => decayed.foldl Store.decay st)).of_assembly
    (t := (s.updStore fun st => decayed.foldl Store.decay st).cleared.loadConfig.loadStep kind)
  exact (loaded.startLinks (List.finRange 4)).of_assembly

/-! ## Every command -/

theorem execLinkRestart (h : s.alignmentOk) : Leads State.alignmentOk (execLinkRestart s) := by
  refine Leads.serve h (fun _ => h.of_assembly) fun p _ => ?_
  unfold State.answerLinkRestart
  split
  · exact h.of_assembly
  next l _ => exact ite h.of_assembly (h.enterBreaking l).of_assembly

theorem execStoreWriteAttemptDone (h : s.alignmentOk) (result : AttemptResult) :
    Leads State.alignmentOk (execStoreWriteAttemptDone result s) := by
  unfold Machine.execStoreWriteAttemptDone
  split
  · exact .next h
  · refine Leads.ite (fun _ => .next h) fun _ => ?_
    split
    · exact .next h.of_assembly
    · exact Leads.ite (fun _ => .next h.of_assembly) fun _ => .next h.of_assembly

/-- The requests that set time, points, lock or reset leave the assembly and the links. -/
theorem execRequest (h : s.alignmentOk) {k : RequestKind} (hk : k ≠ .linkRestart) :
    Leads State.alignmentOk (s.serve k k.act) := by
  refine Leads.serve h (fun _ => h.of_assembly) fun p _ => ?_
  cases k with
  | linkRestart => exact absurd rfl hk
  | _ => exact h.of_assembly (by simp [RequestKind.act]) (by simp [RequestKind.act])

theorem exec (h : s.alignmentOk) (c : Instr) : Leads State.alignmentOk (exec c s) := by
  have plain (hc : leavesMetering c = true) : Leads State.alignmentOk (Machine.exec c s) :=
    (exec_untouched hc s).mono fun _ u => h.same u.wa u.links
  cases c with
  | powerOnReset straps u decayed => exact .next (startUp _ _ _)
  | pinReset straps u decayed => exact Leads.ite (fun _ => .next h) fun _ => .next (startUp _ _ _)
  | tkSecondsWrap => exact .next (h.advance _)
  | intervalBoundary =>
    unfold Machine.exec Machine.execIntervalBoundary
    dsimp only
    split
    · exact .next h
    next b _ =>
      exact Leads.ite (fun _ => .next h) fun _ => .next (of_assembly (h.advance (b * 1000 - s.tk.ms)))
  | closeEventBegin => exact Leads.ite (fun _ => .next h.of_assembly) fun _ => .next h
  | pfwAssert => exact Leads.ite (fun _ => .next h.of_assembly) fun _ => .next h.of_assembly
  | pfwDeassert => exact Leads.ite (fun _ => .next h.of_assembly) fun _ => .next h.of_assembly
  | byteGapExpiry => exact Leads.ite (fun _ => .next (of_assembly (h.advance (Config.byteGap + 1 - s.mlc.sinceByte)))) fun _ => .next h
  | timeSet => exact h.execRequest (k := .timeSet) (by decide)
  | linkRestart => exact h.execLinkRestart
  | pointSubstitute => exact h.execRequest (k := .pointSubstitute) (by decide)
  | pointRestore => exact h.execRequest (k := .pointRestore) (by decide)
  | lock => exact h.execRequest (k := .lock) (by decide)
  | unlock => exact h.execRequest (k := .unlock) (by decide)
  | reset => exact h.execRequest (k := .reset) (by decide)
  | softResetProceed marker decayed => exact Leads.ite (fun _ => .next h) fun _ => .next (startUp _ _ _)
  | noticeTransmit => exact Leads.ite (fun _ => .next (of_assembly (h.advance s.txTime))) fun _ => .next h
  | offerFrame l c => exact h.execOfferFrame _ _
  | acceptFrame l c => exact h.execAcceptFrame _ _
  | windowFrame l f => exact h.execWindowFrame _ _
  | invalidFrame l => exact Leads.ite (fun _ => .next (h.badFrame _ l)) fun _ => .next h
  | damagedWindow l seq => exact h.execDamagedWindow _ _
  | jabberCut l => exact h.execJabberCut _
  | jabberIdleEnd l => exact h.execJabberIdleEnd _
  | offerSendPeriod l => exact h.execOfferSendPeriod _
  | acceptSendPeriod l => exact h.execAcceptSendPeriod _
  | linkFrameSend l => exact h.execLinkFrameSend _
  | silenceTimerExpiry l => exact h.execSilenceTimerExpiry _
  | breakHoldExpiry l => exact h.execBreakHoldExpiry _
  | assemblyDeadlineExpiry seq => exact h.execAssemblyDeadlineExpiry _
  | takeWindow applied => exact h.execTakeWindow _
  | windowBoundary => exact h.execWindowBoundary
  | storeWriteAttemptDone result => exact h.execStoreWriteAttemptDone _
  | patrolStepDue => exact Leads.ite (fun _ => .next h) fun _ => .next (of_assembly (h.advance s.rsc.patrolTimer))
  | lossOfSupply u => exact Leads.ite (fun _ => .next h) fun _ => .next (cleared (s.interrupt u)).of_assembly
  | _ => exact plain rfl

end State.alignmentOk

/-- Settles O8: alignment is kept by every command and by the idle step. -/
theorem alignmentIsKept : Obligations.AlignmentIsKept := by
  intro s t h run
  unfold step at run
  split at run
  · exact (Leads.next (h.advance 1)).elim run
  next c rest _ =>
    have queued : ({ s with pending := rest } : State).alignmentOk := h.same rfl rfl
    exact (queued.exec c).elim run

end Sys2Proof.Machine
end

section
/-! What the commands leave alone while the part is HALTED or its supply monitor is not NORMAL: points, registers,
residues, open partials and the next record sequence. -/

namespace Sys2Proof.Machine

/-! ## The commands of links and clock -/

/-- From `s` to `t` points, accounts, next record sequence, supply monitor and waiting commands stand. -/
structure State.Still (s t : State) : Prop where
  points : t.points = s.points := by simp
  accounts : t.ia.accounts = s.ia.accounts := by simp
  nextSeq : t.ia.nextSeq = s.ia.nextSeq := by simp
  sm : t.sm = s.sm := by simp
  pending : t.pending = s.pending := by simp

/-- Time passes over the accounts; a wrapped count ends the next boundary alone (R31, R173). -/
@[simp] theorem State.advance_accounts (dt : Nat) (s : State) : (s.advance dt).ia.accounts = s.ia.accounts := by
  unfold State.advance
  dsimp only
  split
  · split <;> simp
  · rfl

@[simp] theorem State.advance_nextSeq (dt : Nat) (s : State) : (s.advance dt).ia.nextSeq = s.ia.nextSeq := by
  unfold State.advance
  dsimp only
  split
  · split <;> simp
  · rfl

@[simp] theorem State.advance_halted (dt : Nat) (s : State) : (s.advance dt).rsc.halted = s.rsc.halted := by
  unfold State.advance
  dsimp only
  split
  · split <;> simp
  · rfl

@[simp] theorem State.freshBoundary_accounts (s : State) : s.freshBoundary.ia.accounts = s.ia.accounts := rfl

@[simp] theorem State.freshBoundary_nextSeq (s : State) : s.freshBoundary.ia.nextSeq = s.ia.nextSeq := rfl

namespace State.Still

variable {s t u : State}

theorem refl (s : State) : s.Still s where

theorem trans (h : s.Still t) (h' : t.Still u) : s.Still u where
  points := h'.points.trans h.points
  accounts := h'.accounts.trans h.accounts
  nextSeq := h'.nextSeq.trans h.nextSeq
  sm := h'.sm.trans h.sm
  pending := h'.pending.trans h.pending

theorem execOfferFrame (l : LinkId) (c : OfferContent) (s : State) : Leads s.Still (execOfferFrame l c s) := by
  unfold Machine.execOfferFrame
  refine .ite (fun _ => .next {}) fun _ => .ite (fun _ => .next {}) fun _ => ?_
  dsimp only
  split
  · exact .next {}
  · exact .ite (fun _ => .next {}) fun _ => .next {}
  · exact .next {}
  · exact .next {}

theorem execAcceptFrame (l : LinkId) (c : AcceptContent) (s : State) : Leads s.Still (execAcceptFrame l c s) := by
  unfold Machine.execAcceptFrame
  refine .ite (fun _ => .next {}) fun _ => .ite (fun _ => .next {}) fun _ => ?_
  dsimp only
  split
  · exact .next {}
  · exact .next {}
  · exact .next {}

theorem execWindowFrame (l : LinkId) (f : WindowFrame) (s : State) : Leads s.Still (execWindowFrame l f s) := by
  unfold Machine.execWindowFrame
  refine .ite (fun _ => .next {}) fun _ => .ite (fun _ => .next {}) fun _ => ?_
  split
  · exact .next {}
  · exact .ite (fun _ => .next {}) fun _ => .next {}
  · exact .next {}

theorem execJabberIdleEnd (l : LinkId) (s : State) : Leads s.Still (execJabberIdleEnd l s) := by
  unfold Machine.execJabberIdleEnd
  split
  · exact .next {}
  · exact .ite (fun _ => .next {}) fun _ => .next {}

theorem execAcceptSendPeriod (l : LinkId) (s : State) : Leads s.Still (execAcceptSendPeriod l s) := by
  unfold Machine.execAcceptSendPeriod
  split
  · exact .ite (fun _ => .next {}) fun _ => .next {}
  · exact .next {}

theorem execLinkFrameSend (l : LinkId) (s : State) : Leads s.Still (execLinkFrameSend l s) := by
  unfold Machine.execLinkFrameSend
  refine .ite (fun _ => .next {}) fun _ => ?_
  split
  · exact .next {}
  · dsimp only
    split
    · exact .next {}
    · exact .next {}

theorem execSilenceTimerExpiry (l : LinkId) (s : State) : Leads s.Still (execSilenceTimerExpiry l s) := by
  unfold Machine.execSilenceTimerExpiry
  split
  · exact .next {}
  · exact .ite (fun _ => .next {}) fun _ => .next {}

theorem execBreakHoldExpiry (l : LinkId) (s : State) : Leads s.Still (execBreakHoldExpiry l s) := by
  unfold Machine.execBreakHoldExpiry
  split
  · exact .next {}
  · exact .ite (fun _ => .next {}) fun _ => .next {}

theorem execAssemblyDeadlineExpiry (seq : Seq) (s : State) : Leads s.Still (execAssemblyDeadlineExpiry seq s) := by
  unfold Machine.execAssemblyDeadlineExpiry
  split
  · exact .next {}
  · exact .ite (fun _ => .next {}) fun _ => .next {}

theorem execLinkRestart (s : State) : Leads s.Still (execLinkRestart s) :=
  Leads.serve (act := fun p s => s.answerLinkRestart (natAt p 0 1)) {} (fun _ => {}) fun _ _ => {}

end State.Still

/-- The commands of links and clock, and those that leave the metering path alone. -/
def leavesAccounts : Instr → Bool
  | .offerFrame .. | .acceptFrame .. | .windowFrame .. | .invalidFrame _ | .damagedWindow .. | .jabberCut _
  | .jabberIdleEnd _ | .offerSendPeriod _ | .acceptSendPeriod _ | .linkFrameSend _ | .silenceTimerExpiry _
  | .breakHoldExpiry _ | .assemblyDeadlineExpiry _ | .linkRestart => true
  | .tkSecondsWrap | .byteGapExpiry | .noticeTransmit | .patrolStepDue => true
  | c => leavesMetering c

theorem exec_still {c : Instr} (hc : leavesAccounts c = true) (s : State) : Leads s.Still (exec c s) := by
  have other (h : leavesMetering c = true) : Leads s.Still (exec c s) :=
    (exec_untouched h s).mono fun _ u => ⟨u.points, by rw [u.ia], by rw [u.ia], u.sm, u.pending⟩
  cases c with
  | offerFrame l c => exact State.Still.execOfferFrame l c s
  | acceptFrame l c => exact State.Still.execAcceptFrame l c s
  | windowFrame l f => exact State.Still.execWindowFrame l f s
  | invalidFrame l => exact .ite (fun _ => .next {}) fun _ => .next {}
  | damagedWindow l seq =>
    exact .ite (fun _ => .next {}) fun _ => .ite (fun _ => .next {}) fun _ => .ite (fun _ => .next {}) fun _ =>
      .next {}
  | jabberCut l => exact .ite (fun _ => .next {}) fun _ => .next {}
  | jabberIdleEnd l => exact State.Still.execJabberIdleEnd l s
  | offerSendPeriod l => exact .ite (fun _ => .next {}) fun _ => .next {}
  | acceptSendPeriod l => exact State.Still.execAcceptSendPeriod l s
  | linkFrameSend l => exact State.Still.execLinkFrameSend l s
  | silenceTimerExpiry l => exact State.Still.execSilenceTimerExpiry l s
  | breakHoldExpiry l => exact State.Still.execBreakHoldExpiry l s
  | assemblyDeadlineExpiry seq => exact State.Still.execAssemblyDeadlineExpiry seq s
  | linkRestart => exact State.Still.execLinkRestart s
  | tkSecondsWrap => exact .next {}
  | byteGapExpiry => exact .ite (fun _ => .next {}) fun _ => .next {}
  | noticeTransmit => exact .ite (fun _ => .next {}) fun _ => .next {}
  | patrolStepDue => exact .ite (fun _ => .next {}) fun _ => .next {}
  | _ => exact other hc

/-! ## Events while no event can begin -/

/-- From `s` to `t` no record is built, and no register, mark, residue or open partial changes. -/
structure State.Rests (s t : State) : Prop where
  nextSeq : t.ia.nextSeq = s.ia.nextSeq
  energies : ∀ a : AccountId, t.energies a = s.energies a

/-- The part is HALTED, or its supply monitor is not NORMAL: no close event begins (R34, R148). -/
def State.dormant (s : State) : Prop := s.rsc.halted = true ∨ s.sm.state ≠ .normal

theorem State.dormant.canBegin {s : State} (h : s.dormant) : s.canBegin = false := by
  unfold State.canBegin
  rcases h with h | h <;> simp [h]

namespace State.Rests

variable {s t u : State}

theorem refl (s : State) : s.Rests s := ⟨rfl, fun _ => rfl⟩

theorem trans (h : s.Rests t) (h' : t.Rests u) : s.Rests u :=
  ⟨h'.nextSeq.trans h.nextSeq, fun a => (h'.energies a).trans (h.energies a)⟩

theorem of_accounts (accounts : t.ia.accounts = s.ia.accounts := by simp)
    (nextSeq : t.ia.nextSeq = s.ia.nextSeq := by simp) : s.Rests t :=
  ⟨nextSeq, fun _ => by rw [State.energies, accounts]; rfl⟩

/-- The first step leaves the accounts as they are. -/
theorem after (h : t.Rests u) (accounts : t.ia.accounts = s.ia.accounts := by simp)
    (nextSeq : t.ia.nextSeq = s.ia.nextSeq := by simp) : s.Rests u :=
  (of_accounts accounts nextSeq).trans h

theorem ite {c : Prop} [Decidable c] (yes : c → s.Rests t) (no : ¬ c → s.Rests u) : s.Rests (if c then t else u) := by
  split
  next h => exact yes h
  next h => exact no h

/-- A change of one account that leaves its registers, its residues and its interval. -/
theorem updAccount (s : State) (a : AccountId) {f : Account → Account}
    (kept : ∀ x, (f x).regs = x.regs ∧ (f x).residues = x.residues ∧ (f x).interval = x.interval) :
    s.Rests (s.updAccount a f) := by
  refine ⟨rfl, fun b => ?_⟩
  by_cases e : b = a
  · subst e
    have self : (s.updAccount b f).ia.accounts[b] = f s.ia.accounts[b] := Vector.getElem_set_self b.isLt
    obtain ⟨regs, residues, interval⟩ := kept s.ia.accounts[b]
    rw [State.energies, State.energies, self, regs, residues, interval]
  · have other : (s.updAccount a f).ia.accounts[b] = s.ia.accounts[b] :=
      Vector.getElem_set_ne a.isLt b.isLt fun h => e (Fin.ext h.symm)
    rw [State.energies, State.energies, other]

theorem setOwed (s : State) (a : AccountId) (owed : Account → Bool) :
    s.Rests (s.updAccount a fun acc => { acc with blockOwed := owed acc }) :=
  updAccount s a fun _ => ⟨rfl, rfl, rfl⟩

theorem settleFlight (s : State) (a : AccountId) : s.Rests (s.settleFlight a) :=
  ite (fun _ => updAccount s a fun _ => ⟨rfl, rfl, rfl⟩) fun _ => refl s

theorem consume (h : s.Rests t) (f : Consumption → Consumption) : s.Rests (t.consume f) := h.trans of_accounts

/-- OUTAGE in the open intervals leaves their partials (R34). -/
theorem flagOutage (s : State) : s.Rests (s.updIa Accountant.flagOutage) := by
  refine ⟨rfl, fun a => ?_⟩
  have flagged : (s.updIa Accountant.flagOutage).ia.accounts[a] = { s.ia.accounts[a] with
      interval := (s.ia.accounts[a]).interval.map fun iv => { iv with outage := true } } :=
    Vector.getElem_ofFn a.isLt
  rw [State.energies, State.energies, flagged]
  cases (s.ia.accounts[a]).interval <;> rfl

theorem holdBoundaries (s : State) : s.Rests (s.updIa Accountant.holdBoundaries) := by
  refine of_accounts ?_ ?_
  all_goals
    rw [State.updIa_ia]
    unfold Accountant.holdBoundaries
    split <;> rfl

theorem waitEvent (s : State) (e : CloseEvent) : s.Rests (s.waitEvent e) := of_accounts rfl rfl

/-- An event that arises waits. -/
theorem raiseEvent (h : s.dormant) (e : CloseEvent) : s.Rests (s.raiseEvent e) := by
  unfold State.raiseEvent
  rw [h.canBegin]
  simpa using waitEvent s e

theorem beginWaiting (h : s.dormant) : s.Rests s.beginWaiting := by
  unfold State.beginWaiting
  rw [h.canBegin]
  split
  · exact refl s
  · exact refl s

theorem boundaryFalls (h : s.dormant) (awaited : Bool) : s.Rests (s.boundaryFalls awaited) := by
  unfold State.boundaryFalls
  split
  · exact refl s
  · refine ite (fun _ => of_accounts rfl rfl) fun running => ite (fun _ => of_accounts rfl rfl) fun normal => ?_
    exact h.elim (fun halted => absurd halted running) fun outside => absurd outside (by simpa using normal)

theorem pfwAsserted (s : State) : s.Rests s.pfwAsserted := by
  unfold State.pfwAsserted
  split
  · exact (holdBoundaries _).trans of_accounts
  · exact of_accounts

/-- In HALTED the events of the return to NORMAL wait (R148). -/
theorem returnToNormal (halted : s.rsc.halted = true) : s.Rests s.returnToNormal := by
  unfold State.returnToNormal
  dsimp only
  have flagged : s.Rests (((((s.updSm fun m => { m with state := .normal, deassertHeld := false }).updIa
      Accountant.flagOutage)).queueSave .running).giveSupply) :=
    ((of_accounts rfl rfl).trans (flagOutage _)).trans of_accounts
  have still : (((((s.updSm fun m => { m with state := .normal, deassertHeld := false }).updIa
      Accountant.flagOutage)).queueSave .running).giveSupply).rsc.halted = true := by simpa using halted
  generalize (((((s.updSm fun m => { m with state := .normal, deassertHeld := false }).updIa
      Accountant.flagOutage)).queueSave .running).giveSupply) = u at flagged still ⊢
  split
  · exact flagged
  · have afresh : u.Rests (u.updIa fun ia => { ia with pendingBoundary := none }).freshBoundary :=
      of_accounts rfl rfl
    have dormant : (u.updIa fun ia => { ia with pendingBoundary := none }).freshBoundary.dormant := .inl still
    split
    · exact flagged.trans afresh
    · exact (flagged.trans afresh).trans (raiseEvent dormant _)

end State.Rests

/-- The return to NORMAL ends in NORMAL (R175). -/
@[simp] theorem State.returnToNormal_normal (s : State) : s.returnToNormal.sm.state = .normal := by
  unfold State.returnToNormal
  dsimp only
  (repeat' split) <;> simp

/-- From `s` to `t`, while the part is HALTED, no point changes; and while it is, or the supply monitor is not
NORMAL at the end either, the energies rest. -/
structure State.Sleeps (s t : State) : Prop where
  points : s.rsc.halted = true → t.points = s.points
  rests : s.rsc.halted = true ∨ t.sm.state ≠ .normal → s.Rests t

namespace State.Sleeps

variable {s t u : State}

theorem of_rests (h : s.Rests t) (points : t.points = s.points := by simp) : s.Sleeps t :=
  ⟨fun _ => points, fun _ => h⟩

theorem refl (s : State) : s.Sleeps s := of_rests (.refl s)

/-- The first step leaves the accounts, the points and HALTED as they are. -/
theorem after (h : t.Sleeps u) (accounts : t.ia.accounts = s.ia.accounts := by simp)
    (nextSeq : t.ia.nextSeq = s.ia.nextSeq := by simp) (points : t.points = s.points := by simp)
    (halted : t.rsc.halted = s.rsc.halted := by simp) : s.Sleeps u :=
  ⟨fun x => (h.points (halted ▸ x)).trans points, fun d => .after (h.rests (halted ▸ d)) accounts nextSeq⟩

theorem returnToNormal (s : State) : s.Sleeps s.returnToNormal :=
  ⟨fun _ => by simp, fun d => .returnToNormal (d.resolve_right (by simp))⟩

theorem pfwDeasserted (s : State) : s.Sleeps s.pfwDeasserted := by
  unfold State.pfwDeasserted
  split
  · exact refl s
  · exact of_rests .of_accounts
  · exact returnToNormal s

theorem saveComplete (s : State) (verified : Bool) (time : TimeStamp) : s.Sleeps (s.saveComplete verified time) := by
  unfold State.saveComplete
  dsimp only
  split
  · split
    · exact after (returnToNormal _)
    · exact of_rests .of_accounts
  · exact of_rests .of_accounts

theorem verified (s : State) (job : Job) : s.Sleeps (s.verified job) := by
  unfold State.verified
  dsimp only
  split
  · split
    · exact of_rests .of_accounts
    · exact after (saveComplete _ _ _)
  · exact of_rests (.after (.consume (.trans (.setOwed _ _ _) (.settleFlight _ _)) _))
  · exact of_rests (.after ((State.Rests.settleFlight _ _).consume _))
  · exact of_rests .of_accounts

theorem writeFailed (s : State) (job : Job) : s.Sleeps (s.writeFailed job) := by
  unfold State.writeFailed
  split
  · unfold State.saveWriteFailed
    dsimp only
    split
    · exact of_rests .of_accounts
    · exact after (saveComplete _ _ _) (halted := rfl)
  · exact of_rests .of_accounts
  · exact of_rests .of_accounts
  · exact of_rests .of_accounts
  · exact refl s

theorem execStoreWriteAttemptDone (s : State) (result : AttemptResult) :
    Leads s.Sleeps (execStoreWriteAttemptDone result s) := by
  unfold Machine.execStoreWriteAttemptDone
  split
  · exact .next (refl s)
  · refine Leads.ite (fun _ => .next (refl s)) fun _ => ?_
    split
    · exact .next (verified s _)
    · exact Leads.ite (fun _ => .next (of_rests .of_accounts)) fun _ =>
        .next (after (writeFailed _ _))

theorem execTakeWindow (s : State) (dormant : s.dormant) (applied : Bool) :
    Leads s.Sleeps (execTakeWindow applied s) := by
  unfold Machine.execTakeWindow
  dsimp only
  refine Leads.ite (fun _ => .next (refl s)) fun _ => Leads.ite (fun _ => .next (of_rests .of_accounts))
    fun awake => absurd awake ?_
  rcases dormant with h | h <;> simp [h]

/-- Outside NORMAL the walk stops at its first entry (R158). -/
theorem walk (s : State) (dormant : s.dormant) : s.Sleeps s.walk := by
  unfold State.walk
  have stops (c : Change) : s.walkVerdict c = .stops .supply := by
    unfold State.walkVerdict
    rcases dormant with h | h <;> simp [h]
  split
  · exact of_rests .of_accounts
  · rw [stops]
    exact of_rests .of_accounts

theorem applyProcessing_of_dormant (s : State) (dormant : s.dormant) : s.applyProcessing = s := by
  unfold State.applyProcessing
  split
  · rfl
  · rcases dormant with h | h <;> simp [h]

theorem execWindowBoundary (s : State) (dormant : s.dormant) : Leads s.Sleeps (execWindowBoundary s) := by
  unfold Machine.execWindowBoundary
  rw [applyProcessing_of_dormant s dormant]
  exact Leads.ite (fun _ => .next (after (walk _ dormant))) fun _ =>
    Leads.ite (fun _ => .next (walk s dormant)) fun _ => .next (refl s)

theorem execIntervalBoundary (s : State) (dormant : s.dormant) : Leads s.Sleeps (execIntervalBoundary s) := by
  unfold Machine.execIntervalBoundary
  split
  · exact .next (refl s)
  · refine Leads.ite (fun _ => .next (refl s)) fun _ => .next ?_
    exact of_rests (.after (.boundaryFalls (by simpa [State.dormant] using dormant) _))

/-- A small step lets a boundary fall, which is held or passed by; a large step is barred, or closes nothing in
COMMISSIONING (R174). -/
theorem answerTimeSet (s : State) (dormant : s.dormant) (seconds millis : Nat) :
    s.Sleeps (s.answerTimeSet seconds millis) := by
  have set : (s.setTime seconds millis).dormant := by simpa [State.dormant] using dormant
  have small : s.Rests (s.takeSmallStep seconds millis) := by
    unfold State.takeSmallStep
    dsimp only
    split
    · exact .of_accounts
    · split
      · exact .of_accounts
      · exact .ite (fun _ => .after (.boundaryFalls set _)) fun _ => .of_accounts
  have large (free : ¬ s.barsLargeStep = true) : s.Rests (s.takeLargeStep seconds millis) := by
    have mode : s.cm.mode ≠ .metering := fun metering => free (by
      unfold State.barsLargeStep
      rcases dormant with h | h <;> simp [metering, h])
    unfold State.takeLargeStep
    simp only [State.setTime_frame, mode, false_and, if_false]
    exact .of_accounts
  refine of_rests ?_
  unfold State.answerTimeSet
  exact .ite (fun _ => .of_accounts) fun _ => .ite (fun _ => small.trans .of_accounts) fun _ =>
    .ite (fun _ => .of_accounts) fun free => (large free).trans .of_accounts

theorem answerReset (s : State) (dormant : s.dormant) : s.Sleeps s.answerReset := by
  refine of_rests ?_
  unfold State.answerReset
  refine .ite (fun _ => .of_accounts) fun taken => .ite (fun _ => .of_accounts) fun running => absurd taken ?_
  have awake : s.rsc.halted = false := by simpa using running
  simpa [awake] using dormant.resolve_left (by simp [awake])

end State.Sleeps

/-- What a command that is no restart leaves while no close event can begin. -/
theorem exec_sleeps {c : Instr} {s : State} (dormant : s.dormant) (hc : restarts c = false) :
    Leads s.Sleeps (exec c s) := by
  have other (h : leavesAccounts c = true) : Leads s.Sleeps (exec c s) :=
    (exec_still h s).mono fun _ u => .of_rests (.of_accounts u.accounts u.nextSeq) u.points
  cases c with
  | powerOnReset straps u decayed => cases hc
  | pinReset straps u decayed => cases hc
  | softResetProceed marker decayed => cases hc
  | lossOfSupply u => cases hc
  | intervalBoundary => exact State.Sleeps.execIntervalBoundary s dormant
  | closeEventBegin =>
    exact .ite (fun _ => .next (.of_rests (.beginWaiting dormant))) fun _ => .next (.refl s)
  | pfwAssert =>
    exact .ite (fun _ => .next (.of_rests (.after (.pfwAsserted _)))) fun _ =>
      .next (.of_rests (.of_accounts rfl rfl))
  | pfwDeassert =>
    exact .ite (fun _ => .next (.after (.pfwDeasserted _))) fun _ =>
      .next (.of_rests (.of_accounts rfl rfl))
  | timeSet =>
    exact Leads.serve (act := fun p s => s.answerTimeSet (natAt p 0 4) (natAt p 4 2)) (.refl s)
      (fun _ => .of_rests .of_accounts) fun _ _ => State.Sleeps.answerTimeSet s dormant _ _
  | pointSubstitute =>
    exact Leads.serve (act := fun p s => s.answerPointSubstitute (natAt p 0 1)) (.refl s)
      (fun _ => .of_rests .of_accounts) fun _ served =>
        ⟨fun halted => absurd (served halted) (by decide), fun _ => .of_accounts⟩
  | pointRestore =>
    exact Leads.serve (act := fun p s => s.answerPointRestore (natAt p 0 1)) (.refl s)
      (fun _ => .of_rests .of_accounts) fun _ served =>
        ⟨fun halted => absurd (served halted) (by decide), fun _ => .of_accounts⟩
  | lock =>
    exact Leads.serve (act := fun _ s => s.answerLock) (.refl s)
      (fun _ => .of_rests .of_accounts) fun _ _ => .of_rests .of_accounts
  | unlock =>
    exact Leads.serve (act := fun _ s => s.answerUnlock) (.refl s)
      (fun _ => .of_rests .of_accounts) fun _ _ => .of_rests .of_accounts
  | reset =>
    exact Leads.serve (act := fun _ s => s.answerReset) (.refl s)
      (fun _ => .of_rests .of_accounts) fun _ _ => State.Sleeps.answerReset s dormant
  | takeWindow applied => exact State.Sleeps.execTakeWindow s dormant applied
  | windowBoundary => exact State.Sleeps.execWindowBoundary s dormant
  | storeWriteAttemptDone result => exact State.Sleeps.execStoreWriteAttemptDone s result
  | _ => exact other rfl

/-- Settles O10: in HALTED every command but a restart sleeps. -/
theorem haltedKeepsAccountsAndPoints : Obligations.HaltedKeepsAccountsAndPoints := by
  intro c s t halted running run
  have sleeps := (exec_sleeps (.inl halted) running).elim run
  obtain ⟨nextSeq, energies⟩ := sleeps.rests (.inl halted)
  exact ⟨sleeps.points halted, nextSeq, energies⟩

/-- Settles O11: outside NORMAL every command but a restart sleeps, or ends in NORMAL. -/
theorem noCloseOutsideNormal : Obligations.NoCloseOutsideNormal := by
  intro c s t outside stays running run
  obtain ⟨nextSeq, energies⟩ := ((exec_sleeps (.inr outside) running).elim run).rests (.inr stays)
  exact ⟨nextSeq, energies⟩

end Sys2Proof.Machine
end

section
/-! Time that passes, what every command leaves in the queue, the reset state, and the supply (chapters 1, 9). -/

namespace Sys2Proof.Machine

/-- Settles O1: it is how a step is defined. -/
theorem stepRunsTheFrontCommand : Obligations.StepRunsTheFrontCommand := fun _ _ _ => rfl

/-! ## Time -/

/-- Away from its limit the count moves by the time that passes (R168). -/
theorem Timekeeper.advance_of_lt {t : Timekeeper} {dt : Nat} (below : t.seconds * 1000 + t.millis + dt < 4294967296000) :
    t.advance dt = { t with
      seconds := (t.seconds * 1000 + t.millis + dt) / 1000, millis := (t.seconds * 1000 + t.millis + dt) % 1000 } := by
  have sec : (t.seconds * 1000 + t.millis + dt) / 1000 < 4294967296 := by omega
  have small : (t.seconds * 1000 + t.millis + dt) / 1000 ≤ u32Max := by simp only [u32Max]; omega
  have mod : (t.seconds * 1000 + t.millis + dt) / 1000 % (u32Max + 1) = (t.seconds * 1000 + t.millis + dt) / 1000 :=
    Nat.mod_eq_of_lt (by simp only [u32Max]; omega)
  simp [Timekeeper.advance, mod, small]

@[simp] theorem State.advance_tk (dt : Nat) (s : State) : (s.advance dt).tk = s.tk.advance dt := by
  unfold State.advance
  dsimp only
  split
  · split <;> simp
  · rfl

/-- A powered part after some time in which the count does not wrap. -/
theorem State.advance_of_valid {s : State} {dt : Nat} (powered : s.powered = true)
    (valid : (s.tk.advance dt).valid = s.tk.valid) :
    s.advance dt = { s with
      tk := s.tk.advance dt, timeBase := s.timeBase + dt
      links := Vector.ofFn fun l => (s.links[l]).advance dt
      rsc := { s.rsc with patrolTimer := s.rsc.patrolTimer - dt }
      mlc := s.mlc.advance s.straps.rate dt } := by
  unfold State.advance
  simp [powered, valid]

/-- Settles O2: the idle step is the advance by 1 ms. -/
theorem idleStepIsOneMillisecond : Obligations.IdleStepIsOneMillisecond := by
  intro s idle powered millis below
  have tk := Timekeeper.advance_of_lt below
  have moved := State.advance_of_valid powered (dt := 1) (by rw [tk])
  refine ⟨s.advance 1, by simp [step, idle], ?_, ?_, ?_, ?_, fun l => ?_⟩
  · rw [moved]
  · rw [moved, tk]
  · rw [moved, tk]
    dsimp only
    omega
  · rw [moved, tk]
    exact Nat.mod_lt _ (by decide)
  · rw [moved]
    exact Vector.getElem_ofFn l.isLt

/-! ## The queue of commands -/

theorem Leads.exists {P : State → Prop} {o : Host.Outcome State Fault Refusal} (h : Leads P o) :
    ∃ t, o = .next t ∧ P t := by
  obtain ⟨h⟩ := h
  exact ⟨_, rfl, h⟩

/-- From `s` to `t` the queue of commands stands. -/
structure State.QueueStands (s t : State) : Prop where
  pending : t.pending = s.pending := by simp

@[simp] theorem State.cleared_pending (s : State) : s.cleared.pending = s.pending := rfl

@[simp] theorem State.startUp_pending (kind : ResetKind) (decayed : List StoreUnit) (s : State) :
    (s.startUp kind decayed).pending = s.pending := by
  simp [State.startUp]

namespace State.QueueStands

theorem execIntervalBoundary (s : State) : Leads s.QueueStands (execIntervalBoundary s) := by
  unfold Machine.execIntervalBoundary
  split
  · exact .next {}
  · exact .ite (fun _ => .next {}) fun _ => .next {}

theorem execStoreWriteAttemptDone (result : AttemptResult) (s : State) :
    Leads s.QueueStands (execStoreWriteAttemptDone result s) := by
  unfold Machine.execStoreWriteAttemptDone
  split
  · exact .next {}
  · refine .ite (fun _ => .next {}) fun _ => ?_
    split
    · exact .next {}
    · exact .ite (fun _ => .next {}) fun _ => .next {}

theorem execTakeWindow (applied : Bool) (s : State) : Leads s.QueueStands (execTakeWindow applied s) := by
  unfold Machine.execTakeWindow
  refine .ite (fun _ => .next {}) fun _ => .ite (fun _ => .next {}) fun _ => .next ⟨?_⟩
  split <;> simp

theorem execSoftResetProceed (marker : AttemptResult) (decayed : List StoreUnit) (s : State) :
    Leads s.QueueStands (execSoftResetProceed marker decayed s) := by
  refine .ite (fun _ => .next {}) fun _ => .next ⟨?_⟩
  split <;> simp

end State.QueueStands

theorem exec_queueStands (c : Instr) (s : State) : Leads s.QueueStands (exec c s) := by
  have other (h : leavesAccounts c = true) : Leads s.QueueStands (exec c s) :=
    (exec_still h s).mono fun _ u => ⟨u.pending⟩
  have request (k : RequestKind) (acts : ∀ p, (k.act p s).pending = s.pending) :
      Leads s.QueueStands (s.serve k k.act) :=
    .serve {} (fun _ => {}) fun p _ => ⟨acts p⟩
  cases c with
  | powerOnReset straps left decayed => exact .next ⟨by simp⟩
  | pinReset straps left decayed => exact .ite (fun _ => .next {}) fun _ => .next ⟨by simp⟩
  | softResetProceed marker decayed => exact State.QueueStands.execSoftResetProceed marker decayed s
  | lossOfSupply left => exact .ite (fun _ => .next {}) fun _ => .next {}
  | intervalBoundary => exact State.QueueStands.execIntervalBoundary s
  | closeEventBegin => exact .ite (fun _ => .next {}) fun _ => .next {}
  | pfwAssert => exact .ite (fun _ => .next {}) fun _ => .next {}
  | pfwDeassert => exact .ite (fun _ => .next {}) fun _ => .next {}
  | timeSet => exact request .timeSet fun _ => by simp [RequestKind.act]
  | pointSubstitute => exact request .pointSubstitute fun _ => by simp [RequestKind.act]
  | pointRestore => exact request .pointRestore fun _ => by simp [RequestKind.act]
  | lock => exact request .lock fun _ => by simp [RequestKind.act]
  | unlock => exact request .unlock fun _ => by simp [RequestKind.act]
  | reset => exact request .reset fun _ => by simp [RequestKind.act]
  | takeWindow applied => exact State.QueueStands.execTakeWindow applied s
  | windowBoundary => exact .ite (fun _ => .next {}) fun _ => .ite (fun _ => .next {}) fun _ => .next {}
  | storeWriteAttemptDone result => exact State.QueueStands.execStoreWriteAttemptDone result s
  | _ => exact other rfl

/-- Settles O3: every command leads to a next state in which the queue stands. -/
theorem everyCommandGoesOn : Obligations.EveryCommandGoesOn := fun c s => by
  obtain ⟨t, run, ⟨stands⟩⟩ := (exec_queueStands c s).exists
  exact ⟨t, run, stands⟩

/-! ## Supply -/

/-- What a running write leaves in the store where it is cut off (R131). -/
theorem State.interrupt_store (left : UnitLeft) (s : State) :
    (s.interrupt left).store = match s.rsc.running with
      | none => s.store
      | some j => s.store.leave left j.job := by
  cases running : s.rsc.running <;> simp only [State.interrupt, running] <;> rfl

/-- Settles O21: the loss of the supply discards the working state over the store that the interrupted write
left. -/
theorem supplyLossAndOscillatorStop : Obligations.SupplyLossAndOscillatorStop := by
  intro left s
  refine ⟨fun powered => ?_, fun unpowered => by simp [exec, execOscillatorStop, unpowered],
    fun powered => by simp [exec, execOscillatorStop, powered]⟩
  have store := s.interrupt_store left
  refine ⟨{ (s.interrupt left).cleared with powered := false }, by simp [exec, execLossOfSupply, powered], rfl,
    ?_, ?_, ?_, fun none => ?_, fun untouched => ?_, fun j running => ?_⟩
  · exact (by simp : (s.interrupt left).tk = s.tk)
  · exact (by simp : (s.interrupt left).pfw = s.pfw)
  · exact (by simp : (s.interrupt left).straps = s.straps)
  · rwa [none] at store
  · subst untouched
    refine store.trans ?_
    split <;> rfl
  · rwa [running] at store

/-! ## The seconds count -/

/-- The count that passes its limit begins again at 0, and time is INVALID (R168). -/
theorem Timekeeper.advance_wrap {t : Timekeeper} (seconds : t.seconds ≤ 4294967295) (millis : t.millis < 1000) :
    t.advance ((u32Max + 1) * 1000 - t.ms) = { t with seconds := 0, millis := 0, valid := false } := by
  have total : t.seconds * 1000 + t.millis + ((u32Max + 1) * 1000 - t.ms) = 4294967296000 := by
    simp only [Timekeeper.ms, u32Max]
    omega
  unfold Timekeeper.advance
  rw [total]
  norm_num [u32Max]

/-- Settles O22: the advance to the wrap, over each supply. -/
theorem secondsWrap : Obligations.SecondsWrap := by
  intro s seconds millis
  have wrapped := Timekeeper.advance_wrap seconds millis
  refine ⟨_, rfl, ?_, by simp, by simp, by simp, by simp, fun unpowered => ?_, fun powered valid => ?_⟩
  · rw [State.advance_tk, wrapped]
  · simp [State.advance, unpowered]
  · simp [State.advance, powered, valid, wrapped, State.giveTimeInvalid, State.level, Condition.idx]

/-! ## The reset state -/

set_option maxRecDepth 20000 in
/-- A power-on over the blank store, with the straps low, evaluates to the reset state. -/
theorem exec_powerOnReset_reset :
    exec (.powerOnReset Straps.low .untouched []) State.reset = .next State.reset := by
  rfl

theorem State.reset_capacitiesOk : State.reset.capacitiesOk := by
  unfold State.capacitiesOk
  decide

theorem State.reset_residuesOk : State.reset.residuesOk := by
  have zero : residuesBelow (Vector.replicate 24 0) :=
    Vector.forall_replicate (P := (· < Config.energyUnit)) (by decide)
  have lost (a : AccountId) : residuesBelow (RegContent.lost a).residues := zero
  refine ⟨?_, ?_, ?_, trivial, trivial, ?_, ?_, fun _ h => nomatch h⟩
  · exact Vector.forall_replicate (P := fun x : Account => residuesBelow x.residues) zero
  · exact Vector.forall_ofFn (P := fun x : RegContent => residuesBelow x.residues) lost
  · intro c hc
    obtain ⟨a, rfl⟩ := List.mem_ofFn.1 hc
    exact lost a
  · exact Vector.forall_replicate (P := blockResiduesOk) trivial
  · exact Vector.forall_replicate (P := blockResiduesOk) trivial

theorem State.reset_countsOk : State.reset.countsOk := by
  refine ⟨fun a iv h => ?_, fun _ h => (nomatch h), trivial, trivial, fun _ h => (nomatch h), fun _ h => (nomatch h)⟩
  have none : (State.reset.ia.accounts[a]).interval = none :=
    Vector.forall_replicate (P := fun x : Account => x.interval = none) rfl a
  rw [none] at h
  cases h

theorem State.reset_alignmentOk : State.reset.alignmentOk :=
  .of_empty rfl fun l => Vector.forall_replicate (P := fun k : Link => k.lost = []) rfl l

/-- Settles O4: nothing is queued, buffered or stored at reset, and the power-on gives the same state. -/
theorem stateAtReset : Obligations.StateAtReset :=
  ⟨State.reset_capacitiesOk, fun h => absurd rfl h, ⟨rfl, trivial, trivial⟩, State.reset_residuesOk,
    State.reset_countsOk, State.reset_alignmentOk, exec_powerOnReset_reset⟩

end Sys2Proof.Machine
end

section
/-! The energy of a window in the registers of an account, and the register at a close (chapters 1.6, 1.7, 2). -/

namespace Sys2Proof.Machine

/-! ## One register -/

/-- In `x` register `i` of an account with interval `iv` and these residues has received the energy of a net value
of this magnitude (R18, R30). -/
structure Fed (duration : Nat) (iv : Interval) (residues : Vector Nat 24) (i : Fin 24) (magnitude : Nat)
    (x : Interval × Vector Nat 24) : Prop where
  residue : x.2[i] = (magnitude * duration + residues[i]) % 3600000000
  within : iv.partials[i.castSucc] + (magnitude * duration + residues[i]) / 3600000000 ≤ 18446744073709551615 →
    x.1.partials[i.castSucc] = iv.partials[i.castSucc] + (magnitude * duration + residues[i]) / 3600000000 ∧
      x.1.clamped[i.castSucc] = iv.clamped[i.castSucc]
  cut : 18446744073709551615 < iv.partials[i.castSucc] + (magnitude * duration + residues[i]) / 3600000000 →
    x.1.partials[i.castSucc] = 18446744073709551615 ∧ x.1.clamped[i.castSucc] = true

/-- In `x` register `i` has its partial, its cut mark and its residue as they were. -/
structure Kept (iv : Interval) (residues : Vector Nat 24) (i : Fin 24) (x : Interval × Vector Nat 24) : Prop where
  residue : x.2[i] = residues[i]
  partials : x.1.partials[i.castSucc] = iv.partials[i.castSucc]
  clamped : x.1.clamped[i.castSucc] = iv.clamped[i.castSucc]

section
variable {duration : Nat} {iv : Interval} {residues : Vector Nat 24}

theorem applyEnergy_fed (i : Fin 24) (n : Nat) :
    Fed duration iv residues i n (applyEnergy duration iv residues (i, n)) where
  residue := Vector.getElem_set_self i.isLt
  within := fun fits => by
    have uncut : ¬ u64Max < iv.partials[i.castSucc] + energyTotal n duration residues[i] / Config.energyUnit := by
      simpa [u64Max, energyTotal, Config.energyUnit] using fits
    refine ⟨(Vector.getElem_set_self i.castSucc.isLt).trans (Nat.min_eq_left (Nat.le_of_not_lt uncut)), ?_⟩
    show (ite _ _ _ : Vector Bool 25)[i.castSucc] = _
    rw [if_neg uncut]
  cut := fun above => by
    have cut : u64Max < iv.partials[i.castSucc] + energyTotal n duration residues[i] / Config.energyUnit := by
      simpa [u64Max, energyTotal, Config.energyUnit] using above
    refine ⟨(Vector.getElem_set_self i.castSucc.isLt).trans (Nat.min_eq_right (Nat.le_of_lt cut)), ?_⟩
    show (ite _ _ _ : Vector Bool 25)[i.castSucc] = _
    rw [if_pos cut]
    exact Vector.getElem_set_self i.castSucc.isLt

/-- A register that is not the chosen one keeps its partial and its cut mark; XQ is among them. -/
theorem applyEnergy_partials_other (c : Fin 24 × Nat) {j : Fin 25} (other : j ≠ c.1.castSucc) :
    (applyEnergy duration iv residues c).1.partials[j] = iv.partials[j] ∧
      (applyEnergy duration iv residues c).1.clamped[j] = iv.clamped[j] := by
  have ne : c.1.castSucc.val ≠ j.val := fun h => other (Fin.ext h.symm)
  refine ⟨Vector.getElem_set_ne c.1.castSucc.isLt j.isLt ne, ?_⟩
  unfold applyEnergy
  dsimp only
  split
  · exact Vector.getElem_set_ne c.1.castSucc.isLt j.isLt ne
  · rfl

theorem applyEnergy_kept {c : Fin 24 × Nat} {j : Fin 24} (other : j ≠ c.1) :
    Kept iv residues j (applyEnergy duration iv residues c) := by
  obtain ⟨partials, clamped⟩ := applyEnergy_partials_other (duration := duration) (iv := iv) (residues := residues) c
    (j := j.castSucc) fun h => other (Fin.castSucc_injective _ h)
  exact ⟨Vector.getElem_set_ne c.1.isLt j.isLt fun h => other (Fin.ext h.symm), partials, clamped⟩

end

/-! ## All registers -/

/-- A register that no chosen value names is kept. -/
theorem applyAll_kept {duration : Nat} {l : List (Fin 24 × Nat)} {i : Fin 24} (unnamed : i ∉ l.map (·.1))
    (x : Interval × Vector Nat 24) : Kept x.1 x.2 i (applyAll duration l x) := by
  induction l generalizing x with
  | nil => exact ⟨rfl, rfl, rfl⟩
  | cons c rest ih =>
    obtain ⟨other, later⟩ := not_or.1 (mt List.mem_cons.2 unnamed)
    obtain ⟨r1, p1, c1⟩ := applyEnergy_kept (duration := duration) (iv := x.1) (residues := x.2) other
    obtain ⟨r2, p2, c2⟩ := ih later (applyEnergy duration x.1 x.2 c)
    exact ⟨r2.trans r1, p2.trans p1, c2.trans c1⟩

/-- A register that exactly one chosen value names receives it. -/
theorem applyAll_fed {duration : Nat} {l : List (Fin 24 × Nat)} (distinct : (l.map (·.1)).Nodup) {i : Fin 24}
    {n : Nat} (named : (i, n) ∈ l) (x : Interval × Vector Nat 24) :
    Fed duration x.1 x.2 i n (applyAll duration l x) := by
  induction l generalizing x with
  | nil => cases named
  | cons c rest ih =>
    obtain ⟨alone, later⟩ := List.nodup_cons.1 distinct
    rcases List.mem_cons.1 named with rfl | named
    · obtain ⟨r1, w1, o1⟩ := applyEnergy_fed (duration := duration) (iv := x.1) (residues := x.2) i n
      obtain ⟨r2, p2, c2⟩ := applyAll_kept (duration := duration) alone (applyEnergy duration x.1 x.2 (i, n))
      exact ⟨r2.trans r1, fun h => ⟨p2.trans (w1 h).1, c2.trans (w1 h).2⟩,
        fun h => ⟨p2.trans (o1 h).1, c2.trans (o1 h).2⟩⟩
    · have other : i ≠ c.1 := fun e => alone (List.mem_map.2 ⟨_, named, e⟩)
      obtain ⟨r1, p1, c1⟩ := applyEnergy_kept (duration := duration) (iv := x.1) (residues := x.2) other
      obtain ⟨r2, w2, o2⟩ := ih later named (applyEnergy duration x.1 x.2 c)
      rw [p1, r1] at w2 o2
      rw [r1] at r2
      exact ⟨r2, fun h => ⟨(w2 h).1, (w2 h).2.trans c1⟩, o2⟩

/-- The energy of a window changes partials and cut marks of an interval alone, and XQ among them not (R38). -/
theorem applyAll_interval (duration : Nat) (l : List (Fin 24 × Nat)) (x : Interval × Vector Nat 24) :
    (applyAll duration l x).1 = { x.1 with
      partials := (applyAll duration l x).1.partials, clamped := (applyAll duration l x).1.clamped } ∧
    (applyAll duration l x).1.partials[24] = x.1.partials[24] ∧
    (applyAll duration l x).1.clamped[24] = x.1.clamped[24] := by
  induction l generalizing x with
  | nil => exact ⟨rfl, rfl, rfl⟩
  | cons c rest ih =>
    obtain ⟨same, partials, clamped⟩ := ih (applyEnergy duration x.1 x.2 c)
    have xq := applyEnergy_partials_other (duration := duration) (iv := x.1) (residues := x.2) c (j := 24)
      (Fin.ne_of_val_ne (by have := c.1.isLt; simp; omega))
    exact ⟨same, partials.trans xq.1, clamped.trans xq.2⟩

/-! ## The chosen registers -/

section
variable {bands : Vector (Option Band) 8} {v : PointVector}

/-- The three chosen values that do not belong to a band (R14, R15). -/
def plainChosen (v : PointVector) : List (Fin 24 × Nat) :=
  [(if 0 ≤ v.p1 then 0 else 1, v.p1.natAbs), (quadrant v.p1 v.q1, v.q1.natAbs),
    (if 0 ≤ v.qh then 6 else 7, v.qh.natAbs)]

/-- The chosen value of a band, if it is configured (R21). -/
def bandChosen (bands : Vector (Option Band) 8) (v : PointVector) (b : BandId) : Option (Fin 24 × Nat) :=
  match bands[b] with
  | none => none
  | some _ => some (⟨(if 0 ≤ v.pb[b] then 8 else 16) + b.val, by split <;> omega⟩, (v.pb[b]).natAbs)

theorem chosen_eq (bands : Vector (Option Band) 8) (v : PointVector) :
    chosen bands v = plainChosen v ++ (List.finRange 8).filterMap (bandChosen bands v) := rfl

theorem bandChosen_eq_some {b : BandId} {c : Fin 24 × Nat} : bandChosen bands v b = some c ↔
    bands[b] ≠ none ∧ c.2 = (v.pb[b]).natAbs ∧ c.1.val = (if 0 ≤ v.pb[b] then 8 else 16) + b.val := by
  unfold bandChosen
  split
  next none => simp [none]
  next e some =>
    rw [some]
    constructor
    · rintro ⟨⟩
      exact ⟨by simp, rfl, rfl⟩
    · rintro ⟨-, h2, h1⟩
      exact congrArg Option.some (Prod.ext (Fin.ext h1.symm) h2.symm)

theorem plainChosen_lt {c : Fin 24 × Nat} (h : c ∈ plainChosen v) : c.1.val < 8 := by
  unfold plainChosen quadrant at h
  simp only [List.mem_cons, List.not_mem_nil, or_false] at h
  rcases h with rfl | rfl | rfl
  · dsimp only; split <;> decide
  · dsimp only; split <;> split <;> decide
  · dsimp only; split <;> decide

theorem plainChosen_nodup : ((plainChosen v).map (·.1)).Nodup := by
  unfold plainChosen quadrant
  simp only [List.map_cons, List.map_nil]
  split <;> split <;> split <;> (try split) <;> decide

theorem bandChosen_ge {b : BandId} {c : Fin 24 × Nat} (h : bandChosen bands v b = some c) : 8 ≤ c.1.val := by
  obtain ⟨-, -, h⟩ := bandChosen_eq_some.1 h
  split at h <;> omega

/-- Two bands choose two registers. -/
theorem bandChosen_injective {a b : BandId} {c d : Fin 24 × Nat} (ha : bandChosen bands v a = some c)
    (hb : bandChosen bands v b = some d) (same : c.1 = d.1) : a = b := by
  obtain ⟨-, -, ha⟩ := bandChosen_eq_some.1 ha
  obtain ⟨-, -, hb⟩ := bandChosen_eq_some.1 hb
  rw [same] at ha
  have := a.isLt
  have := b.isLt
  refine Fin.ext ?_
  split at ha <;> split at hb <;> omega

theorem chosen_nodup (bands : Vector (Option Band) 8) (v : PointVector) : ((chosen bands v).map (·.1)).Nodup := by
  rw [chosen_eq, List.map_append]
  refine List.nodup_append.2 ⟨plainChosen_nodup, ?_, ?_⟩
  · rw [List.map_filterMap]
    refine (List.nodup_finRange 8).filterMap fun a b i ha hb => ?_
    obtain ⟨c, hc, rfl⟩ := Option.map_eq_some_iff.1 ha
    obtain ⟨d, hd, e⟩ := Option.map_eq_some_iff.1 hb
    exact bandChosen_injective hc hd e.symm
  · intro i hi j hj e
    obtain ⟨c, hc, rfl⟩ := List.mem_map.1 hi
    obtain ⟨d, hd, rfl⟩ := List.mem_map.1 hj
    obtain ⟨b, -, hb⟩ := List.mem_filterMap.1 hd
    have low := plainChosen_lt hc
    have high := bandChosen_ge hb
    rw [e] at low
    omega

/-- A register below 8 is named by the plain values or not at all. -/
theorem chosen_unnamed_low {i : Fin 24} (low : i.val < 8) (unnamed : i ∉ (plainChosen v).map (·.1)) :
    i ∉ (chosen bands v).map (·.1) := by
  rw [chosen_eq, List.map_append, List.mem_append]
  rintro (h | h)
  · exact unnamed h
  · obtain ⟨d, hd, rfl⟩ := List.mem_map.1 h
    obtain ⟨b, -, hb⟩ := List.mem_filterMap.1 hd
    have := bandChosen_ge hb
    omega

/-- A register of a band is named by the chosen value of that band or not at all. -/
theorem chosen_unnamed_band {i : Fin 24} {b : BandId} (own : i.val = 8 + b.val ∨ i.val = 16 + b.val)
    (unnamed : ∀ n, bandChosen bands v b ≠ some (i, n)) : i ∉ (chosen bands v).map (·.1) := by
  have := b.isLt
  rw [chosen_eq, List.map_append, List.mem_append]
  rintro (h | h)
  · obtain ⟨c, hc, rfl⟩ := List.mem_map.1 h
    have := plainChosen_lt hc
    omega
  · obtain ⟨d, hd, rfl⟩ := List.mem_map.1 h
    obtain ⟨a, -, ha⟩ := List.mem_filterMap.1 hd
    have place := (bandChosen_eq_some.1 ha).2.2
    have := a.isLt
    have same : a = b := by
      refine Fin.ext ?_
      split at place <;> omega
    exact unnamed d.2 (same ▸ ha)

theorem mem_chosen_of_plain {c : Fin 24 × Nat} (h : c ∈ plainChosen v) : c ∈ chosen bands v :=
  List.mem_append_left _ h

theorem mem_chosen_of_band {b : BandId} {c : Fin 24 × Nat} (h : bandChosen bands v b = some c) : c ∈ chosen bands v :=
  List.mem_append_right _ (List.mem_filterMap.2 ⟨b, List.mem_finRange b, h⟩)

end

/-! ## A window applied to an account -/

/-- Counting a window changes counts and maps used alone. -/
theorem Interval.count_eq (map : MapId) (r : AccountWindow) (iv : Interval) :
    iv.count map r = { iv with counts := (iv.count map r).counts, maps := (iv.count map r).maps } := by
  unfold Interval.count
  split <;> rfl

theorem withMap_getLsbD (m k : MapId) (maps : Set4) :
    (withMap k maps).getLsbD m = (maps.getLsbD m || decide (m = k)) := by
  simp [withMap, Fin.ext_iff]

theorem Account.applyWindow_open {bands : Vector (Option Band) 8} {duration : Nat} {map : MapId} {r : AccountWindow}
    {acc : Account} {iv : Interval} (opened : acc.interval = some iv) :
    acc.applyWindow bands duration map r = { acc with
      interval := some (applyAll duration (chosen bands r.vector) (iv.count map r, acc.residues)).1
      residues := (applyAll duration (chosen bands r.vector) (iv.count map r, acc.residues)).2 } := by
  unfold Account.applyWindow
  rw [opened]

/-- An interval that first had counts and maps changed and then partials and cut marks. -/
theorem Interval.eq_of_two_steps {iv base x : Interval}
    (counted : base = { iv with counts := base.counts, maps := base.maps })
    (fed : x = { base with partials := x.partials, clamped := x.clamped }) :
    x = { iv with partials := x.partials, clamped := x.clamped, counts := x.counts, maps := x.maps } := by
  rw [fed, counted]

@[simp] theorem Interval.count_partials (map : MapId) (r : AccountWindow) (iv : Interval) :
    (iv.count map r).partials = iv.partials := by
  rw [Interval.count_eq]

@[simp] theorem Interval.count_clamped (map : MapId) (r : AccountWindow) (iv : Interval) :
    (iv.count map r).clamped = iv.clamped := by
  rw [Interval.count_eq]

theorem quadrant_bounds (p q : Int) : 2 ≤ (quadrant p q).val ∧ (quadrant p q).val < 6 := by
  unfold quadrant
  split <;> split <;> decide

/-- A register below 8 that is none of the three chosen ones is not named. -/
theorem plainChosen_unnamed {v : PointVector} {i : Fin 24} (hp : i ≠ if 0 ≤ v.p1 then 0 else 1)
    (hq : i ≠ quadrant v.p1 v.q1) (hh : i ≠ if 0 ≤ v.qh then 6 else 7) : i ∉ (plainChosen v).map (·.1) := by
  simp only [plainChosen, List.map_cons, List.map_nil, List.mem_cons, List.not_mem_nil, or_false]
  exact not_or.2 ⟨hp, not_or.2 ⟨hq, hh⟩⟩

section
variable {bands : Vector (Option Band) 8} {duration : Nat} {map : MapId} {r : AccountWindow} {iv : Interval}
  {residues : Vector Nat 24}

/-- What a window leaves in an OPEN account's interval and residues. -/
def applied (bands : Vector (Option Band) 8) (duration : Nat) (map : MapId) (r : AccountWindow) (iv : Interval)
    (residues : Vector Nat 24) : Interval × Vector Nat 24 :=
  applyAll duration (chosen bands r.vector) (iv.count map r, residues)

theorem applied_fed {i : Fin 24} {n : Nat} (named : (i, n) ∈ chosen bands r.vector) :
    Fed duration iv residues i n (applied bands duration map r iv residues) := by
  obtain ⟨residue, within, cut⟩ :=
    applyAll_fed (duration := duration) (chosen_nodup bands r.vector) named (iv.count map r, residues)
  rw [Interval.count_partials, Interval.count_clamped] at within
  rw [Interval.count_partials] at cut
  exact ⟨residue, within, cut⟩

theorem applied_kept {i : Fin 24} (unnamed : i ∉ (chosen bands r.vector).map (·.1)) :
    Kept iv residues i (applied bands duration map r iv residues) := by
  obtain ⟨residue, partials, clamped⟩ :=
    applyAll_kept (duration := duration) unnamed (iv.count map r, residues)
  rw [Interval.count_partials] at partials
  rw [Interval.count_clamped] at clamped
  exact ⟨residue, partials, clamped⟩

/-- Of API and APE the one that the sign of P1 chooses is fed (R14). -/
theorem applied_active :
    (0 ≤ r.vector.p1 → Fed duration iv residues 0 r.vector.p1.natAbs (applied bands duration map r iv residues) ∧
      Kept iv residues 1 (applied bands duration map r iv residues)) ∧
    (r.vector.p1 < 0 → Kept iv residues 0 (applied bands duration map r iv residues) ∧
      Fed duration iv residues 1 r.vector.p1.natAbs (applied bands duration map r iv residues)) := by
  have kept {i : Fin 24} (low : i.val < 2) (other : i ≠ if 0 ≤ r.vector.p1 then 0 else 1) :
      Kept iv residues i (applied bands duration map r iv residues) := by
    have bounds := quadrant_bounds r.vector.p1 r.vector.q1
    refine applied_kept (chosen_unnamed_low (by omega) (plainChosen_unnamed other ?_ ?_))
    · rintro rfl
      omega
    · rintro rfl
      split at low <;> simp at low
  refine ⟨fun h => ⟨applied_fed (mem_chosen_of_plain ?_), kept (by decide) ?_⟩,
    fun h => ⟨kept (by decide) ?_, applied_fed (mem_chosen_of_plain ?_)⟩⟩
  · simp [plainChosen, h]
  · simp [h]
  · simp [h]
  · simp [plainChosen, h]

/-- Of RQ1 to RQ4 the one that the quadrant chooses is fed (R14). -/
theorem applied_reactive (i : Fin 24) (place : 2 ≤ i.val ∧ i.val < 6) :
    (i = quadrant r.vector.p1 r.vector.q1 →
      Fed duration iv residues i r.vector.q1.natAbs (applied bands duration map r iv residues)) ∧
    (i ≠ quadrant r.vector.p1 r.vector.q1 → Kept iv residues i (applied bands duration map r iv residues)) := by
  refine ⟨fun h => applied_fed (mem_chosen_of_plain (by simp [plainChosen, h])), fun h =>
    applied_kept (chosen_unnamed_low (by omega) (plainChosen_unnamed ?_ h ?_))⟩
  · rintro rfl
    split at place <;> simp at place
  · rintro rfl
    split at place <;> simp at place

/-- Of HQP and HQN the one that the sign of QH chooses is fed (R15). -/
theorem applied_harmonic :
    (0 ≤ r.vector.qh → Fed duration iv residues 6 r.vector.qh.natAbs (applied bands duration map r iv residues) ∧
      Kept iv residues 7 (applied bands duration map r iv residues)) ∧
    (r.vector.qh < 0 → Kept iv residues 6 (applied bands duration map r iv residues) ∧
      Fed duration iv residues 7 r.vector.qh.natAbs (applied bands duration map r iv residues)) := by
  have kept {i : Fin 24} (place : i = 6 ∨ i = 7) (other : i ≠ if 0 ≤ r.vector.qh then 6 else 7) :
      Kept iv residues i (applied bands duration map r iv residues) := by
    have bounds := quadrant_bounds r.vector.p1 r.vector.q1
    have val : 6 ≤ i.val ∧ i.val < 8 := by rcases place with rfl | rfl <;> decide
    refine applied_kept (chosen_unnamed_low (by omega) (plainChosen_unnamed ?_ ?_ other))
    · rintro rfl
      split at val <;> simp at val
    · rintro rfl
      omega
  refine ⟨fun h => ⟨applied_fed (mem_chosen_of_plain ?_), kept (.inr rfl) ?_⟩,
    fun h => ⟨kept (.inl rfl) ?_, applied_fed (mem_chosen_of_plain ?_)⟩⟩
  · simp [plainChosen, h]
  · simp [h]
  · simp [h]
  · simp [plainChosen, h]

/-- Of the two registers of a band the one that the sign chooses is fed, if the band is configured (R21). -/
theorem applied_band (b : BandId) (inward outward : Fin 24) (hi : inward.val = 8 + b.val)
    (ho : outward.val = 16 + b.val) :
    (bands[b] = none → Kept iv residues inward (applied bands duration map r iv residues) ∧
      Kept iv residues outward (applied bands duration map r iv residues)) ∧
    (bands[b] ≠ none → 0 ≤ r.vector.pb[b] →
      Fed duration iv residues inward r.vector.pb[b].natAbs (applied bands duration map r iv residues) ∧
      Kept iv residues outward (applied bands duration map r iv residues)) ∧
    (bands[b] ≠ none → r.vector.pb[b] < 0 → Kept iv residues inward (applied bands duration map r iv residues) ∧
      Fed duration iv residues outward r.vector.pb[b].natAbs (applied bands duration map r iv residues)) := by
  have unconfigured (none : bands[b] = none) {i : Fin 24} (own : i.val = 8 + b.val ∨ i.val = 16 + b.val) :
      Kept iv residues i (applied bands duration map r iv residues) :=
    applied_kept (chosen_unnamed_band own fun n h => (bandChosen_eq_some.1 h).1 none)
  have fed (configured : bands[b] ≠ none) {i : Fin 24}
      (sign : i.val = (if 0 ≤ r.vector.pb[b] then 8 else 16) + b.val) :
      Fed duration iv residues i r.vector.pb[b].natAbs (applied bands duration map r iv residues) :=
    applied_fed (mem_chosen_of_band (bandChosen_eq_some.2 ⟨configured, rfl, sign⟩))
  have kept {i : Fin 24} (own : i.val = 8 + b.val ∨ i.val = 16 + b.val)
      (sign : i.val ≠ (if 0 ≤ r.vector.pb[b] then 8 else 16) + b.val) :
      Kept iv residues i (applied bands duration map r iv residues) :=
    applied_kept (chosen_unnamed_band own fun n h => sign (bandChosen_eq_some.1 h).2.2)
  refine ⟨fun h => ⟨unconfigured h (.inl hi), unconfigured h (.inr ho)⟩,
    fun h sign => ⟨fed h ?_, kept (.inr ho) ?_⟩, fun h sign => ⟨kept (.inl hi) ?_, fed h ?_⟩⟩
  · rw [if_pos sign, hi]
  · rw [if_pos sign, ho]
    omega
  · rw [if_neg (by omega), hi]
    omega
  · rw [if_neg (by omega), ho]

end

/-- Settles O14: the chosen values name distinct registers, and each is fed once. -/
theorem energyIsConserved : Obligations.EnergyIsConserved := by
  constructor
  · intro duration magnitude i iv residues x fits
    have fed : Fed duration iv residues i magnitude x := applyEnergy_fed i magnitude
    obtain ⟨partials, clamped⟩ := fed.within fits
    have other (j : Fin 25) (hj : j ≠ i.castSucc) := applyEnergy_partials_other (duration := duration) (iv := iv)
      (residues := residues) (i, magnitude) hj
    refine ⟨?_, ?_, ?_, fun j hj => (other j hj).1, fun j hj => (applyEnergy_kept hj).residue⟩
    · rw [partials, fed.residue]
      omega
    · rw [fed.residue]
      exact Nat.mod_lt _ (by decide)
    · refine Vector.ext fun j hj => ?_
      by_cases e : (⟨j, hj⟩ : Fin 25) = i.castSucc
      · obtain rfl : j = i.castSucc.val := congrArg Fin.val e
        exact clamped
      · exact (other ⟨j, hj⟩ e).2
  · intro bands duration map r acc
    dsimp only
    refine ⟨fun none => by simp [Account.applyWindow, none], fun iv opened => ?_⟩
    rw [Account.applyWindow_open opened]
    have takes {i : Fin 24} {n : Nat} {x : Interval × Vector Nat 24} (h : Fed duration iv acc.residues i n x) :=
      And.intro h.residue (And.intro h.within h.cut)
    have keeps {i : Fin 24} {x : Interval × Vector Nat 24} (h : Kept iv acc.residues i x) :=
      And.intro h.residue (And.intro h.partials h.clamped)
    obtain ⟨same, xq, xqClamped⟩ :=
      applyAll_interval duration (chosen bands r.vector) (iv.count map r, acc.residues)
    obtain ⟨inward, outward⟩ := applied_active (bands := bands) (duration := duration) (map := map) (r := r)
      (iv := iv) (residues := acc.residues)
    obtain ⟨positive, negative⟩ := applied_harmonic (bands := bands) (duration := duration) (map := map) (r := r)
      (iv := iv) (residues := acc.residues)
    have reactive := applied_reactive (bands := bands) (duration := duration) (map := map) (r := r)
      (iv := iv) (residues := acc.residues)
    refine ⟨_, rfl, rfl, ?_, ⟨?_, ?_, ?_, ?_, ?_, ?_, ?_, ?_, ?_, ?_, ?_⟩, ?_, ?_⟩
    · exact Interval.eq_of_two_steps (Interval.count_eq map r iv) same
    · exact fun h => ⟨takes (inward h).1, keeps (inward h).2⟩
    · exact fun h => ⟨keeps (outward h).1, takes (outward h).2⟩
    · intro hq hp
      rw [show quadrant r.vector.p1 r.vector.q1 = 2 by simp [quadrant, hq, hp]] at reactive
      exact ⟨takes ((reactive 2 (by decide)).1 rfl), keeps ((reactive 3 (by decide)).2 (by decide)),
        keeps ((reactive 4 (by decide)).2 (by decide)), keeps ((reactive 5 (by decide)).2 (by decide))⟩
    · intro hq hp
      rw [show quadrant r.vector.p1 r.vector.q1 = 3 by simp [quadrant, hq, hp]] at reactive
      exact ⟨keeps ((reactive 2 (by decide)).2 (by decide)), takes ((reactive 3 (by decide)).1 rfl),
        keeps ((reactive 4 (by decide)).2 (by decide)), keeps ((reactive 5 (by decide)).2 (by decide))⟩
    · intro hq hp
      rw [show quadrant r.vector.p1 r.vector.q1 = 4 by simp [quadrant, hq, hp]] at reactive
      exact ⟨keeps ((reactive 2 (by decide)).2 (by decide)), keeps ((reactive 3 (by decide)).2 (by decide)),
        takes ((reactive 4 (by decide)).1 rfl), keeps ((reactive 5 (by decide)).2 (by decide))⟩
    · intro hq hp
      rw [show quadrant r.vector.p1 r.vector.q1 = 5 by simp [quadrant, not_le.2 hq, not_lt.2 hp]] at reactive
      exact ⟨keeps ((reactive 2 (by decide)).2 (by decide)), keeps ((reactive 3 (by decide)).2 (by decide)),
        keeps ((reactive 4 (by decide)).2 (by decide)), takes ((reactive 5 (by decide)).1 rfl)⟩
    · exact fun h => ⟨takes (positive h).1, keeps (positive h).2⟩
    · exact fun h => ⟨keeps (negative h).1, takes (negative h).2⟩
    · intro b
      obtain ⟨none, sign, opposite⟩ := applied_band (bands := bands) (duration := duration) (map := map) (r := r)
        (iv := iv) (residues := acc.residues) b ⟨8 + b.val, by omega⟩ ⟨16 + b.val, by omega⟩ rfl rfl
      exact ⟨fun h => ⟨keeps (none h).1, keeps (none h).2⟩, fun h p => ⟨takes (sign h p).1, keeps (sign h p).2⟩,
        fun h p => ⟨keeps (opposite h p).1, takes (opposite h p).2⟩⟩
    · exact xq.trans (by rw [Interval.count_partials])
    · exact xqClamped.trans (by rw [Interval.count_clamped])
    · intro full
      rw [same]
      simp [Interval.count, u32Max, full]
    · intro below
      rw [same]
      have free : ¬ u32Max ≤ iv.counts.total := by simpa [u32Max] using below
      refine ⟨?_, fun m => ?_⟩
      · simp [Interval.count, free, WindowCounts.count]
      · have joined : (iv.count map r).maps = withMap map iv.maps := by simp [Interval.count, free]
        show (iv.count map r).maps.getLsbD m.val = _
        rw [joined, withMap_getLsbD]

/-! ## The register at a close -/

/-- Settles O16: the add, by whether the sum is within the register. -/
theorem registerClose : Obligations.RegisterClose := by
  intro r amount clamped
  dsimp only
  have fits : r.value + amount ≤ u64Max ↔ r.value + amount ≤ 18446744073709551615 := Iff.rfl
  unfold Register.add
  split
  next h => exact ⟨fun _ => ⟨rfl, rfl⟩, fun above => absurd (fits.1 h) (Nat.not_le_of_lt above), rfl, rfl⟩
  next h => exact ⟨fun within => absurd (fits.2 within) h, fun _ => ⟨rfl, rfl⟩, rfl, rfl⟩

end Sys2Proof.Machine
end

section
/-! The point stage: order count, hold, presence and health of one point in one window (chapter 3). -/

namespace Sys2Proof.Machine

/-! ## The order count -/

section
variable {links : Vector Link 4} {refs : List (SlotRef × SlotKind)}

theorem profileOrders_eq_none : profileOrders links refs = none ↔
    ∃ x ∈ refs, (links[x.1.link]).resolved = none := by
  induction refs with
  | nil => simp [profileOrders]
  | cons r rest ih =>
    unfold profileOrders
    split
    next c hs hc hhs =>
      have later : ¬ ∃ x ∈ rest, (links[x.1.link]).resolved = none := fun h => by simp [ih.2 h] at hhs
      simp only [List.exists_mem_cons_iff, hc, reduceCtorEq, false_or, later]
    next other =>
      refine iff_of_true rfl ?_
      cases hc : (links[r.1.link]).resolved with
      | none => exact ⟨r, List.mem_cons_self, hc⟩
      | some c =>
        cases hhs : profileOrders links rest with
        | none =>
          obtain ⟨x, hx, h⟩ := ih.1 hhs
          exact ⟨x, List.mem_cons_of_mem _ hx, h⟩
        | some hs => exact absurd hhs (other c hs hc)

/-- The order counts found are those of the resolved profiles of the references. -/
theorem mem_profileOrders {hs : List Nat} (found : profileOrders links refs = some hs) {n : Nat} :
    n ∈ hs ↔ ∃ x ∈ refs, ∃ c, (links[x.1.link]).resolved = some c ∧ n = c.profile.orders := by
  induction refs generalizing hs with
  | nil =>
    obtain rfl : [] = hs := Option.some.inj found
    simp
  | cons r rest ih =>
    unfold profileOrders at found
    split at found
    next c hs' hc hhs =>
      obtain rfl := Option.some.inj found
      simp only [List.mem_cons, ih hhs, exists_eq_or_imp, hc, Option.some.injEq, exists_eq_left']
    next => cases found

theorem references_eq_nil {used : List UsedPhase} : references used = [] ↔ used = [] := by
  cases used <;> simp [references]

/-- H_p of an entry whose links all have a resolved profile is the least order count of these (R53). -/
theorem orderCount_least {used : List UsedPhase} (some_used : used ≠ [])
    (resolved : ∀ x ∈ references used, (links[x.1.link]).resolved ≠ none) (previous : Nat) :
    (∃ x ∈ references used, ∃ c, (links[x.1.link]).resolved = some c ∧
      orderCount links used previous = c.profile.orders) ∧
    ∀ x ∈ references used, ∀ c, (links[x.1.link]).resolved = some c →
      orderCount links used previous ≤ c.profile.orders := by
  have nonempty : used.isEmpty = false := by simpa using some_used
  have found : profileOrders links (references used) ≠ none := fun h => by
    obtain ⟨x, hx, h⟩ := profileOrders_eq_none.1 h
    exact resolved x hx h
  obtain ⟨hs, hhs⟩ := Option.ne_none_iff_exists'.1 found
  have mem := @mem_profileOrders links _ hs hhs
  cases hs with
  | nil =>
    obtain ⟨x, hx⟩ := List.exists_mem_of_ne_nil _ (mt references_eq_nil.1 some_used)
    obtain ⟨c, hc⟩ := Option.ne_none_iff_exists'.1 (resolved x hx)
    exact absurd (mem.2 ⟨x, hx, c, hc, rfl⟩) List.not_mem_nil
  | cons h hs =>
    have count : orderCount links used previous = hs.foldl min h := by
      simp [orderCount, nonempty, hhs]
    have least : (h :: hs).min? = some (orderCount links used previous) := by rw [count]; rfl
    obtain ⟨is, below⟩ := List.min?_eq_some_iff.1 least
    exact ⟨mem.1 is, fun x hx c hc => below _ (mem.2 ⟨x, hx, c, hc, rfl⟩)⟩

theorem orderCount_empty (previous : Nat) : orderCount links [] previous = 50 := rfl

theorem orderCount_unresolved {used : List UsedPhase}
    (unresolved : ∃ x ∈ references used, (links[x.1.link]).resolved = none) (previous : Nat) :
    orderCount links used previous = previous := by
  have nonempty : used.isEmpty = false := by
    obtain ⟨x, hx, -⟩ := unresolved
    cases used with
    | nil => cases hx
    | cons => rfl
  simp [orderCount, nonempty, profileOrders_eq_none.2 unresolved]

end

/-! ## A point that is not delivered -/

/-- A point with a last-good vector is HELD on it while the hold lasts (R54, R55). -/
theorem missedPoint_held {t : Tables} {p : Point} {v : PointVector} (last : p.lastGood = some v)
    (held : p.hold < t.contract.holdLimit) :
    missedPoint t p = ⟨{ p with lastStatus := some .held, hold := p.hold + 1 }, v, .held, false⟩ := by
  simp [missedPoint, last, held]

theorem missedPoint_missing {t : Tables} {p : Point} (ended : p.lastGood = none ∨ t.contract.holdLimit ≤ p.hold) :
    missedPoint t p = ⟨{ p with lastStatus := some .missing }, .zero, .missing, false⟩ := by
  unfold missedPoint
  split
  next v last =>
    rcases ended with none | ended
    · simp [last] at none
    · simp [Nat.not_lt.2 ended]
  next => rfl

/-- What a missed point keeps. -/
theorem missedPoint_keeps (t : Tables) (p : Point) :
    (missedPoint t p).point = { p with
      lastStatus := some (missedPoint t p).status, hold := (missedPoint t p).point.hold } := by
  unfold missedPoint
  split
  · split <;> rfl
  · rfl

/-! ## A delivered point -/

/-- The thresholds as natural numbers (R56). -/
theorem PointEntry.deadThreshold_eq (e : PointEntry) : e.deadThreshold = ((e.un * e.deadPct / 100 : Nat) : Int) := by
  simp [PointEntry.deadThreshold]

theorem PointEntry.liveThreshold_eq (e : PointEntry) : e.liveThreshold = ((e.un * e.livePct / 100 : Nat) : Int) := by
  simp [PointEntry.liveThreshold]

theorem mem_ordersIn {lo hi h : Nat} : h ∈ ordersIn lo hi ↔ lo ≤ h ∧ h ≤ hi := by
  simp only [ordersIn, List.mem_map, List.mem_range]
  constructor
  · rintro ⟨n, hn, rfl⟩
    omega
  · exact fun ⟨above, below⟩ => ⟨h - lo, by omega, by omega⟩

section
variable {e : PointEntry} {used : List UsedPhase} {w : Window} {top : Nat} {v : PointVector}

/-- Presence by the squares of the voltages of the used phases (R56). -/
theorem presence_phases (before : Bool) : presence e (used.map fun φ => φ.v1 w) before =
    if ∀ φ ∈ used, e.liveThreshold ^ 2 ≤ φ.v1 w then true
    else if ∀ φ ∈ used, φ.v1 w < e.deadThreshold ^ 2 then false else before := by
  simp [presence]

/-- T1: some used phase is dead and some is live (R58). -/
theorem healthTests_t1 : (healthTests e used w top v).t1 = true ↔
    (∃ φ ∈ used, φ.v1 w < e.deadThreshold ^ 2) ∧ ∃ φ ∈ used, e.liveThreshold ^ 2 ≤ φ.v1 w := by
  simp [healthTests]

/-- T2: an import-only point exports active power (R58). -/
theorem healthTests_t2 : (healthTests e used w top v).t2 = true ↔ e.importOnly = true ∧ v.p1 < 0 ∧
    v.q1 ^ 2 < 3 * v.p1 ^ 2 ∧ (e.apparentFloor : Int) ^ 2 ≤ v.p1 ^ 2 + v.q1 ^ 2 := by
  simp [healthTests, and_assoc]

/-- T3: the harmonic current of some used phase outweighs its fundamental (R58). -/
theorem healthTests_t3 : (healthTests e used w top v).t3 = true ↔
    ∃ φ ∈ used, 4 * φ.i1 w < φ.harmonics w top ∧ (e.currentFloor : Int) ^ 2 ≤ φ.i1 w := by
  simp [healthTests]

/-- T4: some exponent was clamped (R58). -/
theorem healthTests_t4 : (healthTests e used w top v).t4 = true ↔ ∃ φ ∈ used, ∃ h, 1 ≤ h ∧ h ≤ top ∧
    (w.clamped φ.voltage h = true ∨ w.clamped φ.current h = true) := by
  simp [healthTests, mem_ordersIn, and_assoc]

end

section
variable {t : Tables} {w : Window} {e : PointEntry} {p : Point}

/-- What a delivered point shows and keeps, tested or not (R54 to R57). -/
theorem deliveredPoint_fresh :
    let d := deliveredPoint t w e p
    d.status = .fresh ∧ d.point.lastStatus = some .fresh ∧ d.point.hold = 0 ∧ d.point.lastGood = some d.vector ∧
    d.vector = (if d.point.live then directVector e.used t.bands w p.orders else .zero) ∧
    d.point.orders = p.orders ∧ d.point.missReason = p.missReason ∧ d.point.mode = p.mode ∧
    d.point.shadow = p.shadow ∧
    d.point.live = if e.used.isEmpty then p.live else presence e (e.used.map fun φ => φ.v1 w) p.live := by
  unfold deliveredPoint
  dsimp only
  generalize (if e.used.isEmpty then p.live else presence e (e.used.map fun φ => φ.v1 w) p.live) = alive
  split
  · exact ⟨rfl, rfl, rfl, rfl, rfl, rfl, rfl, rfl, rfl, rfl⟩
  · exact ⟨rfl, rfl, rfl, rfl, rfl, rfl, rfl, rfl, rfl, rfl⟩

/-- An untested window leaves the health of a point (R57). -/
theorem deliveredPoint_untested (untested : (deliveredPoint t w e p).point.live = false ∨ e.used = []) :
    (deliveredPoint t w e p).point.health = p.health ∧ (deliveredPoint t w e p).point.fault = p.fault ∧
      (deliveredPoint t w e p).point.failed = p.failed := by
  obtain ⟨-, -, -, -, -, -, -, -, -, live⟩ := deliveredPoint_fresh (t := t) (w := w) (e := e) (p := p)
  unfold deliveredPoint
  dsimp only
  generalize (if e.used.isEmpty then p.live else presence e (e.used.map fun φ => φ.v1 w) p.live) = x at live ⊢
  split
  next tested =>
    rw [Bool.and_eq_true] at tested
    rcases untested with h | h
    · rw [live, tested.1] at h
      cases h
    · simp [h] at tested
  next => exact ⟨rfl, rfl, rfl⟩

/-- A tested window: the four tests, the counter and the state that follow (R58 to R60). -/
theorem deliveredPoint_tested (alive : (deliveredPoint t w e p).point.live = true) (some_used : e.used ≠ []) :
    let d := deliveredPoint t w e p
    d.point.failed = healthTests e e.used w p.orders d.vector ∧
    d.point.health = healthCount t.health.limit d.point.failed.any p.health ∧
    d.point.fault = healthState t.health d.point.health p.fault := by
  obtain ⟨-, -, -, -, -, -, -, -, -, live⟩ := deliveredPoint_fresh (t := t) (w := w) (e := e) (p := p)
  unfold deliveredPoint
  dsimp only
  generalize (if e.used.isEmpty then p.live else presence e (e.used.map fun φ => φ.v1 w) p.live) = x at live ⊢
  split
  next => exact ⟨rfl, rfl, rfl⟩
  next untested =>
    refine absurd ?_ untested
    rw [Bool.and_eq_true]
    exact ⟨live.symm.trans alive, by simpa using some_used⟩

end

/-! ## One point -/

section
variable {t : Tables} {links : Vector Link 4} {w : Window} {e : PointEntry} {p : Point}

theorem directPoint_missed {reason : MissReason} (missed : missReason links w e.used = some reason) :
    directPoint t links w e p =
      missedPoint t { p with orders := orderCount links e.used p.orders, missReason := some reason } := by
  unfold directPoint
  dsimp only
  rw [missed]

theorem directPoint_delivered (delivered : missReason links w e.used = none) :
    directPoint t links w e p = deliveredPoint t w e { p with
      orders := orderCount links e.used p.orders
      missReason := if e.used = [] then none else p.missReason } := by
  unfold directPoint
  dsimp only
  rw [delivered]
  by_cases empty : e.used = [] <;> simp [empty]

/-- Whatever a window brings, the point has its order count and its status, and its mode stands. -/
theorem directPoint_always :
    (directPoint t links w e p).point.lastStatus = some (directPoint t links w e p).status ∧
      (directPoint t links w e p).point.mode = p.mode ∧ (directPoint t links w e p).point.shadow = p.shadow ∧
      (directPoint t links w e p).point.orders = orderCount links e.used p.orders := by
  cases h : missReason links w e.used with
  | none =>
    rw [directPoint_delivered h]
    obtain ⟨status, last, -, -, -, orders, -, mode, shadow, -⟩ := deliveredPoint_fresh (t := t) (w := w) (e := e)
      (p := { p with
        orders := orderCount links e.used p.orders, missReason := if e.used = [] then none else p.missReason })
    exact ⟨by rw [last, status], mode, shadow, orders⟩
  | some reason =>
    rw [directPoint_missed h, missedPoint_keeps]
    exact ⟨rfl, rfl, rfl, rfl⟩

end

/-- Settles O17: a point is delivered or missed, and its order count is set before either. -/
theorem pointStage : Obligations.PointStage := by
  intro t links w e p
  dsimp only
  obtain ⟨last, mode, shadow, orders⟩ := directPoint_always (t := t) (links := links) (w := w) (e := e) (p := p)
  refine ⟨last, mode, shadow, fun empty => ?_, fun unresolved => ?_, fun some_used resolved => ?_, fun missed => ?_,
    fun delivered => ?_⟩
  · rw [orders, empty, orderCount_empty]
  · rw [orders, orderCount_unresolved unresolved]
  · rw [orders]
    exact orderCount_least some_used resolved p.orders
  · obtain ⟨reason, missed⟩ := Option.ne_none_iff_exists'.1 missed
    rw [directPoint_missed missed, missed]
    have keeps := missedPoint_keeps t
      { p with orders := orderCount links e.used p.orders, missReason := some reason }
    refine ⟨by rw [keeps], by rw [keeps], by rw [keeps], by rw [keeps], by rw [keeps], fun v lastGood held => ?_,
      fun ended => ?_⟩
    · rw [missedPoint_held (p := { p with orders := orderCount links e.used p.orders, missReason := some reason })
        lastGood held]
      exact ⟨rfl, rfl, rfl⟩
    · rw [missedPoint_missing (p := { p with
        orders := orderCount links e.used p.orders, missReason := some reason }) ended]
      exact ⟨rfl, rfl, rfl⟩
  · rw [directPoint_delivered delivered] at orders ⊢
    rw [orders]
    obtain ⟨status, -, hold, lastGood, vector, -, reason, -, -, live⟩ := deliveredPoint_fresh (t := t) (w := w)
      (e := e) (p := { p with
        orders := orderCount links e.used p.orders, missReason := if e.used = [] then none else p.missReason })
    rw [← PointEntry.deadThreshold_eq, ← PointEntry.liveThreshold_eq]
    refine ⟨status, hold, lastGood, vector, reason, fun empty => ?_, fun some_used => ?_, deliveredPoint_untested,
      fun alive some_used => ?_⟩
    · rw [live, empty]
      rfl
    · have nonempty : e.used.isEmpty = false := by simpa using some_used
      rw [live, nonempty]
      exact presence_phases p.live
    · obtain ⟨failed, health, fault⟩ := deliveredPoint_tested alive some_used
      refine ⟨?_, ?_, ?_, ?_, health, fault⟩
      · rw [failed]
        exact healthTests_t1
      · rw [failed]
        exact healthTests_t2
      · rw [failed]
        exact healthTests_t3
      · rw [failed]
        exact healthTests_t4

end Sys2Proof.Machine
end

section
/-! One close event: what it makes of the accounts, when it begins, and when it waits (chapters 2.3 to 2.6, R133). -/

namespace Sys2Proof.Machine

/-! ## The closes of an event -/

theorem closesMade.congr {cause : EndCause} {endTime : Nat} {start : Option Nat} {s s' t t' : State}
    (h : closesMade cause endTime start s t) (before : s'.ia.accounts = s.ia.accounts := by simp)
    (seq : s'.ia.nextSeq = s.ia.nextSeq := by simp) (queue : s'.rsc.recordQueue = s.rsc.recordQueue := by simp)
    (tables : s'.cm = s.cm := by simp) (valid : s'.tk.valid = s.tk.valid := by simp)
    (after : t'.ia.accounts = t.ia.accounts := by simp) (seq' : t'.ia.nextSeq = t.ia.nextSeq := by simp)
    (queue' : t'.rsc.recordQueue = t.rsc.recordQueue := by simp) : closesMade cause endTime start s' t' := by
  have opened : s'.openCount = s.openCount := by unfold State.openCount State.openAmong; rw [before]
  unfold closesMade
  rw [before, seq, queue, tables, valid, after, seq', queue', opened]
  exact h

/-- With no OPEN account an event makes no close. -/
theorem closesMade_of_none {cause : EndCause} {endTime : Nat} {start : Option Nat} {s t : State}
    (none : s.openCount = 0) (accounts : t.ia.accounts = s.ia.accounts) (seq : t.ia.nextSeq = s.ia.nextSeq)
    (queue : t.rsc.recordQueue = s.rsc.recordQueue) : closesMade cause endTime start s t := by
  have idle (a : AccountId) : (s.ia.accounts[a]).interval = Option.none := by
    unfold State.openCount State.openAmong at none
    have empty := List.filter_eq_nil_iff.1 (List.eq_nil_of_length_eq_zero none) a (List.mem_finRange a)
    simpa using empty
  refine ⟨fun a => ?_, by rw [seq, none, Nat.add_zero], [], by simp [queue], by simp [none], by simp⟩
  unfold accountClosed
  rw [idle a, accounts]

/-- All OPEN accounts are closed at once, and nothing else of the interval accountant changes (R32, R36 to R41). -/
theorem State.closeAll_made (cause : EndCause) (endTime : Nat) (reopen : Reopen) (s : State) :
    closesMade cause endTime (reopen.start s.tk.seconds endTime) s (s.closeAll cause endTime reopen) ∧
    (s.closeAll cause endTime reopen).ia = { s.ia with
      accounts := (s.closeAll cause endTime reopen).ia.accounts
      nextSeq := (s.closeAll cause endTime reopen).ia.nextSeq } := by
  have spec := s.closeList_spec cause endTime reopen (List.finRange 8) (List.nodup_finRange 8)
  rw [show s.closeAll cause endTime reopen = s.closeList cause endTime reopen (List.finRange 8) from rfl]
  dsimp only at spec
  generalize s.closeList cause endTime reopen (List.finRange 8) = t at spec ⊢
  obtain ⟨-, accounts, seq, rest, records, queue, seqs, -, built⟩ := spec
  refine ⟨⟨fun a => accounts a (List.mem_finRange a), seq, records, queue, seqs, fun r hr => ?_⟩, rest⟩
  obtain ⟨iv, -, e⟩ := built r hr
  rw [e]
  exact ⟨rfl, rfl, rfl⟩

/-- An event closes every OPEN account, and changes nothing else of the interval accountant but the next boundary,
which it may set afresh. -/
theorem State.runEvent_made (e : CloseEvent) (s : State) :
    closesMade e.cause e.endTime (e.reopen.start s.tk.seconds e.endTime) s (s.runEvent e) ∧
    (s.runEvent e).ia = { s.ia with
      accounts := (s.runEvent e).ia.accounts, nextSeq := (s.runEvent e).ia.nextSeq
      nextBoundary := if e.fresh then s.boundaryAfresh else s.ia.nextBoundary } := by
  obtain ⟨made, rest⟩ := s.closeAll_made e.cause e.endTime e.reopen
  have tk : (s.closeAll e.cause e.endTime e.reopen).tk = s.tk := by simp
  have cm : (s.closeAll e.cause e.endTime e.reopen).cm = s.cm := by simp
  unfold State.runEvent
  dsimp only
  generalize s.closeAll e.cause e.endTime e.reopen = t at made rest tk cm ⊢
  cases e.fresh with
  | false => exact ⟨made, rest⟩
  | true =>
    refine ⟨made.congr (after := rfl) (seq' := rfl) (queue' := rfl), ?_⟩
    have afresh : t.freshBoundary.ia = { t.ia with nextBoundary := s.boundaryAfresh } := by
      simp [State.freshBoundary, State.boundaryAfresh, State.intervalSeconds, tk, cm]
    rw [if_pos rfl, if_pos rfl, afresh, rest]

/-! ## When an event begins -/

theorem State.canBegin_iff {s : State} : s.canBegin = true ↔
    s.sm.state = .normal ∧ s.rsc.halted = false ∧ s.openCount ≤ s.rsc.freePlaces := by
  simp [State.canBegin, and_assoc]

theorem State.seqExhausted_eq_false {s : State} (h : s.ia.nextSeq + s.openCount ≤ 4294967296) :
    s.seqExhausted s.openCount = false := by
  refine decide_eq_false fun exhausted => ?_
  simp only [u32Max] at exhausted
  omega

theorem State.seqExhausted_eq_true {s : State} (some_open : 0 < s.openCount)
    (h : 4294967296 < s.ia.nextSeq + s.openCount) : s.seqExhausted s.openCount = true := by
  refine decide_eq_true ?_
  simp only [u32Max]
  omega

theorem State.raiseEvent_of_closesReady {s : State} (ready : s.closesReady) (e : CloseEvent) :
    s.raiseEvent e = s.runEvent e := by
  obtain ⟨normal, running, waiting, places, seq⟩ := ready
  have begins := State.canBegin_iff.2 ⟨normal, running, places⟩
  simp [State.raiseEvent, begins, waiting, State.seqExhausted_eq_false seq]

theorem State.raiseEvent_of_closesWait {s : State} (waits : s.closesWait) (e : CloseEvent) :
    s.raiseEvent e = s.waitEvent e := by
  obtain ⟨-, -, -, waiting | places⟩ := waits
  · simp [State.raiseEvent, waiting]
  · have stays : s.canBegin = false := by
      rw [← Bool.not_eq_true, State.canBegin_iff]
      omega
    simp [State.raiseEvent, stays]

end Sys2Proof.Machine
end

section
/-! Interval boundaries, the waiting events and the power-fail warning (chapters 2.3 and 9.2). -/

namespace Sys2Proof.Machine

/-! ## The count reaches a boundary -/

/-- The time at which the count stands at boundary `b`. -/
theorem Timekeeper.advance_to {t : Timekeeper} {b : Nat} (before : t.seconds ≤ b) (millis : t.millis < 1000)
    (within : b ≤ 4294967295) :
    (t.advance (b * 1000 - t.ms)).seconds = b ∧ (t.advance (b * 1000 - t.ms)).valid = t.valid := by
  rw [Timekeeper.advance_of_lt (by unfold Timekeeper.ms; omega)]
  refine ⟨?_, rfl⟩
  dsimp only [Timekeeper.ms]
  omega

/-- What has moved when the count reaches a boundary; no flag, no job and no account has. -/
theorem State.advance_to {s : State} {b : Nat} (powered : s.powered = true) (before : s.tk.seconds ≤ b)
    (millis : s.tk.millis < 1000) (within : b ≤ 4294967295) :
    ∃ t, s.advance (b * 1000 - s.tk.ms) = t ∧
      t = { s with
        tk := t.tk, timeBase := t.timeBase, links := t.links, rsc := t.rsc, mlc := t.mlc } ∧
      t.rsc = { s.rsc with patrolTimer := t.rsc.patrolTimer } ∧ t.tk.seconds = b ∧ t.tk.valid = s.tk.valid := by
  obtain ⟨seconds, valid⟩ := Timekeeper.advance_to before millis within
  refine ⟨_, rfl, ?_, ?_, ?_, ?_⟩
  · rw [State.advance_of_valid powered valid]
  · rw [State.advance_of_valid powered valid]
  · rw [State.advance_tk, seconds]
  · rw [State.advance_tk, valid]

/-! ## A boundary falls -/

/-- The next boundary rises by the interval length. -/
def State.passBoundary (b : Nat) (s : State) : State :=
  s.updIa fun ia => { ia with nextBoundary := some (b + s.cm.tables.contract.minutes * 60) }

section
variable {s : State} {b : Nat}

/-- In HALTED, and with no account OPEN, it is passed by (R31, R148). -/
theorem State.boundaryFalls_passed (boundary : s.ia.nextBoundary = some b)
    (idle : s.rsc.halted = true ∨ (s.sm.state = .normal ∧ s.openCount = 0)) (awaited : Bool) :
    s.boundaryFalls awaited = s.passBoundary b := by
  unfold State.boundaryFalls
  rw [boundary]
  rcases idle with halted | ⟨normal, none⟩
  · simp [halted, State.passBoundary, State.intervalSeconds]
  · simp [normal, none, State.passBoundary, State.intervalSeconds]

/-- Outside NORMAL the first one is held (R34). -/
theorem State.boundaryFalls_held (boundary : s.ia.nextBoundary = some b) (running : s.rsc.halted = false)
    (outside : s.sm.state ≠ .normal) (awaited : Bool) :
    s.boundaryFalls awaited =
      s.updIa fun ia => { ia with pendingBoundary := some (ia.pendingBoundary.getD b) } := by
  unfold State.boundaryFalls
  rw [boundary]
  simp [running, outside]

/-- With an OPEN account it is a close event (R31). -/
theorem State.boundaryFalls_raised (boundary : s.ia.nextBoundary = some b) (running : s.rsc.halted = false)
    (normal : s.sm.state = .normal) (some_open : s.openCount ≠ 0) (awaited : Bool) :
    s.boundaryFalls awaited = (s.passBoundary b).raiseEvent ⟨.boundary, b, .atBoundary, false, awaited⟩ := by
  unfold State.boundaryFalls
  rw [boundary]
  simp [running, normal, some_open, State.passBoundary, State.intervalSeconds]

/-- Where the closes can be made at once they are, at the boundary (R31, R32). -/
theorem State.boundaryFalls_made (boundary : s.ia.nextBoundary = some b) (ready : s.closesReady) (awaited : Bool) :
    closesMade .boundary b (some b) s (s.boundaryFalls awaited) ∧
      (s.boundaryFalls awaited).ia = { s.ia with
        accounts := (s.boundaryFalls awaited).ia.accounts, nextSeq := (s.boundaryFalls awaited).ia.nextSeq
        nextBoundary := some (b + s.cm.tables.contract.minutes * 60) } ∧
      (s.boundaryFalls awaited).wa = s.wa ∧ (s.boundaryFalls awaited).mlc = s.mlc := by
  have ⟨normal, running, _, _, _⟩ := ready
  by_cases none : s.openCount = 0
  · rw [State.boundaryFalls_passed boundary (.inr ⟨normal, none⟩)]
    exact ⟨closesMade_of_none none rfl rfl rfl, rfl, rfl, rfl⟩
  · rw [State.boundaryFalls_raised boundary running normal none,
      State.raiseEvent_of_closesReady (s := s.passBoundary b) ready]
    obtain ⟨made, rest⟩ := (s.passBoundary b).runEvent_made ⟨.boundary, b, .atBoundary, false, awaited⟩
    exact ⟨made.congr (before := rfl) (seq := rfl) (queue := rfl) (tables := rfl) (valid := rfl) (after := rfl)
      (seq' := rfl) (queue' := rfl), rest, by simp [State.passBoundary], by simp [State.passBoundary]⟩

/-- Where they cannot, the event waits (R133). -/
theorem State.boundaryFalls_waits (boundary : s.ia.nextBoundary = some b) (waits : s.closesWait) (awaited : Bool) :
    s.boundaryFalls awaited = (s.passBoundary b).waitEvent ⟨.boundary, b, .atBoundary, false, awaited⟩ := by
  have ⟨normal, running, some_open, _⟩ := waits
  rw [State.boundaryFalls_raised boundary running normal some_open,
    State.raiseEvent_of_closesWait (s := s.passBoundary b) waits]

end

/-- Settles O23: the count moves to the boundary, and the boundary falls there. -/
theorem intervalBoundary : Obligations.IntervalBoundary := by
  intro s b powered valid boundary before millis within
  dsimp only
  have run : exec .intervalBoundary s = .next ((s.advance (b * 1000 - s.tk.ms)).boundaryFalls false) := by
    simp [exec, execIntervalBoundary, boundary, powered, valid]
  obtain ⟨t, moved, same, rsc, seconds, stillValid⟩ := State.advance_to powered before millis within
  rw [run, moved]
  have ia : t.ia = s.ia := by rw [same]
  have cm : t.cm = s.cm := by rw [same]
  have sm : t.sm = s.sm := by rw [same]
  have halted : t.rsc.halted = s.rsc.halted := by rw [rsc]
  have opened : t.openCount = s.openCount := by unfold State.openCount State.openAmong; rw [ia]
  have places : t.rsc.freePlaces = s.rsc.freePlaces := by rw [rsc]; rfl
  have boundary' : t.ia.nextBoundary = some b := by rw [ia, boundary]
  refine ⟨fun ready => ?_, fun outside running => ?_, fun idle => ?_, fun waits => ?_⟩
  · have ready' : t.closesReady := by
      unfold State.closesReady
      rw [sm, halted, ia, opened, places]
      exact ready
    obtain ⟨made, rest, wa, -⟩ := State.boundaryFalls_made boundary' ready' false
    refine ⟨_, rfl, made.congr (by rw [ia]) (by rw [ia]) (by rw [rsc]) cm.symm stillValid.symm rfl rfl rfl, ?_, ?_,
      ?_, ?_, ?_, ?_, ?_, ?_, ?_⟩
    · rw [rest, cm]
    all_goals simp only [State.boundaryFalls_frame, wa]
    · exact seconds
    all_goals rw [same]
  · have fallen := State.boundaryFalls_held boundary' (halted.trans running) (by rwa [sm]) false
    rw [fallen]
    exact ⟨_, rfl, by rw [State.updIa_ia, ia], by rw [same]; rfl, by rw [same]; rfl⟩
  · have fallen := State.boundaryFalls_passed boundary' (by rwa [halted, sm, opened]) false
    rw [fallen]
    exact ⟨_, rfl, by rw [State.passBoundary, State.updIa_ia, ia, cm], by rw [same]; rfl, by rw [same]; rfl⟩
  · have waits' : t.closesWait := by
      unfold State.closesWait
      rw [sm, halted, ia, opened, places]
      exact waits
    have fallen := State.boundaryFalls_waits boundary' waits' false
    rw [fallen]
    refine ⟨_, rfl, seconds, ?_, ?_, ?_, ?_, ?_, ?_, ?_⟩
    · rw [State.waitEvent, State.updIa_ia, State.passBoundary, State.updIa_ia, ia, cm]
    · exact (by rw [rsc] : t.rsc.recordQueue = s.rsc.recordQueue)
    all_goals rw [same]; rfl

end Sys2Proof.Machine
end

section
/-! The waiting events and the power-fail warning (chapters 2.3 and 9.2). -/

namespace Sys2Proof.Machine

/-! ## HALTED -/

/-- The entry into HALTED: FATAL is given, a window in processing is dropped, and the accounts, the points and the
store stand (R148). -/
theorem State.enterHalted_entered {s : State} (running : s.rsc.halted = false) :
    s.enterHalted.rsc.halted = true ∧ s.enterHalted.cu.sources[0] = true ∧
      s.enterHalted.wa = { s.wa with processing := none } := by
  unfold State.enterHalted
  simp only [running, Bool.false_eq_true, if_false]
  have given (t : State) (halted : t.rsc.halted = true) : t.giveFatal.cu.sources[0] = true := by
    simp [State.giveFatal, State.level, halted, Condition.idx]
  split
  · refine ⟨by simp, ?_, by simp⟩
    have told (u : State) : (u.refuse .halted).cu.sources[0] = u.cu.sources[0] := by simp
    exact (told _).trans (given _ rfl)
  · exact ⟨by simp, given _ rfl, by simp⟩

/-! ## Waiting events -/

section
variable {s : State} {e : CloseEvent} {rest : List CloseEvent}

theorem State.beginWaiting_stays (waiting : s.ia.waiting = e :: rest) (barred : s.canBegin = false) :
    s.beginWaiting = s := by
  unfold State.beginWaiting
  rw [waiting]
  simp [barred]

theorem State.beginWaiting_exhausted (waiting : s.ia.waiting = e :: rest) (begins : s.canBegin = true)
    (exhausted : s.seqExhausted s.openCount = true) : s.beginWaiting = s.enterHalted := by
  unfold State.beginWaiting
  rw [waiting]
  simp [begins, exhausted]

theorem State.beginWaiting_begins (waiting : s.ia.waiting = e :: rest) (begins : s.canBegin = true)
    (free : s.seqExhausted s.openCount = false) :
    s.beginWaiting = ((s.updIa fun ia => { ia with waiting := rest }).runEvent e).releaseTimeSet := by
  unfold State.beginWaiting
  rw [waiting]
  simp [begins, free]

/-- A TIME.SET in service is answered when no event that it waits for is left (R194). -/
theorem State.releaseTimeSet_mlc (u : State) :
    (u.mlc.inService ≠ some .timeSet → u.releaseTimeSet.mlc = u.mlc) ∧
    ((∃ x ∈ u.ia.waiting, x.awaited = true) → u.releaseTimeSet.mlc = u.mlc) ∧
    ∀ f others, u.mlc.inService = some .timeSet → u.mlc.buffer = f :: others →
      (∀ x ∈ u.ia.waiting, x.awaited = false) → u.releaseTimeSet = u.acked [] f others := by
  unfold State.releaseTimeSet
  refine ⟨fun other => by simp [other], fun ⟨x, hx, awaited⟩ => ?_, fun f others service buffer none => ?_⟩
  · rw [if_neg]
    rintro ⟨-, all⟩
    have := List.all_eq_true.1 all x hx
    simp [awaited] at this
  · rw [if_pos ⟨service, List.all_eq_true.2 fun x hx => by simp [none x hx]⟩]
    exact State.ack_eq_acked buffer []

end

/-- Settles O24: the oldest waiting event stays, is exhausted, or begins. -/
theorem waitingEventBegins : Obligations.WaitingEventBegins := by
  intro s e rest powered waiting
  have run : exec .closeEventBegin s = .next s.beginWaiting := by simp [exec, execCloseEventBegin, powered]
  rw [run]
  refine ⟨fun barred => ?_, fun may some_open past => ?_, fun may within => ?_⟩
  · rw [State.beginWaiting_stays waiting (by rwa [← Bool.not_eq_true, State.canBegin_iff])]
  · have running := may.2.1
    obtain ⟨halted, fatal, wa⟩ := State.enterHalted_entered running
    rw [State.beginWaiting_exhausted waiting (State.canBegin_iff.2 may) (State.seqExhausted_eq_true some_open past)]
    exact ⟨_, rfl, halted, fatal, by rw [wa], by simp, by simp, by simp⟩
  · rw [State.beginWaiting_begins waiting (State.canBegin_iff.2 may) (State.seqExhausted_eq_false within)]
    obtain ⟨made, ia⟩ := (s.updIa fun ia => { ia with waiting := rest }).runEvent_made e
    have mlc : ((s.updIa fun ia => { ia with waiting := rest }).runEvent e).mlc = s.mlc := by simp
    have straps : ((s.updIa fun ia => { ia with waiting := rest }).runEvent e).straps = s.straps := by simp
    have left : ((s.updIa fun ia => { ia with waiting := rest }).runEvent e).ia.waiting = rest :=
      (congrArg (fun x : Accountant => x.waiting) ia :)
    obtain ⟨other, awaits, answered⟩ :=
      ((s.updIa fun ia => { ia with waiting := rest }).runEvent e).releaseTimeSet_mlc
    rw [mlc] at other awaits answered
    rw [left] at awaits answered
    refine ⟨_, rfl, ?_, ?_, ?_, by simp, by simp, by simp, by simp, by simp, by simp, other, awaits,
      fun f others service buffer none => ?_⟩
    · exact made.congr
    · rw [show ∀ u : State, u.releaseTimeSet.ia = u.ia by simp, ia]
      rfl
    · rw [show ∀ u : State, u.releaseTimeSet.ia = u.ia by simp, left]
    · rw [answered f others service buffer none]
      simp only [State.acked, State.answered, mlc, straps]

/-! ## The power-fail warning -/

/-- The assertion in NORMAL, before a TIME.SET that waited for a boundary is released (R34, R172). -/
def State.saving (s : State) : State :=
  ((((s.updSm fun m => { m with state := .saving, deassertHeld := false }).updIa
    Accountant.holdBoundaries).updWa Assembler.dropResults).callSave).giveSupply

theorem State.pfwAsserted_of_normal {s : State} (normal : s.sm.state = .normal) :
    s.pfwAsserted = s.saving.releaseTimeSet := by
  unfold State.pfwAsserted
  rw [normal]
  rfl

theorem State.pfwAsserted_outside {s : State} (outside : s.sm.state ≠ .normal) :
    s.pfwAsserted = s.updSm fun m => { m with deassertHeld := false } := by
  unfold State.pfwAsserted
  split
  next normal => exact absurd normal outside
  next => rfl

@[simp] theorem Accountant.holdBoundaries_accounts (ia : Accountant) :
    ia.holdBoundaries.accounts = ia.accounts := by
  unfold Accountant.holdBoundaries
  split <;> rfl

/-- The return to NORMAL, before a pending boundary is dealt with (R34, R172). -/
def State.normalAgain (s : State) : State :=
  (((s.updSm fun m => { m with state := .normal, deassertHeld := false }).updIa Accountant.flagOutage).queueSave
    .running).giveSupply

theorem State.returnToNormal_none {s : State} (none : s.ia.pendingBoundary = none) :
    s.returnToNormal = s.normalAgain := by
  have still : s.normalAgain.ia.pendingBoundary = Option.none := none
  unfold State.returnToNormal
  dsimp only
  split
  next => rfl
  next b pending => exact absurd (pending.symm.trans still) (by simp)

theorem State.normalAgain_account (s : State) (a : AccountId) : s.normalAgain.ia.accounts[a] = { s.ia.accounts[a] with
    interval := (s.ia.accounts[a]).interval.map fun iv => { iv with outage := true } } :=
  Vector.getElem_ofFn a.isLt

/-- The return to NORMAL with the pending boundary taken out and the next one set afresh (R34). -/
def State.pendingTaken (s : State) : State :=
  (s.normalAgain.updIa fun ia => { ia with pendingBoundary := none }).freshBoundary

/-- A pending boundary closes every OPEN account with OUTAGE, at that boundary (R34). -/
theorem State.returnToNormal_pending {s : State} {b : Nat} (pending : s.ia.pendingBoundary = some b) :
    s.returnToNormal = if s.pendingTaken.openCount = 0 then s.pendingTaken
      else s.pendingTaken.raiseEvent ⟨.outage, b, .atCount, true, false⟩ := by
  have still : s.normalAgain.ia.pendingBoundary = some b := pending
  unfold State.returnToNormal
  dsimp only
  split
  next none => exact absurd (none.symm.trans still) (by simp)
  next c pending' =>
    obtain rfl : c = b := Option.some.inj (pending'.symm.trans still)
    rfl

/-- OUTAGE in an open interval leaves what a close makes of its account. -/
theorem accountClosed_flagged {t : ContractTable} {valid : Bool} {start : Option Nat} {before after : Account}
    (h : accountClosed t valid start { before with
      interval := before.interval.map fun iv => { iv with outage := true } } after) :
    accountClosed t valid start before after := by
  obtain ⟨interval, regs, residues, gapMark, inFlight, blockOwed⟩ := before
  cases interval with
  | none => exact h
  | some iv => exact h

/-- An OPEN account is one with OUTAGE or without. -/
theorem State.normalAgain_openCount (s : State) : s.normalAgain.openCount = s.openCount := by
  unfold State.openCount State.openAmong
  congr 1
  refine List.filter_congr fun a _ => ?_
  rw [s.normalAgain_account a]
  exact Option.isSome_map

/-- The records of the closes at a return to NORMAL have OUTAGE. -/
theorem State.normalAgain_records {s : State} {cause : EndCause} {endTime : Nat} {reopen : Reopen} {t : State}
    (ia : t.ia.accounts = s.normalAgain.ia.accounts) (queue : t.rsc.recordQueue = s.rsc.recordQueue) :
    ∀ r ∈ (t.closeAll cause endTime reopen).rsc.recordQueue, r ∈ s.rsc.recordQueue ∨ r.outage = true := by
  have spec := t.closeList_spec cause endTime reopen (List.finRange 8) (List.nodup_finRange 8)
  rw [show t.closeAll cause endTime reopen = t.closeList cause endTime reopen (List.finRange 8) from rfl]
  dsimp only at spec
  generalize t.closeList cause endTime reopen (List.finRange 8) = u at spec ⊢
  obtain ⟨-, -, -, -, records, joined, -, -, built⟩ := spec
  intro r hr
  have mem : r ∈ t.rsc.recordQueue ++ records := joined ▸ hr
  rcases List.mem_append.1 mem with old | new
  · exact .inl (queue ▸ old)
  · obtain ⟨iv, opened, e⟩ := built r new
    rw [ia, s.normalAgain_account r.account] at opened
    obtain ⟨iv', -, rfl⟩ := Option.map_eq_some_iff.1 opened
    rw [e]
    exact .inr rfl

theorem exec_pfwAssert {s : State} (powered : s.powered = true) :
    exec .pfwAssert s = .next ({ s with pfw := true } : State).pfwAsserted :=
  if_pos powered

theorem exec_pfwDeassert {s : State} (powered : s.powered = true) :
    exec .pfwDeassert s = .next ({ s with pfw := false } : State).pfwDeasserted :=
  if_pos powered

theorem State.pfwDeasserted_of_saved {s : State} (saved : s.sm.state = .saved) :
    s.pfwDeasserted = s.returnToNormal := by
  unfold State.pfwDeasserted
  rw [saved]

/-- The closes of the pending boundary, if they can be made at once. -/
theorem State.returnToNormal_made {s : State} {b : Nat} (pending : s.ia.pendingBoundary = some b)
    (running : s.rsc.halted = false) (waiting : s.ia.waiting = []) (places : s.openCount ≤ s.rsc.freePlaces)
    (seq : s.ia.nextSeq + s.openCount ≤ 4294967296) :
    closesMade .outage b (some s.tk.seconds) s s.returnToNormal ∧ s.returnToNormal.ia.pendingBoundary = none ∧
      s.returnToNormal.ia.nextBoundary = s.boundaryAfresh ∧
      ∀ r ∈ s.returnToNormal.rsc.recordQueue, r ∈ s.rsc.recordQueue ∨ r.outage = true := by
  have opened : s.pendingTaken.openCount = s.openCount := s.normalAgain_openCount
  have places' : s.pendingTaken.rsc.freePlaces = s.rsc.freePlaces := by
    unfold Controller.freePlaces Controller.records
    rfl
  have ready : s.pendingTaken.closesReady :=
    ⟨rfl, running, waiting, by rw [opened, places']; exact places, by rw [opened]; exact Nat.le_trans seq (by decide)⟩
  have flagged {t : State} (made : closesMade .outage b (some s.tk.seconds) s.pendingTaken t) :
      closesMade .outage b (some s.tk.seconds) s t := by
    obtain ⟨accounts, nextSeq, records⟩ := made
    rw [opened] at nextSeq records
    refine ⟨fun a => accountClosed_flagged ?_, nextSeq, records⟩
    have account : s.pendingTaken.ia.accounts[a] = _ := s.normalAgain_account a
    rw [← account]
    exact accounts a
  rw [State.returnToNormal_pending pending]
  split
  next none =>
    exact ⟨flagged (closesMade_of_none none rfl rfl rfl), rfl, rfl, fun r hr => .inl hr⟩
  next some_open =>
    rw [State.raiseEvent_of_closesReady ready]
    obtain ⟨made, ia⟩ := s.pendingTaken.runEvent_made ⟨.outage, b, .atCount, true, false⟩
    refine ⟨flagged made, by rw [ia]; rfl, by rw [ia]; rfl, ?_⟩
    have queue : (s.pendingTaken.runEvent ⟨.outage, b, .atCount, true, false⟩).rsc =
        (s.pendingTaken.closeAll .outage b .atCount).rsc := by simp [State.runEvent]
    rw [queue]
    exact State.normalAgain_records (t := s.pendingTaken) rfl rfl

/-- Settles O25: the assertion by the state of the supply monitor, and the return to NORMAL by the pending
boundary. -/
theorem powerFailWarning : Obligations.PowerFailWarning := by
  intro s powered
  refine ⟨fun idle normal => ?_, fun outside => ?_, fun saving => ?_, fun saved none => ?_,
    fun b saved pending running waiting places seq valid => ?_⟩
  · have silent : ¬ (({ s with pfw := true } : State).saving.mlc.inService = some .timeSet ∧
        ({ s with pfw := true } : State).saving.ia.waiting.all (fun e => !e.awaited)) :=
      fun h => nomatch idle.symm.trans h.1
    rw [exec_pfwAssert powered, State.pfwAsserted_of_normal (s := { s with pfw := true }) normal, State.releaseTimeSet, if_neg silent]
    refine ⟨_, rfl, rfl, rfl, rfl, ?_, rfl, Accountant.holdBoundaries_accounts _, rfl, rfl⟩
    simp [State.saving, State.giveSupply, State.level, Condition.idx, State.callSave]
  · rw [exec_pfwAssert powered, State.pfwAsserted_outside (s := { s with pfw := true }) outside]
    rfl
  · rw [exec_pfwDeassert powered, State.pfwDeasserted]
    simp [saving, State.updSm]
  · rw [exec_pfwDeassert powered, State.pfwDeasserted_of_saved (s := { s with pfw := false }) saved,
      State.returnToNormal_none (s := { s with pfw := false }) none]
    exact ⟨_, rfl, rfl, rfl, rfl, fun a => State.normalAgain_account _ a, rfl, rfl⟩
  · rw [exec_pfwDeassert powered, State.pfwDeasserted_of_saved (s := { s with pfw := false }) saved]
    obtain ⟨made, none, afresh, records⟩ := State.returnToNormal_made (s := { s with pfw := false }) pending running
      waiting places seq
    refine ⟨_, rfl, State.returnToNormal_normal _, made, none, ?_, records⟩
    simp [afresh, State.boundaryAfresh, valid]

end Sys2Proof.Machine
end

section
/-! Numbers in payloads, and a request that is served (chapters 11 and 12.1). -/

namespace Sys2Proof.Machine

/-! ## Numbers as bytes -/

@[simp] theorem leBytes_length (width n : Nat) : (leBytes width n).length = width := by
  induction width generalizing n with
  | zero => rfl
  | succ w ih => simp [leBytes, ih]

/-- A number is read back from its bytes, as far as they hold it (R203). -/
@[simp] theorem leNat_leBytes (width n : Nat) : leNat (leBytes width n) = n % 256 ^ width := by
  induction width generalizing n with
  | zero => simp [leBytes, leNat, Nat.mod_one]
  | succ w ih =>
    simp only [leBytes, leNat, ih, BitVec.toNat_ofNat]
    rw [Nat.pow_succ' (m := 256)]
    exact Nat.mod_mul.symm

theorem leNat_leBytes_of_lt {width n : Nat} (h : n < 256 ^ width) : leNat (leBytes width n) = n := by
  rw [leNat_leBytes, Nat.mod_eq_of_lt h]

/-- A field of as many bytes as stand before the rest. -/
theorem field_append (a rest : List Byte) : field (a ++ rest) 0 a.length = a := by
  simp [field]

/-- A field behind the first bytes. -/
theorem field_append_add (a rest : List Byte) (start width : Nat) :
    field (a ++ rest) (a.length + start) width = field rest start width := by
  simp [field]

/-- The number at the front. -/
theorem natAt_leBytes_append {width n : Nat} (h : n < 256 ^ width) (rest : List Byte) :
    natAt (leBytes width n ++ rest) 0 width = n := by
  have whole := field_append (leBytes width n) rest
  rw [leBytes_length] at whole
  rw [natAt, whole, leNat_leBytes_of_lt h]

theorem natAt_append_add {k : Nat} {a : List Byte} (h : a.length = k) (rest : List Byte) (start width : Nat) :
    natAt (a ++ rest) (k + start) width = natAt rest start width := by
  subst h
  rw [natAt, natAt, field_append_add]

theorem natAt_leBytes {width n : Nat} (h : n < 256 ^ width) : natAt (leBytes width n) 0 width = n := by
  simpa using natAt_leBytes_append h []

/-! ## A request that is served -/

section
variable {s : State} {f : MsgFrame} {rest : List MsgFrame} {k : RequestKind}

theorem State.serves.buffer (h : s.serves k f rest) : s.mlc.buffer = f :: rest := h.1.2.2.2

theorem State.serves.idle (h : s.serves k f rest) : s.mlc.inService = none := h.1.2.1

theorem State.serves.awake (h : s.serves k f rest) (barred : k.servedInHalted = false) : s.rsc.halted = false :=
  h.2.2.resolve_right (by simp [barred])

/-- The command of a kind has the effect of the request on its payload (R194, R195). -/
theorem exec_served (h : s.serves k f rest) (fits : k.fits f.payload = true) :
    exec k.command s = .next (k.act f.payload s) := by
  rw [exec_command, State.serve_eq k.act h fits]

end

end Sys2Proof.Machine
end

section
/-! TIME.SET and RESET (chapters 2.3, 9.1 and 9.5). -/

namespace Sys2Proof.Machine

/-! ## The parts of a TIME.SET -/

section
variable {s : State} {f : MsgFrame} {rest : List MsgFrame} {seconds millis : Nat}

/-- A TIME.SET frame is served with the count that it carries (R206). -/
theorem exec_timeSet_served (served : s.serves .timeSet f rest)
    (payload : f.payload = leBytes 4 seconds ++ leBytes 2 millis) (hs : seconds ≤ 4294967295)
    (hm : millis ≤ 65535) : exec .timeSet s = .next (s.answerTimeSet seconds millis) := by
  have run : exec .timeSet s = .next (s.answerTimeSet (natAt f.payload 0 4) (natAt f.payload 4 2)) :=
    exec_served (k := .timeSet) served (by simp [RequestKind.fits, payload])
  have front : natAt f.payload 0 4 = seconds := payload ▸ natAt_leBytes_append (by omega) _
  have back : natAt f.payload 4 2 = millis := by
    rw [payload]
    have shifted := natAt_append_add (a := leBytes 4 seconds) (leBytes_length 4 seconds) (leBytes 2 millis) 0 2
    rw [Nat.add_zero] at shifted
    rw [shifted, natAt_leBytes (by omega)]
  rw [run, front, back]

/-- Time is VALID once it is set (R169). -/
theorem State.setTime_source (s : State) (seconds millis : Nat) :
    (s.setTime seconds millis).cu.sources[14] = false := by
  simp [State.setTime, State.giveTimeInvalid, State.level, Condition.idx]

/-- A set count in VALID time leaves the rest of the timekeeper. -/
theorem State.setTime_tk (valid : s.tk.valid = true) :
    (s.setTime seconds millis).tk = { s.tk with seconds := seconds, millis := millis } := by
  simp [State.setTime, State.giveTimeInvalid, State.level, valid]

/-- The reply, when no event is left for which the request waits (R194). -/
theorem State.finishTimeSet_acked (buffer : s.mlc.buffer = f :: rest)
    (none : ∀ x ∈ s.ia.waiting, x.awaited = false) : s.finishTimeSet = s.acked [] f rest := by
  unfold State.finishTimeSet
  rw [if_neg, State.ack_eq_acked buffer]
  intro some
  obtain ⟨x, hx, awaited⟩ := List.any_eq_true.1 some
  rw [none x hx] at awaited
  cases awaited

/-- Else the request stays in service. -/
theorem State.finishTimeSet_waits {x : CloseEvent} (hx : x ∈ s.ia.waiting) (awaited : x.awaited = true) :
    s.finishTimeSet = s.waitFor .timeSet := by
  unfold State.finishTimeSet
  rw [if_pos (List.any_eq_true.2 ⟨x, hx, awaited⟩)]

theorem State.acked_mlc {s t : State} {payload : List Byte} {f : MsgFrame} {rest : List MsgFrame}
    (mlc : t.mlc = s.mlc) (straps : t.straps = s.straps) :
    (t.acked payload f rest).mlc = (s.acked payload f rest).mlc := by
  simp only [State.acked, State.answered, mlc, straps]

theorem State.smallStep_iff : s.smallStep seconds millis = true ↔
    s.tk.valid = true ∧ seconds * 1000 + millis ≤ s.tk.seconds * 1000 + s.tk.millis + 2000 ∧
      s.tk.seconds * 1000 + s.tk.millis ≤ seconds * 1000 + millis + 2000 := by
  unfold State.smallStep
  rw [Bool.and_eq_true, decide_eq_true_iff]
  rfl

theorem State.answerTimeSet_small (hm : millis ≤ 999) (valid : s.tk.valid = true)
    (forward : seconds * 1000 + millis ≤ s.tk.seconds * 1000 + s.tk.millis + 2000)
    (back : s.tk.seconds * 1000 + s.tk.millis ≤ seconds * 1000 + millis + 2000) :
    s.answerTimeSet seconds millis = (s.takeSmallStep seconds millis).finishTimeSet := by
  have small : s.smallStep seconds millis = true := State.smallStep_iff.2 ⟨valid, forward, back⟩
  simp [State.answerTimeSet, small, Nat.not_lt.2 hm]

theorem State.answerTimeSet_large (hm : millis ≤ 999)
    (large : ¬ (s.tk.valid = true ∧ seconds * 1000 + millis ≤ s.tk.seconds * 1000 + s.tk.millis + 2000 ∧
      s.tk.seconds * 1000 + s.tk.millis ≤ seconds * 1000 + millis + 2000)) :
    s.answerTimeSet seconds millis = if s.barsLargeStep then s.refuse .state
      else (s.takeLargeStep seconds millis).finishTimeSet := by
  have far : s.smallStep seconds millis = false := by
    rw [← Bool.not_eq_true]
    exact fun small => large (State.smallStep_iff.1 small)
  simp [State.answerTimeSet, far, Nat.not_lt.2 hm]

/-- In METERING a small step lets the next boundary fall if the count reaches it (R33). -/
theorem State.takeSmallStep_metering (metering : s.cm.mode = .metering) :
    (∀ b, s.ia.nextBoundary = some b → seconds < b) → s.takeSmallStep seconds millis = s.setTime seconds millis := by
  intro ahead
  have mode : (s.setTime seconds millis).cm.mode = .metering := metering
  unfold State.takeSmallStep
  dsimp only
  rw [mode]
  dsimp only
  split
  · rfl
  next b hb => exact if_neg (Nat.not_le.2 (ahead b hb))

theorem State.takeSmallStep_reaches {b : Nat} (metering : s.cm.mode = .metering)
    (boundary : s.ia.nextBoundary = some b) (reached : b ≤ seconds) :
    s.takeSmallStep seconds millis = (s.setTime seconds millis).boundaryFalls true := by
  have mode : (s.setTime seconds millis).cm.mode = .metering := metering
  have next : (s.setTime seconds millis).ia.nextBoundary = some b := boundary
  unfold State.takeSmallStep
  dsimp only
  rw [mode]
  dsimp only
  rw [next]
  exact if_pos reached

theorem State.takeSmallStep_commissioning (commissioning : s.cm.mode = .commissioning) :
    s.takeSmallStep seconds millis = (s.setTime seconds millis).freshBoundary := by
  have mode : (s.setTime seconds millis).cm.mode = .commissioning := commissioning
  unfold State.takeSmallStep
  dsimp only
  rw [mode]

end

/-- Settles O32: the small step by the mode and by whether the boundary is reached. -/
theorem timeSetSmallStep : Obligations.TimeSetSmallStep := by
  intro s f rest seconds millis served payload hs hm none
  dsimp only
  rw [exec_timeSet_served served payload hs hm]
  have buffer := served.buffer
  have unawaited : ∀ x ∈ s.ia.waiting, x.awaited = false := by simp [none]
  refine ⟨fun large => ?_, fun hm valid forward back => ?_⟩
  · rw [State.answerTimeSet, if_pos large, State.refuse_eq_refused buffer]
  rw [State.answerTimeSet_small hm valid forward back]
  refine ⟨fun metering ahead => ?_, fun b metering boundary reached ready => ?_,
    fun b metering boundary reached waits => ?_, fun b metering boundary reached outside => ?_,
    fun commissioning => ?_⟩
  · rw [State.takeSmallStep_metering metering ahead,
      State.finishTimeSet_acked (s := s.setTime seconds millis) buffer unawaited]
    exact ⟨_, rfl, State.setTime_tk valid, rfl, State.setTime_source _ _ _, rfl⟩
  · rw [State.takeSmallStep_reaches metering boundary reached]
    obtain ⟨made, ia, -, mlc⟩ := State.boundaryFalls_made (s := s.setTime seconds millis) boundary ready true
    have left : ((s.setTime seconds millis).boundaryFalls true).ia.waiting = s.ia.waiting :=
      (congrArg (fun x : Accountant => x.waiting) ia :)
    rw [State.finishTimeSet_acked (f := f) (rest := rest) (by rw [mlc]; exact buffer) (by rwa [left])]
    refine ⟨_, rfl, ?_, ?_, ?_, State.acked_mlc mlc (by simp), ?_, ?_, ?_, ?_⟩
    · exact (by simp : ((s.setTime seconds millis).boundaryFalls true).tk = _).trans (State.setTime_tk valid)
    · exact made.congr (before := rfl) (seq := rfl) (queue := rfl) (tables := rfl) (valid := valid) (after := rfl)
        (seq' := rfl) (queue' := rfl)
    · exact (congrArg (fun x : Accountant => x.nextBoundary) ia :)
    all_goals simp [State.acked, State.answered]
  · rw [State.takeSmallStep_reaches metering boundary reached,
      State.boundaryFalls_waits (s := s.setTime seconds millis) boundary waits]
    have joined : (((s.setTime seconds millis).passBoundary b).waitEvent
        ⟨.boundary, b, .atBoundary, false, true⟩).ia.waiting = [⟨.boundary, b, .atBoundary, false, true⟩] := by
      show s.ia.waiting ++ _ = _
      rw [none]
      rfl
    rw [State.finishTimeSet_waits (x := ⟨.boundary, b, .atBoundary, false, true⟩) (by rw [joined]; simp) rfl]
    refine ⟨_, rfl, ?_, ?_, rfl, rfl⟩
    · exact State.setTime_tk valid
    · show ({ s.ia with nextBoundary := _, waiting := s.ia.waiting ++ _ } : Accountant) = _
      rw [none]
      rfl
  · rw [State.takeSmallStep_reaches metering boundary reached,
      State.boundaryFalls_held (s := s.setTime seconds millis) boundary (served.awake rfl) outside]
    rw [State.finishTimeSet_acked (f := f) (rest := rest) (by exact buffer) (by exact unawaited)]
    refine ⟨_, rfl, ?_, rfl, rfl, rfl⟩
    exact State.setTime_tk valid
  · rw [State.takeSmallStep_commissioning commissioning]
    rw [State.finishTimeSet_acked (f := f) (rest := rest) (by exact buffer) (by exact unawaited)]
    refine ⟨_, rfl, ?_, rfl, rfl, State.setTime_source _ _ _, rfl⟩
    exact State.setTime_tk valid

/-! ## A large step -/

section
variable {s : State} {seconds millis : Nat}

theorem State.barsLargeStep_of_metering (metering : s.cm.mode = .metering)
    (barred : (∃ a : AccountId, (s.ia.accounts[a]).inFlight = true) ∨ s.sm.state ≠ .normal) :
    s.barsLargeStep = true := by
  rcases barred with ⟨a, inFlight⟩ | outside
  · have some : s.ia.accounts.toList.any (·.inFlight) = true :=
      List.any_eq_true.2 ⟨s.ia.accounts[a], by simp, inFlight⟩
    simp [State.barsLargeStep, metering, some]
  · simp [State.barsLargeStep, metering, outside]

theorem State.barsLargeStep_eq_false (idle : ∀ a : AccountId, (s.ia.accounts[a]).inFlight = false)
    (normal : s.sm.state = .normal) (running : s.rsc.halted = false) : s.barsLargeStep = false := by
  have none : s.ia.accounts.toList.any (·.inFlight) = false := by
    rw [List.any_eq_false]
    intro x hx
    obtain ⟨i, hi, rfl⟩ := List.mem_iff_getElem.1 hx
    simpa using idle ⟨i, by simpa using hi⟩
  simp [State.barsLargeStep, none, normal, running]

/-- A large step closes the OPEN accounts in METERING, at the old time (R33). -/
theorem State.takeLargeStep_metering (metering : s.cm.mode = .metering) (some_open : s.openCount ≠ 0) :
    s.takeLargeStep seconds millis =
      ((s.setTime seconds millis).raiseEvent ⟨.timeStep, s.closeTime, .atCount, true, true⟩).freshBoundary :=
  if_pos (show (s.setTime seconds millis).cm.mode = .metering ∧ (s.setTime seconds millis).openCount ≠ 0 from
    ⟨metering, some_open⟩)

theorem State.takeLargeStep_none (none : s.cm.mode = .commissioning ∨ s.openCount = 0) :
    s.takeLargeStep seconds millis = (s.setTime seconds millis).freshBoundary := by
  refine if_neg (show ¬ ((s.setTime seconds millis).cm.mode = .metering ∧ (s.setTime seconds millis).openCount ≠ 0)
    from ?_)
  rintro ⟨metering, some_open⟩
  rcases none with commissioning | none
  · exact nomatch commissioning.symm.trans metering
  · exact some_open none

/-- The next boundary that is set afresh at the new time (R32). -/
theorem State.freshBoundary_set {t : State} (tk : t.tk = (s.setTime seconds millis).tk) (cm : t.cm = s.cm) :
    t.freshBoundary.ia = { t.ia with
      nextBoundary := some ((seconds / (s.cm.tables.contract.minutes * 60) + 1) *
        (s.cm.tables.contract.minutes * 60)) } := by
  simp [State.freshBoundary, State.intervalSeconds, tk, cm, State.setTime, State.giveTimeInvalid, State.level]

/-! What a close makes of the condition sources. -/

theorem State.pulsed_source_other {i : Fin 16} (hi : i ≠ 12) (t : State) :
    (t.pulse .intervalClosed).giveRegisterFlag.cu.sources[i] = t.cu.sources[i] := by
  refine (ConditionUnit.give_source_other _ _ _ hi).trans ?_
  rw [show (t.pulse .intervalClosed).cu.sources = t.cu.sources from ConditionUnit.rise_sources _ _ _]

/-- A close gives no source but REGISTER-FLAG (R36, R182). -/
theorem State.closeAccount_source_other {i : Fin 16} (hi : i ≠ 12) (cause : EndCause) (endTime : Nat)
    (reopen : Reopen) (a : AccountId) (s : State) :
    (s.closeAccount cause endTime reopen a).cu.sources[i] = s.cu.sources[i] := by
  unfold State.closeAccount
  split
  · rfl
  · rw [State.pulsed_source_other hi, State.handRecord_cu, State.handBlock_cu]
    split <;> simp

theorem State.closeList_source_other {i : Fin 16} (hi : i ≠ 12) (cause : EndCause) (endTime : Nat)
    (reopen : Reopen) (l : List AccountId) (s : State) :
    (s.closeList cause endTime reopen l).cu.sources[i] = s.cu.sources[i] := by
  induction l generalizing s with
  | nil => rfl
  | cons a l ih => exact (ih _).trans (State.closeAccount_source_other hi cause endTime reopen a s)

theorem State.runEvent_source_other {i : Fin 16} (hi : i ≠ 12) (e : CloseEvent) (s : State) :
    (s.runEvent e).cu.sources[i] = s.cu.sources[i] := by
  have kept := State.closeList_source_other hi e.cause e.endTime e.reopen (List.finRange 8) s
  unfold State.runEvent State.closeAll
  dsimp only
  generalize s.closeList e.cause e.endTime e.reopen (List.finRange 8) = t at kept ⊢
  rw [← kept]
  cases e.fresh <;> rfl

/-- Where the closes of a large step can be made at once they are. -/
theorem State.takeLargeStep_made (metering : s.cm.mode = .metering) (ready : s.closesReady) :
    closesMade .timeStep s.closeTime (some seconds) (s.setTime seconds millis) (s.takeLargeStep seconds millis) ∧
      (s.takeLargeStep seconds millis).ia.waiting = [] ∧
      (s.takeLargeStep seconds millis).ia.nextBoundary = some ((seconds / (s.cm.tables.contract.minutes * 60) + 1) *
        (s.cm.tables.contract.minutes * 60)) ∧
      (s.takeLargeStep seconds millis).cu.sources[14] = false ∧ (s.takeLargeStep seconds millis).mlc = s.mlc ∧
      (s.takeLargeStep seconds millis).tk = (s.setTime seconds millis).tk ∧
      (s.takeLargeStep seconds millis).timeBase = s.timeBase ∧ (s.takeLargeStep seconds millis).store = s.store ∧
      (s.takeLargeStep seconds millis).cm = s.cm ∧ (s.takeLargeStep seconds millis).points = s.points ∧
      (s.takeLargeStep seconds millis).straps = s.straps := by
  have waiting : s.ia.waiting = [] := ready.2.2.1
  by_cases none : s.openCount = 0
  · rw [State.takeLargeStep_none (.inr none)]
    refine ⟨closesMade_of_none none rfl rfl rfl, waiting, ?_, s.setTime_source _ _, rfl, rfl, rfl, rfl, rfl, rfl, rfl⟩
    rw [State.freshBoundary_set rfl rfl]
  · rw [State.takeLargeStep_metering metering none,
      State.raiseEvent_of_closesReady (s := s.setTime seconds millis) ready]
    obtain ⟨made, ia⟩ := (s.setTime seconds millis).runEvent_made ⟨.timeStep, s.closeTime, .atCount, true, true⟩
    have source := (s.setTime seconds millis).runEvent_source_other (i := 14) (by decide)
      ⟨.timeStep, s.closeTime, .atCount, true, true⟩
    have waits := congrArg Accountant.waiting ia
    have frame := (s.setTime seconds millis).runEvent_frame ⟨.timeStep, s.closeTime, .atCount, true, true⟩
    clear ia
    generalize (s.setTime seconds millis).runEvent ⟨.timeStep, s.closeTime, .atCount, true, true⟩ = t at *
    obtain ⟨-, -, straps, tk, timeBase, -, -, points, -, -, store, cm, -, mlc, -⟩ := frame
    refine ⟨made.congr (after := rfl) (seq' := rfl) (queue' := rfl), waits.trans waiting, ?_,
      source.trans (s.setTime_source _ _), mlc, tk, timeBase, store, cm, points, straps⟩
    rw [State.freshBoundary_set (s := s) tk cm]

/-- Where they must wait the event joins those that do, after which the next boundary is set afresh all the same. -/
theorem State.takeLargeStep_waits (metering : s.cm.mode = .metering) (waits : s.closesWait) :
    s.takeLargeStep seconds millis =
      ((s.setTime seconds millis).waitEvent ⟨.timeStep, s.closeTime, .atCount, true, true⟩).freshBoundary := by
  rw [State.takeLargeStep_metering metering waits.2.2.1,
    State.raiseEvent_of_closesWait (s := s.setTime seconds millis) waits]

end

/-- Settles O33: the large step by the mode and by whether its closes can be made. -/
theorem timeSetLargeStep : Obligations.TimeSetLargeStep := by
  intro s f rest seconds millis served payload hs hm large
  dsimp only
  rw [exec_timeSet_served served payload hs (by omega), State.answerTimeSet_large hm large]
  have buffer := served.buffer
  have time : s.closeTime = if s.tk.valid then s.tk.seconds else 0 := rfl
  refine ⟨fun metering barred => ?_, fun metering idle ready => ?_, fun metering idle waits => ?_,
    fun commissioning unawaited => ?_⟩
  · rw [if_pos (State.barsLargeStep_of_metering metering barred), State.refuse_eq_refused buffer]
  · rw [if_neg (by rw [State.barsLargeStep_eq_false idle ready.1 (served.awake rfl)]; decide)]
    obtain ⟨made, waiting, boundary, source, mlc, tk, timeBase, store, cm, points, straps⟩ :=
      State.takeLargeStep_made (seconds := seconds) (millis := millis) metering ready
    generalize s.takeLargeStep seconds millis = t at *
    rw [State.finishTimeSet_acked (s := t) (f := f) (rest := rest) (by rw [mlc]; exact buffer) (by simp [waiting])]
    refine ⟨_, rfl, tk, ?_, boundary, source, State.acked_mlc mlc straps, timeBase, store, cm, points⟩
    exact made.congr (before := rfl) (seq := rfl) (queue := rfl) (tables := rfl) (valid := rfl) (after := rfl)
      (seq' := rfl) (queue' := rfl)
  · rw [if_neg (by rw [State.barsLargeStep_eq_false idle waits.1 (served.awake rfl)]; decide),
      State.takeLargeStep_waits metering waits,
      State.finishTimeSet_waits (x := ⟨.timeStep, s.closeTime, .atCount, true, true⟩) (by simp [State.freshBoundary,
        State.waitEvent, State.updIa]) rfl]
    refine ⟨_, rfl, rfl, ?_, s.setTime_source _ _, rfl, rfl⟩
    exact State.freshBoundary_set
      (t := (s.setTime seconds millis).waitEvent ⟨.timeStep, s.closeTime, .atCount, true, true⟩) rfl rfl
  · have bars : s.barsLargeStep = false := by simp [State.barsLargeStep, commissioning]
    rw [bars, if_neg (by decide), State.takeLargeStep_none (.inl commissioning),
      State.finishTimeSet_acked (s := (s.setTime seconds millis).freshBoundary) buffer unawaited]
    refine ⟨_, rfl, rfl, ?_, s.setTime_source _ _, rfl, rfl⟩
    exact State.freshBoundary_set rfl rfl

end Sys2Proof.Machine
end

section
/-! RESET (chapter 9.5). -/

namespace Sys2Proof.Machine

/-! ## What closes leave of the store controller -/

/-- A close hands a record and a register block over; nothing else of the store controller changes (R37, R40). -/
theorem State.closeAccount_controller (cause : EndCause) (endTime : Nat) (reopen : Reopen) (a : AccountId)
    (s : State) : (s.closeAccount cause endTime reopen a).rsc = { s.rsc with
      blockQueue := (s.closeAccount cause endTime reopen a).rsc.blockQueue
      recordQueue := (s.closeAccount cause endTime reopen a).rsc.recordQueue
      images := (s.closeAccount cause endTime reopen a).rsc.images } := by
  cases open_ : (s.ia.accounts[a]).interval with
  | none => rw [s.closeAccount_none cause endTime reopen open_]
  | some iv =>
    have rsc := (s.closeAccount_some cause endTime reopen open_).2
    dsimp only at rsc
    rw [rsc]

theorem State.closeList_controller (cause : EndCause) (endTime : Nat) (reopen : Reopen) (l : List AccountId)
    (s : State) : (s.closeList cause endTime reopen l).rsc = { s.rsc with
      blockQueue := (s.closeList cause endTime reopen l).rsc.blockQueue
      recordQueue := (s.closeList cause endTime reopen l).rsc.recordQueue
      images := (s.closeList cause endTime reopen l).rsc.images } := by
  induction l generalizing s with
  | nil => rfl
  | cons a l ih =>
    have first := s.closeAccount_controller cause endTime reopen a
    have others := ih (s.closeAccount cause endTime reopen a)
    rw [first] at others
    exact others

theorem State.runEvent_controller (e : CloseEvent) (s : State) : (s.runEvent e).rsc = { s.rsc with
    blockQueue := (s.runEvent e).rsc.blockQueue
    recordQueue := (s.runEvent e).rsc.recordQueue
    images := (s.runEvent e).rsc.images } := by
  have closed := s.closeList_controller e.cause e.endTime e.reopen (List.finRange 8)
  unfold State.runEvent State.closeAll
  dsimp only
  generalize s.closeList e.cause e.endTime e.reopen (List.finRange 8) = t at closed ⊢
  cases e.fresh <;> exact closed

/-! ## The reset that is taken -/

section
variable {s : State} {f : MsgFrame} {rest : List MsgFrame}

/-- The part as a RESET that is taken leaves it before its closes (R35, R181). -/
def State.resetBegun (s : State) (f : MsgFrame) (rest : List MsgFrame) : State :=
  { s with
    mlc := { (s.acked [] f rest).mlc with resetTaken := true }
    rsc := { s.rsc with patrolQueued := false } }

theorem exec_reset_served (served : s.serves .reset f rest) (payload : f.payload = []) :
    exec .reset s = .next s.answerReset :=
  exec_served (k := .reset) served (by simp [RequestKind.fits, payload])

theorem State.answerReset_halted (buffer : s.mlc.buffer = f :: rest) (halted : s.rsc.halted = true) :
    s.answerReset = { s with mlc := { (s.acked [] f rest).mlc with resetTaken := true } } := by
  unfold State.answerReset
  rw [if_neg (by simp [halted]), State.ack_eq_acked buffer]
  exact if_pos halted

theorem State.answerReset_normal (buffer : s.mlc.buffer = f :: rest) (running : s.rsc.halted = false)
    (normal : s.sm.state = .normal) :
    s.answerReset = if s.cm.mode = .metering ∧ s.openCount ≠ 0 then
        (s.resetBegun f rest).raiseEvent ⟨.reset, s.closeTime, .nothing, false, false⟩
      else s.resetBegun f rest := by
  unfold State.answerReset
  rw [if_neg (by simp [normal]), State.ack_eq_acked buffer]
  exact if_neg (Bool.not_eq_true _ ▸ running)

/-- No request is served from a taken RESET on (R181). -/
theorem exec_of_resetTaken {t : State} (taken : t.mlc.resetTaken = true) (k : RequestKind) :
    exec k.command t = .next t := by
  rw [exec_command, State.serve, if_pos (by simp [State.canServe, taken])]

theorem State.resetBegun_closesReady (ready : s.closesReady) : (s.resetBegun f rest).closesReady := by
  have places : (s.resetBegun f rest).rsc.freePlaces = s.rsc.freePlaces := by
    unfold Controller.freePlaces Controller.records
    rfl
  obtain ⟨normal, running, waiting, room, seq⟩ := ready
  exact ⟨normal, running, waiting, places ▸ room, seq⟩

theorem State.resetBegun_closesWait (waits : s.closesWait) : (s.resetBegun f rest).closesWait := by
  have places : (s.resetBegun f rest).rsc.freePlaces = s.rsc.freePlaces := by
    unfold Controller.freePlaces Controller.records
    rfl
  obtain ⟨normal, running, some_open, room⟩ := waits
  exact ⟨normal, running, some_open, room.imp_right fun few => places ▸ few⟩

end

/-- Settles O39: a RESET that is taken raises its event as any other, on the part as `State.resetBegun` has it. -/
theorem resetIsTaken : Obligations.ResetIsTaken := by
  intro s f rest served payload
  dsimp only
  rw [exec_reset_served served payload]
  have buffer := served.buffer
  refine ⟨fun running outside => ?_, fun halted => ?_, fun commissioning running normal => ?_,
    fun metering ready => ?_, fun metering waits => ?_⟩
  · rw [State.answerReset, if_pos (by simp [running, outside]), State.refuse_eq_refused buffer]
  · rw [State.answerReset_halted buffer halted]
  · rw [State.answerReset_normal buffer running normal, if_neg (by simp [commissioning])]
    rfl
  · rw [State.answerReset_normal buffer ready.2.1 ready.1]
    by_cases none : s.openCount = 0
    · rw [if_neg (by simp [none])]
      exact ⟨_, rfl, rfl, closesMade_of_none none rfl rfl rfl, rfl, rfl, rfl, rfl, rfl, rfl, rfl,
        exec_of_resetTaken rfl⟩
    · rw [if_pos ⟨metering, none⟩, State.raiseEvent_of_closesReady (State.resetBegun_closesReady ready)]
      obtain ⟨made, -⟩ := (s.resetBegun f rest).runEvent_made ⟨.reset, s.closeTime, .nothing, false, false⟩
      have frame := (s.resetBegun f rest).runEvent_frame ⟨.reset, s.closeTime, .nothing, false, false⟩
      have patrol := congrArg Controller.patrolQueued
        ((s.resetBegun f rest).runEvent_controller ⟨.reset, s.closeTime, .nothing, false, false⟩)
      generalize (s.resetBegun f rest).runEvent ⟨.reset, s.closeTime, .nothing, false, false⟩ = t at *
      obtain ⟨-, -, -, tk, -, links, wa, points, -, -, store, cm, -, mlc, -⟩ := frame
      exact ⟨t, rfl, mlc, made.congr (before := rfl) (seq := rfl) (queue := rfl) (tables := rfl) (valid := rfl)
        (after := rfl) (seq' := rfl) (queue' := rfl), patrol, store, cm, points, wa, links, tk,
        exec_of_resetTaken (by rw [mlc]; rfl)⟩
  · rw [State.answerReset_normal buffer waits.2.1 waits.1, if_pos ⟨metering, waits.2.2.1⟩,
      State.raiseEvent_of_closesWait (State.resetBegun_closesWait waits)]
    rfl

end Sys2Proof.Machine
end

section
/-! The receiver's discards, the notice, the order of refusals, and the reads (chapters 10.4 and 11). -/

namespace Sys2Proof.Machine

/-! ## The receiver -/

section
variable {s : State} {m : MsgController}

theorem exec_messageFrameReceived (powered : s.powered = true) (bytes : List Byte) :
    exec (.messageFrameReceived bytes) s = .next (s.receive bytes) := if_pos powered

theorem exec_strayByte (powered : s.powered = true) (b : Byte) :
    exec (.strayByte b) s = .next (s.receive [b]) := if_pos powered

theorem exec_framingError (powered : s.powered = true) : exec .framingError s = .next { s with
    mlc := { s.mlc.gapCheck with
      received := none
      counters := { s.mlc.gapCheck.counters with framing := countUp s.mlc.gapCheck.counters.framing } } } :=
  if_neg (by simp [powered])

/-- The bytes are taken after the check for a gap (R191). -/
theorem State.receive_of_gapCheck (h : s.mlc.gapCheck = m) (bytes : List Byte) : s.receive bytes =
    { s with mlc := bytes.foldl (MsgController.byte (byteOf s.straps.address.val)) m } := by
  rw [State.receive, State.updMlc, h]

/-- With no frame in reception, and without a gap, nothing is abandoned (R191). -/
theorem MsgController.gapCheck_of_none (none : m.received = none) : m.gapCheck = m := by
  simp [MsgController.gapCheck, none]

theorem MsgController.gapCheck_of_le (within : m.sinceByte ≤ 10) : m.gapCheck = m := by
  simp [MsgController.gapCheck, Config.byteGap, Nat.not_lt.2 within]

theorem MsgController.gapCheck_of_lt (receiving : m.received.isSome = true) (gap : 10 < m.sinceByte) :
    m.gapCheck = m.abandon := by
  simp [MsgController.gapCheck, Config.byteGap, receiving, gap]

theorem MsgController.byte_of_none (none : m.received = none) (own b : Byte) : m.byte own b = { m with
    sinceByte := 0
    received := if b = 0xA5 then some [] else Option.none
    counters := { m.counters with stray := if b = 0xA5 then m.counters.stray else countUp m.counters.stray } } := by
  unfold MsgController.byte
  dsimp only
  rw [none]
  by_cases start : b = 0xA5
  · refine (if_pos start).trans ?_
    simp only [if_pos start]
  · refine (if_neg start).trans ?_
    simp only [if_neg start]

theorem State.advance_mlc {dt : Nat} (powered : s.powered = true) :
    (s.advance dt).mlc = s.mlc.advance s.straps.rate dt := by
  unfold State.advance
  rw [if_pos powered]
  split <;> rfl

theorem State.advance_timeBase {dt : Nat} (powered : s.powered = true) :
    (s.advance dt).timeBase = s.timeBase + dt := by
  unfold State.advance
  rw [if_pos powered]
  split <;> rfl

end

/-- Settles O27: what the check for a gap and a single byte make of the receiver. -/
theorem receiverDiscards : Obligations.ReceiverDiscards := by
  intro s powered
  refine ⟨fun b none => ?_, fun b => ?_, fun receiving gap => ⟨fun bytes => ?_, ?_⟩, fun short => ?_,
    fun receiving => ?_⟩
  · rw [exec_strayByte powered, State.receive_of_gapCheck (MsgController.gapCheck_of_none none), List.foldl_cons,
      List.foldl_nil, MsgController.byte_of_none none]
  · rw [exec_strayByte powered, exec_messageFrameReceived powered]
  · rw [exec_messageFrameReceived powered, exec_messageFrameReceived (by exact powered),
      State.receive_of_gapCheck (MsgController.gapCheck_of_lt receiving gap),
      State.receive_of_gapCheck (MsgController.gapCheck_of_none rfl)]
    rfl
  · rw [exec_framingError powered, MsgController.gapCheck_of_lt receiving gap]
    rfl
  · have kept : s.mlc.gapCheck = s.mlc :=
      short.elim MsgController.gapCheck_of_none MsgController.gapCheck_of_le
    rw [exec_framingError powered, kept]
  · have mlc := State.advance_mlc (dt := 11 - s.mlc.sinceByte) powered
    refine ⟨_, if_pos (by simp [powered, receiving]), rfl, (congrArg MsgController.buffer mlc :), ?_,
      State.advance_timeBase powered, rfl⟩
    show ({ (s.advance (11 - s.mlc.sinceByte)).mlc.counters with
      gaps := countUp (s.advance (11 - s.mlc.sinceByte)).mlc.counters.gaps } : MsgCounters) = _
    rw [mlc]
    rfl

/-! ## The notice -/

theorem Rate.speed_pos (r : Rate) : 0 < r.speed := by cases r <;> decide

/-- Enough time empties the transmitter (R190). -/
theorem drainTx_of_le (frames : List (List Byte)) {sent : Nat} (enough : 100 * (frames.map List.length).sum ≤ sent) :
    drainTx frames sent = ([], 0) := by
  induction frames generalizing sent with
  | nil => rfl
  | cons f rest ih =>
    rw [List.map_cons, List.sum_cons] at enough
    rw [drainTx, if_neg (by omega)]
    exact ih (by omega)

/-- After its send time the transmitter of the message link holds nothing. -/
theorem MsgController.advance_txTime (s : State) : (s.mlc.advance s.straps.rate s.txTime).tx = [] := by
  have sent : 100 * (s.mlc.tx.map List.length).sum ≤ s.mlc.txSent + s.txTime * s.straps.rate.speed := by
    have up := Nat.div_add_mod (100 * (s.mlc.tx.map List.length).sum - s.mlc.txSent + s.straps.rate.speed - 1)
      s.straps.rate.speed
    have below := Nat.mod_lt (100 * (s.mlc.tx.map List.length).sum - s.mlc.txSent + s.straps.rate.speed - 1)
      (Rate.speed_pos s.straps.rate)
    rw [State.txTime, State.sendTime]
    rw [Nat.mul_comm] at up
    omega
  unfold MsgController.advance
  rw [drainTx_of_le _ sent]

/-- Settles O28: the notice is formed once the transmitter has been emptied. -/
theorem noticeTransmits : Obligations.NoticeTransmits := by
  intro s powered pending
  dsimp only
  have mlc := State.advance_mlc (dt := s.txTime) powered
  have straps : (s.advance s.txTime).straps = s.straps := by simp
  refine ⟨_, if_pos (by simp [powered, pending]), rfl, ?_, (congrArg MsgController.buffer mlc :),
    (congrArg MsgController.counters mlc :), rfl⟩
  show (s.advance s.txTime).mlc.tx ++ [_] = _
  rw [mlc, MsgController.advance_txTime, straps]
  rfl

/-! ## Requests -/

/-- Settles O29: the checks of a request in the order in which `State.serve` makes them. -/
theorem refusalOrder : Obligations.RefusalOrder := by
  intro s f rest ⟨powered, idle, untaken, buffer⟩
  have serves : s.canServe = true := by simp [State.canServe, powered, idle, untaken]
  refine ⟨fun outside => ?_, fun k kind => ⟨fun unfit => ?_, fun fits halted notIdent notStatus notReset => ?_⟩⟩
  · have unknown : isRequestCode f.kind = false := by
      rw [isRequestCode, decide_eq_false_iff_not]
      omega
    show execUnknownRequestKind s = _
    simp [execUnknownRequestKind, serves, buffer, unknown, State.refuse_eq_refused buffer]
  · rw [exec_command]
    simp [State.serve, serves, buffer, kind, unfit, State.refuse_eq_refused buffer]
  · have barred : k.servedInHalted = false := by
      cases k with
      | ident => exact absurd rfl notIdent
      | status => exact absurd rfl notStatus
      | reset => exact absurd rfl notReset
      | _ => rfl
    rw [exec_command]
    simp [State.serve, serves, buffer, kind, fits, halted, barred, State.refuse_eq_refused buffer]

/-! ## The tables as a payload names them -/

theorem byteOf_toNat {n : Nat} (h : n < 256) : (byteOf n).toNat = n := by
  rw [byteOf, BitVec.toNat_ofNat, Nat.mod_eq_of_lt h]

theorem natAt_cons_zero (b : Byte) (rest : List Byte) : natAt (b :: rest) 0 1 = b.toNat := by
  simp [natAt, field, leNat]

theorem natAt_cons_succ (b : Byte) (rest : List Byte) (start width : Nat) :
    natAt (b :: rest) (start + 1) width = natAt rest start width := rfl

theorem tableCode_le (t : TableId) : tableCode t ≤ 10 := by cases t <;> decide

theorem tableOf_tableCode (t : TableId) : tableOf (tableCode t) = some t := by cases t <;> rfl

theorem tableOf_of_outside {code : Nat} (outside : code = 0 ∨ 10 < code) : tableOf code = none := by
  rcases outside with rfl | above
  · rfl
  · rw [tableOf, if_neg (by omega), List.getElem?_eq_none]
    simp only [TableId.all, List.length_cons, List.length_nil]
    omega

theorem TablePart.selector_length (p : TablePart) : p.selector.length = selectorLength p.table := by
  cases p <;> rfl

theorem finOf_natAt_byteOf {k : Nat} (hk : k ≤ 256) (i : Fin k) (rest : List Byte) :
    finOf k (natAt (byteOf i.val :: rest) 0 1) = some i := by
  rw [natAt_cons_zero, byteOf_toNat (by omega), finOf_of_eq i rfl]

/-- A part that a table holds is the one that its code and selector name (R206). -/
theorem Tables.select_of_holds {t : Tables} {p : TablePart} (held : t.holds p = true) :
    t.select (byteOf (tableCode p.table) :: p.selector) = some p := by
  have code : (byteOf (tableCode p.table)).toNat = tableCode p.table :=
    byteOf_toNat (Nat.lt_of_le_of_lt (tableCode_le _) (by decide))
  unfold Tables.select
  simp only [natAt_cons_zero (byteOf (tableCode p.table)), natAt_cons_succ, code, tableOf_tableCode]
  cases p with
  | links l e | points l e | topology l e | bands l e =>
    rw [← eq_of_beq held]
    simp only [TablePart.table, TablePart.selector, finOf_natAt_byteOf, Nat.reduceLeDiff, Option.map_some]
  | breaker b e =>
    have other : ¬ natAt [byteOf b.val] 0 1 = 8 := by
      rw [natAt_cons_zero, byteOf_toNat (by omega)]
      omega
    rw [← eq_of_beq held]
    simp only [TablePart.table, TablePart.selector, if_neg other, finOf_natAt_byteOf, Nat.reduceLeDiff, Option.map_some]
  | settle n =>
    rw [← eq_of_beq held]
    rfl
  | composition m a terms =>
    rw [← eq_of_beq held]
    simp only [TablePart.table, TablePart.selector, natAt_cons_succ, finOf_natAt_byteOf, Nat.reduceLeDiff]
  | contract c | health c | notice c | patrol c =>
    rw [← eq_of_beq held]
    rfl

theorem fitsTable_selector (p : TablePart) :
    fitsTable false (byteOf (tableCode p.table) :: p.selector) = true := by
  have code : (byteOf (tableCode p.table)).toNat = tableCode p.table :=
    byteOf_toNat (Nat.lt_of_le_of_lt (tableCode_le _) (by decide))
  simp [fitsTable, code, tableOf_tableCode, TablePart.selector_length, Nat.add_comm]

/-! ## The reads -/

section
variable {s : State} {n : Nat}

theorem State.answerAccountRead_of_eq (a : AccountId) (h : n = a.val) :
    s.answerAccountRead n = s.ack (s.accountPayload a) := by
  rw [State.answerAccountRead, finOf_of_eq a h]

theorem State.answerAccountRead_of_le (h : 8 ≤ n) : s.answerAccountRead n = s.refuse .range := by
  rw [State.answerAccountRead, finOf_of_le h]

theorem State.answerLinkStatus_of_eq (l : LinkId) (h : n = l.val) :
    s.answerLinkStatus n = s.ack (s.linkPayload l) := by
  rw [State.answerLinkStatus, finOf_of_eq l h]

theorem State.answerLinkStatus_of_le (h : 4 ≤ n) : s.answerLinkStatus n = s.refuse .range := by
  rw [State.answerLinkStatus, finOf_of_le h]

theorem State.answerPointStatus_of_eq (p : PointId) (h : n = p.val) :
    s.answerPointStatus n = s.ack (s.pointPayload p) := by
  rw [State.answerPointStatus, finOf_of_eq p h]

theorem State.answerPointStatus_of_le (h : 16 ≤ n) : s.answerPointStatus n = s.refuse .range := by
  rw [State.answerPointStatus, finOf_of_le h]

end

/-- Settles O30: each read is served, and answers from the state that it finds. -/
theorem readRequestsAnswer : Obligations.ReadRequestsAnswer := by
  intro s f rest
  have served {k : RequestKind} (h : s.serves k f rest) (fits : k.fits f.payload = true) :=
    exec_served h fits
  refine ⟨fun h p => ?_, fun h p => ?_, fun h p => ?_, fun h p => ?_, fun n p => ⟨fun h => ?_, fun h => ?_, fun h => ?_⟩,
    fun part h held p => ?_, fun code h p outside => ?_⟩
  · exact (served h (by simp [p, RequestKind.fits])).trans (congrArg _ (State.ack_eq_acked h.buffer _))
  · exact (served h (by simp [p, RequestKind.fits])).trans (congrArg _ (State.ack_eq_acked h.buffer _))
  · exact (served h (by simp [p, RequestKind.fits])).trans (congrArg _ (State.ack_eq_acked h.buffer _))
  · exact (served h (by simp [p, RequestKind.fits])).trans (congrArg _ (State.ack_eq_acked h.buffer _))
  · have run : exec .accountRead s = .next (s.answerAccountRead (natAt f.payload 0 1)) :=
      served h (by simp [p, RequestKind.fits])
    rw [run, p, natAt_cons_zero]
    exact ⟨fun a ha => by rw [State.answerAccountRead_of_eq a ha, State.ack_eq_acked h.buffer],
      fun big => by rw [State.answerAccountRead_of_le big, State.refuse_eq_refused h.buffer]⟩
  · have run : exec .linkStatus s = .next (s.answerLinkStatus (natAt f.payload 0 1)) :=
      served h (by simp [p, RequestKind.fits])
    rw [run, p, natAt_cons_zero]
    exact ⟨fun a ha => by rw [State.answerLinkStatus_of_eq a ha, State.ack_eq_acked h.buffer],
      fun big => by rw [State.answerLinkStatus_of_le big, State.refuse_eq_refused h.buffer]⟩
  · have run : exec .pointStatus s = .next (s.answerPointStatus (natAt f.payload 0 1)) :=
      served h (by simp [p, RequestKind.fits])
    rw [run, p, natAt_cons_zero]
    exact ⟨fun a ha => by rw [State.answerPointStatus_of_eq a ha, State.ack_eq_acked h.buffer],
      fun big => by rw [State.answerPointStatus_of_le big, State.refuse_eq_refused h.buffer]⟩
  · have run : exec .tableGet s = .next (s.answerTableGet f.payload) :=
      served h (by rw [p]; exact fitsTable_selector part)
    rw [run, State.answerTableGet, p, Tables.select_of_holds held]
    exact congrArg _ (State.ack_eq_acked h.buffer _)
  · obtain ⟨rest', hf⟩ := List.head?_eq_some_iff.1 p
    have none : tableOf code.toNat = Option.none :=
      tableOf_of_outside (outside.imp_left fun zero => by rw [zero]; rfl)
    have run : exec .tableGet s = .next (s.answerTableGet f.payload) :=
      served h (by rw [hf, RequestKind.fits, fitsTable, none])
    have unnamed : s.cm.tables.select (code :: rest') = Option.none := by
      rw [Tables.select, natAt_cons_zero, none]
    rw [run, State.answerTableGet, hf, unnamed]
    exact congrArg _ (State.refuse_eq_refused h.buffer _)

end Sys2Proof.Machine
end

section
/-! The condition unit: a rise, a fall, STATUS and CLEAR (chapter 10, R197). -/

namespace Sys2Proof.Machine

/-! ## ALERT -/

/-- ALERT is driven exactly while some flag is latched and unmasked (R187). -/
def ConditionUnit.Lit (masked : Vector Bool 16) (cu : ConditionUnit) : Prop :=
  cu.alert = true ↔ ∃ i : Fin 16, cu.flags[i] = true ∧ masked[i] = false

theorem ConditionUnit.evaluate_lit (masked : Vector Bool 16) (cu : ConditionUnit) :
    (cu.evaluate masked).Lit masked := by
  simp [ConditionUnit.Lit, ConditionUnit.evaluate, ConditionUnit.alertNow]

/-! ## A rise and a fall -/

/-- `t` is the unit after a rise of condition `i` in `cu`, the sources apart (R183, R188). -/
def ConditionUnit.Risen (masked : Vector Bool 16) (i : Fin 16) (cu t : ConditionUnit) : Prop :=
  t.flags[i] = true ∧
    (∀ j : Fin 16, j ≠ i → t.flags[j] = cu.flags[j] ∧ t.rises[j] = cu.rises[j]) ∧
    (cu.flags[i] = true → t.rises[i] = min 255 (cu.rises[i] + 1) ∧ t.alert = cu.alert ∧
      t.noticePending = cu.noticePending) ∧
    (cu.flags[i] = false → t.rises[i] = 1 ∧ t.Lit masked ∧
      t.noticePending = (cu.noticePending || !masked[i]))

theorem vector_set_other {α : Type} {n : Nat} (v : Vector α n) {i j : Fin n} (x : α) (h : j ≠ i) :
    (v.set i x)[j] = v[j] :=
  Vector.getElem_set_ne i.isLt j.isLt fun e => h (Fin.ext e.symm)

theorem vector_set_same {α : Type} {n : Nat} (v : Vector α n) (i : Fin n) (x : α) : (v.set i x)[i] = x :=
  Vector.getElem_set_self i.isLt

theorem ConditionUnit.rise_risen (masked : Vector Bool 16) (c : Condition) (cu : ConditionUnit) :
    ConditionUnit.Risen masked c.idx cu (cu.rise masked c) := by
  refine ⟨cu.rise_flag masked c, ?_⟩
  unfold ConditionUnit.rise
  split
  next latched =>
    exact ⟨fun j hj => ⟨rfl, vector_set_other _ _ hj⟩, fun _ => ⟨vector_set_same _ _ _, rfl, rfl⟩,
      fun clear => absurd latched (by simp [clear])⟩
  next unlatched =>
    exact ⟨fun j hj => ⟨vector_set_other _ _ hj, vector_set_other _ _ hj⟩, fun latched => absurd latched unlatched,
      fun _ => ⟨vector_set_same _ _ _, ConditionUnit.evaluate_lit masked _, rfl⟩⟩

theorem ConditionUnit.give_same {n : NoticeTable} {c : Condition} {cu : ConditionUnit} {level : Bool}
    (same : cu.sources[c.idx] = level) : cu.give n c level = cu := by
  subst same
  exact if_pos (beq_self_eq_true _)

theorem ConditionUnit.give_rise {n : NoticeTable} {c : Condition} {cu : ConditionUnit}
    (low : cu.sources[c.idx] = false) :
    cu.give n c true = ({ cu with sources := cu.sources.set c.idx true } : ConditionUnit).rise n.masked c := by
  simp [ConditionUnit.give, low]

theorem ConditionUnit.give_fall {n : NoticeTable} {c : Condition} {cu : ConditionUnit}
    (high : cu.sources[c.idx] = true) : cu.give n c false = cu.fall n c := by
  simp [ConditionUnit.give, high]

theorem ConditionUnit.fall_follow {n : NoticeTable} {c : Condition} {cu : ConditionUnit}
    (follow : n.discipline = .follow) : cu.fall n c =
      ({ cu with
        sources := cu.sources.set c.idx false
        flags := cu.flags.set c.idx false
        rises := cu.rises.set c.idx 0 } : ConditionUnit).evaluate n.masked := by
  simp only [ConditionUnit.fall, follow]

theorem ConditionUnit.fall_hold {n : NoticeTable} {c : Condition} {cu : ConditionUnit}
    (hold : n.discipline = .hold) : cu.fall n c = { cu with sources := cu.sources.set c.idx false } := by
  simp only [ConditionUnit.fall, hold]

/-! ## STATUS and CLEAR -/

section
variable {s : State} {f : MsgFrame} {rest : List MsgFrame}

/-- What clearing flags makes of each (R184, R185). -/
theorem ConditionUnit.clearWhere_flag (masked : Vector Bool 16) (drop : Fin 16 → Bool) (cu : ConditionUnit)
    (i : Fin 16) : (cu.clearWhere masked drop).flags[i] = (cu.flags[i] && !drop i) ∧
      (cu.clearWhere masked drop).rises[i] = if cu.flags[i] && drop i then 0 else cu.rises[i] := by
  simp [ConditionUnit.clearWhere, ConditionUnit.evaluate]

theorem ConditionUnit.clearWhere_lit (masked : Vector Bool 16) (drop : Fin 16 → Bool) (cu : ConditionUnit) :
    (cu.clearWhere masked drop).Lit masked := ConditionUnit.evaluate_lit _ _

theorem ConditionUnit.clearWhere_kept (masked : Vector Bool 16) (drop : Fin 16 → Bool) (cu : ConditionUnit) :
    (cu.clearWhere masked drop).sources = cu.sources ∧
      (cu.clearWhere masked drop).noticePending = cu.noticePending := by
  simp only [ConditionUnit.clearWhere, ConditionUnit.evaluate, and_self]

theorem State.answerStatus_eq (buffer : s.mlc.buffer = f :: rest) :
    s.answerStatus = { s with
      cu := s.cu.statusFormed s.cm.tables.notice
      mlc := (s.acked s.statusPayload f rest).mlc } := by
  unfold State.answerStatus
  dsimp only
  rw [State.ack_eq_acked (by exact buffer)]
  rfl

theorem State.answerClear_hold (buffer : s.mlc.buffer = f :: rest) (hold : s.cm.tables.notice.discipline = .hold)
    (named : Nat) {cu : ConditionUnit} (cleared : s.cu.clearNamed s.cm.tables.notice.masked named = cu) :
    s.answerClear named = { s with cu := cu, mlc := (s.acked (cu.flagBytes ++ cu.riseBytes) f rest).mlc } := by
  subst cleared
  unfold State.answerClear
  rw [hold]
  exact State.ack_eq_acked (s := { s with cu := s.cu.clearNamed s.cm.tables.notice.masked named }) buffer _

end

/-- Settles O31: rises and falls by `ConditionUnit.Risen`, the replies by what clearing makes of each flag. -/
theorem statusAndClearAnswer : Obligations.StatusAndClearAnswer := by
  refine ⟨fun n c cu => ?_, fun s f rest => ⟨fun served payload => ?_, fun served length => ⟨fun follow => ?_,
    fun hold => ?_⟩⟩⟩
  · dsimp only
    refine ⟨?_, fun level same => ConditionUnit.give_same same, fun low => ?_, fun high => ?_⟩
    · obtain ⟨flag, others, latched, unlatched⟩ := cu.rise_risen n.masked c
      have sources := cu.rise_sources n.masked c
      exact ⟨flag, sources, fun j hj => ⟨(others j hj).1, (others j hj).2, by rw [sources]⟩, latched, unlatched⟩
    · rw [ConditionUnit.give_rise low]
      obtain ⟨flag, others, latched, unlatched⟩ :=
        ({ cu with sources := cu.sources.set c.idx true } : ConditionUnit).rise_risen n.masked c
      have sources := ({ cu with sources := cu.sources.set c.idx true } : ConditionUnit).rise_sources n.masked c
      refine ⟨flag, sources, fun j hj => ⟨(others j hj).1, (others j hj).2, ?_⟩, latched, unlatched⟩
      rw [sources]
      exact vector_set_other _ _ hj
    · rw [ConditionUnit.give_fall high]
      cases discipline : n.discipline with
      | follow =>
        rw [ConditionUnit.fall_follow discipline]
        exact ⟨vector_set_same _ _ _, fun j hj => ⟨vector_set_other _ _ hj, vector_set_other _ _ hj,
          vector_set_other _ _ hj⟩, rfl, fun _ => ⟨vector_set_same _ _ _, vector_set_same _ _ _,
          ConditionUnit.evaluate_lit n.masked _⟩, fun other => nomatch other⟩
      | hold =>
        rw [ConditionUnit.fall_hold discipline]
        exact ⟨vector_set_same _ _ _, fun j hj => ⟨rfl, rfl, vector_set_other _ _ hj⟩, rfl,
          fun other => (nomatch other), fun _ => rfl⟩
  · refine ⟨s.answerStatus, exec_served (k := .status) served (by simp [RequestKind.fits, payload]), ?_⟩
    rw [State.answerStatus_eq served.buffer]
    refine ⟨rfl, rfl, ?_⟩
    cases discipline : s.cm.tables.notice.discipline with
    | follow =>
      have formed : s.cu.statusFormed s.cm.tables.notice =
          ({ s.cu with noticePending := false } : ConditionUnit).clearWhere s.cm.tables.notice.masked
            fun i => !(i.val == 0 && s.cu.sources[i]) := by
        simp only [ConditionUnit.statusFormed, discipline]
      rw [formed]
      have lit := ConditionUnit.clearWhere_lit s.cm.tables.notice.masked
        (fun i => !(i.val == 0 && s.cu.sources[i])) { s.cu with noticePending := false }
      have kept := ConditionUnit.clearWhere_kept s.cm.tables.notice.masked
        (fun i => !(i.val == 0 && s.cu.sources[i])) { s.cu with noticePending := false }
      have bits := ConditionUnit.clearWhere_flag s.cm.tables.notice.masked
        (fun i => !(i.val == 0 && s.cu.sources[i])) { s.cu with noticePending := false }
      generalize ConditionUnit.clearWhere _ _ _ = cu at lit kept bits ⊢
      refine ⟨kept.2, kept.1, fun other => (nomatch other), fun _ => ⟨lit, fun i => ⟨?_, (bits i).2.trans ?_⟩⟩⟩
      · simpa [Bool.and_assoc] using (bits i).1
      · rw [(bits i).1]
        cases s.cu.flags[i] <;> simp
    | hold =>
      have formed : s.cu.statusFormed s.cm.tables.notice = { s.cu with noticePending := false } := by
        simp only [ConditionUnit.statusFormed, discipline]
      rw [formed]
      exact ⟨rfl, rfl, fun _ => ⟨rfl, rfl, rfl⟩, fun other => nomatch other⟩
  · have run : exec .clear s = .next (s.answerClear (natAt f.payload 0 2)) :=
      exec_served (k := .clear) served (by simp [RequestKind.fits, length])
    rw [run, State.answerClear, follow]
    exact congrArg _ (State.refuse_eq_refused served.buffer _)
  · have run : exec .clear s = .next (s.answerClear (natAt f.payload 0 2)) :=
      exec_served (k := .clear) served (by simp [RequestKind.fits, length])
    have named : natAt f.payload 0 2 = leNat f.payload := by
      simp [natAt, field, ← length]
    rw [run, named, State.answerClear_hold served.buffer hold _ rfl]
    have lit := ConditionUnit.clearWhere_lit s.cm.tables.notice.masked
      (fun i => (leNat f.payload).testBit i.val && (isPulse i || !s.cu.sources[i])) s.cu
    have kept := ConditionUnit.clearWhere_kept s.cm.tables.notice.masked
      (fun i => (leNat f.payload).testBit i.val && (isPulse i || !s.cu.sources[i])) s.cu
    have bits := ConditionUnit.clearWhere_flag s.cm.tables.notice.masked
      (fun i => (leNat f.payload).testBit i.val && (isPulse i || !s.cu.sources[i])) s.cu
    unfold ConditionUnit.clearNamed
    generalize ConditionUnit.clearWhere _ _ _ = cu at lit kept bits ⊢
    refine ⟨_, rfl, rfl, rfl, kept.2, kept.1, lit, fun i => ⟨(bits i).1.trans ?_, (bits i).2.trans ?_⟩⟩
    · cases s.cu.flags[i] <;> simp [isPulse]
    · rw [← Bool.and_assoc]
      rfl

end Sys2Proof.Machine
end

section
/-! A frame on the message link, byte by byte (chapters 11.1 and 11.2). -/

namespace Sys2Proof.Machine

/-! ## The bytes after the start byte -/

section
variable {own address kind tag : Byte} {payload check had more tail : List Byte} {m : MsgController}

theorem msgBody_eq : msgBody address kind tag payload =
    address :: kind :: tag :: BitVec.ofNat 8 payload.length :: BitVec.ofNat 8 (payload.length / 256) :: payload := rfl

theorem msgBody_length : (msgBody address kind tag payload).length = 5 + payload.length := by
  simp [msgBody]
  omega

/-- A frame in reception that holds its header names the length of its payload. -/
theorem natAt_prefix (whole : had ++ more = msgBody address kind tag payload ++ check) (five : 5 ≤ had.length)
    (limit : payload.length ≤ 1024) : natAt had 3 2 = payload.length := by
  have same : field had 3 2 = leBytes 2 payload.length := by
    have front := congrArg (fun l => field l 3 2) whole
    have before : field (had ++ more) 3 2 = field had 3 2 := by
      rw [field, field, List.drop_append_of_le_length (by omega), List.take_append_of_le_length (by simp; omega)]
    exact before.symm.trans front
  rw [natAt, same, leNat_leBytes_of_lt (by omega)]

/-- A byte that does not complete the frame leaves it in reception (R191). -/
theorem MsgController.frameByte_prefix (whole : had ++ more = msgBody address kind tag payload ++ check)
    (checks : check.length = 2) (limit : payload.length ≤ 1024) (left : more ≠ []) :
    m.frameByte own had = { m with received := some had } := by
  have short : had.length < 7 + payload.length := by
    have length := congrArg List.length whole
    have some := List.length_pos_of_ne_nil left
    rw [List.length_append, List.length_append, msgBody_length] at length
    omega
  unfold MsgController.frameByte
  by_cases header : had.length < 5
  · exact if_pos header
  · rw [natAt_prefix whole (by omega) limit, if_neg header, if_neg (by simp [Config.payloadLimit]; omega), if_pos short]

/-- The byte that completes the frame has it checked. -/
theorem MsgController.frameByte_whole (checks : check.length = 2) (limit : payload.length ≤ 1024) :
    m.frameByte own (msgBody address kind tag payload ++ check) =
      m.check own (msgBody address kind tag payload ++ check) := by
  have length : (msgBody address kind tag payload ++ check).length = 7 + payload.length := by
    rw [List.length_append, msgBody_length]
    omega
  unfold MsgController.frameByte
  rw [natAt_prefix (more := []) (List.append_nil _) (by omega) limit, length, if_neg (by omega),
    if_neg (by simp [Config.payloadLimit]; omega), if_neg (by omega)]

theorem MsgController.byte_of_some (receiving : m.received = some had) (b : Byte) :
    m.byte own b = ({ m with sinceByte := 0 } : MsgController).frameByte own (had ++ [b]) := by
  simp [MsgController.byte, receiving]

/-- Bytes that do not complete the frame stay in reception. -/
theorem MsgController.foldl_prefix (checks : check.length = 2) (limit : payload.length ≤ 1024) (left : tail ≠ [])
    (whole : had ++ (more ++ tail) = msgBody address kind tag payload ++ check) (receiving : m.received = some had)
    (since : m.sinceByte = 0) : more.foldl (MsgController.byte own) m = { m with received := some (had ++ more) } := by
  induction more generalizing had m with
  | nil => simp [← receiving]
  | cons b more ih =>
    have next : (had ++ [b]) ++ (more ++ tail) = msgBody address kind tag payload ++ check := by
      rw [← whole]
      simp
    rw [List.foldl_cons, MsgController.byte_of_some receiving,
      MsgController.frameByte_prefix next checks limit (by simp [left]), ih next rfl rfl]
    simp [← since]

/-- The rest of a frame in reception completes it. -/
theorem MsgController.foldl_whole (checks : check.length = 2) (limit : payload.length ≤ 1024) (left : more ≠ [])
    (whole : had ++ more = msgBody address kind tag payload ++ check) (receiving : m.received = some had) :
    more.foldl (MsgController.byte own) m =
      ({ m with sinceByte := 0 } : MsgController).check own (msgBody address kind tag payload ++ check) := by
  induction more generalizing had m with
  | nil => exact absurd rfl left
  | cons b more ih =>
    have next : (had ++ [b]) ++ more = msgBody address kind tag payload ++ check := by
      rw [← whole]
      simp
    rw [List.foldl_cons, MsgController.byte_of_some receiving]
    cases more with
    | nil =>
      rw [List.append_nil] at next
      rw [next, MsgController.frameByte_whole checks limit, List.foldl_nil]
    | cons c more =>
      rw [MsgController.frameByte_prefix next checks limit (by simp), ih (by simp) next rfl]
      rfl

/-! ## The judgement of a whole frame -/

/-- What becomes of a frame by its address (R192, R193). -/
def MsgController.addressed (own address kind tag : Byte) (payload : List Byte) (m : MsgController) : MsgController :=
  if address = own ∨ (address = 0x0F ∧ kind = 0x04) then
    if m.buffer.length < 2 then
      { m with
        buffer := m.buffer ++ [⟨decide (address ≠ own), kind, tag, payload⟩]
        counters := { m.counters with buffered := countUp m.counters.buffered } }
    else { m with counters := { m.counters with overflows := countUp m.counters.overflows } }
  else if address = 0x0F then
    { m with counters := { m.counters with broadcastsIgnored := countUp m.counters.broadcastsIgnored } }
  else { m with counters := { m.counters with otherAddress := countUp m.counters.otherAddress } }

theorem MsgController.join_eq (f : MsgFrame) : m.join f =
    if m.buffer.length < 2 then
      { m with
        buffer := m.buffer ++ [f], counters := { m.counters with buffered := countUp m.counters.buffered } }
    else { m with counters := { m.counters with overflows := countUp m.counters.overflows } } := rfl

theorem MsgController.judge_eq : m.judge own address kind tag payload = m.addressed own address kind tag payload := by
  unfold MsgController.judge MsgController.addressed
  rw [MsgController.join_eq, MsgController.join_eq]
  by_cases ours : address = own
  · have other : decide (address ≠ own) = false := by simp [ours]
    rw [if_pos ours, if_pos (Or.inl ours), other]
  · have other : decide (address ≠ own) = true := by simp [ours]
    rw [if_neg ours, other]
    by_cases all : address = broadcastAddress
    · rw [if_pos all]
      by_cases time : kind = kindTimeSet
      · rw [if_pos time, if_pos (Or.inr ⟨all, time⟩)]
      · rw [if_neg time, if_neg (not_or.2 ⟨ours, fun both => time both.2⟩)]
        exact (if_pos all).symm
    · rw [if_neg all, if_neg (not_or.2 ⟨ours, fun both => all both.1⟩)]
      exact (if_neg all).symm

/-- A whole frame is checked and then judged by its address (R191). -/
theorem MsgController.check_eq (checks : check.length = 2) : m.check own (msgBody address kind tag payload ++ check) =
    if check ≠ leBytes 2 (crc16 (msgBody address kind tag payload)).toNat then
      { m with received := none, counters := { m.counters with crcErrors := countUp m.counters.crcErrors } }
    else ({ m with received := none } : MsgController).addressed own address kind tag payload := by
  have covers : (msgBody address kind tag payload ++ check).length - 2 = (msgBody address kind tag payload).length := by
    simp [checks]
  unfold MsgController.check
  rw [covers, List.take_left, List.drop_left]
  dsimp only
  rw [msgBody_eq]
  dsimp only
  rw [← msgBody_eq, MsgController.judge_eq, ← crc16Bytes]
  by_cases good : crc16Bytes (msgBody address kind tag payload) = check
  · rw [if_pos good, if_neg (not_not_intro good.symm)]
  · rw [if_neg good, if_pos (Ne.symm good)]

/-! ## Bytes that arrive one after another -/

theorem MsgController.join_since (f : MsgFrame) : (m.join f).sinceByte = m.sinceByte := by
  unfold MsgController.join
  split <;> rfl

theorem MsgController.check_since (bytes : List Byte) : (m.check own bytes).sinceByte = m.sinceByte := by
  unfold MsgController.check MsgController.judge
  dsimp only
  (repeat' split) <;> simp only [MsgController.join_since]

theorem MsgController.byte_since (b : Byte) : (m.byte own b).sinceByte = 0 := by
  unfold MsgController.byte MsgController.frameByte
  dsimp only
  (repeat' split) <;> simp only [MsgController.check_since]

/-- Once the gap before the first byte has been judged, there is none before the next (R191). -/
theorem MsgController.foldl_gapCheck (bytes : List Byte) (judged : m.gapCheck = m) :
    (bytes.foldl (MsgController.byte own) m).gapCheck = bytes.foldl (MsgController.byte own) m := by
  induction bytes generalizing m with
  | nil => exact judged
  | cons b rest ih => exact ih (MsgController.gapCheck_of_le (by rw [MsgController.byte_since]; decide))

theorem MsgController.gapCheck_gapCheck : m.gapCheck.gapCheck = m.gapCheck := by
  by_cases gap : m.received.isSome = true ∧ 10 < m.sinceByte
  · rw [MsgController.gapCheck_of_lt gap.1 gap.2]
    exact MsgController.gapCheck_of_none rfl
  · have kept : m.gapCheck = m :=
      if_neg fun both => gap ((Bool.and_eq_true_iff.1 both).imp_right of_decide_eq_true)
    rw [kept, kept]

end

/-! ## The commands -/

/-- What becomes of a whole frame, with all of the state (R191 to R193). -/
def State.frameJudged (address kind tag : Byte) (payload check : List Byte) (s : State) :
    Host.Outcome State Fault Refusal :=
  let c := s.mlc.counters
  let after (buffer : List MsgFrame) (counters : MsgCounters) : Host.Outcome State Fault Refusal :=
    .next { s with
      mlc := { s.mlc with sinceByte := 0, received := none, buffer := buffer, counters := counters } }
  if check ≠ leBytes 2 (crc16 (msgBody address kind tag payload)).toNat then
    after s.mlc.buffer { c with crcErrors := countUp c.crcErrors }
  else if address = byteOf s.straps.address.val ∨ (address = 0x0F ∧ kind = 0x04) then
    if s.mlc.buffer.length < 2 then
      after (s.mlc.buffer ++ [⟨decide (address ≠ byteOf s.straps.address.val), kind, tag, payload⟩])
        { c with buffered := countUp c.buffered }
    else after s.mlc.buffer { c with overflows := countUp c.overflows }
  else if address = 0x0F then after s.mlc.buffer { c with broadcastsIgnored := countUp c.broadcastsIgnored }
  else after s.mlc.buffer { c with otherAddress := countUp c.otherAddress }

section
variable {s : State} {address kind tag : Byte} {payload check : List Byte}

theorem State.frameJudged_eq (checks : check.length = 2) (received : Option (List Byte)) :
    Host.Outcome.next { s with
      mlc := ({ s.mlc with sinceByte := 0, received := received } : MsgController).check
        (byteOf s.straps.address.val) (msgBody address kind tag payload ++ check) } =
      s.frameJudged address kind tag payload check := by
  rw [MsgController.check_eq checks]
  unfold State.frameJudged MsgController.addressed
  dsimp only
  (repeat' split) <;> rfl

/-- The start byte opens a frame (R191). -/
theorem MsgController.byte_start {m : MsgController} (hunting : m.received = none) (own : Byte) :
    m.byte own 0xA5 = { m with sinceByte := 0, received := some [] } := by
  rw [MsgController.byte_of_none hunting]
  simp only [if_true]

/-- The bytes of a command after the start byte, or in a frame in reception without a gap before them. -/
theorem exec_frame_start (powered : s.powered = true) (hunting : s.mlc.received = none) (bytes : List Byte) :
    exec (.messageFrameReceived (0xA5 :: bytes)) s = .next { s with
      mlc := bytes.foldl (MsgController.byte (byteOf s.straps.address.val))
        { s.mlc with sinceByte := 0, received := some [] } } := by
  rw [exec_messageFrameReceived powered, State.receive_of_gapCheck (MsgController.gapCheck_of_none hunting),
    List.foldl_cons, MsgController.byte_start hunting]

/-- A header that names too long a payload ends the frame (R191). -/
theorem MsgController.foldl_long {m : MsgController} {n : Nat} (above : 1024 < n) (word : n ≤ 65535)
    (opened : m.received = some []) (own : Byte) :
    ([address, kind, tag] ++ leBytes 2 n).foldl (MsgController.byte own) m = { m with
      sinceByte := 0, received := none
      counters := { m.counters with lengthErrors := countUp m.counters.lengthErrors } } := by
  have named : natAt [address, kind, tag, BitVec.ofNat 8 n, BitVec.ofNat 8 (n / 256)] 3 2 = n :=
    leNat_leBytes_of_lt (width := 2) (by omega)
  simp [leBytes, MsgController.byte, MsgController.frameByte, opened, named, Config.payloadLimit, above]

end

/-- Settles O26: the bytes of a frame are followed one by one to the check, and that to the judgement. -/
theorem messageFrameIsJudged : Obligations.MessageFrameIsJudged := by
  intro s address kind tag payload check powered limit checks
  dsimp only
  refine ⟨fun hunting => ?_, fun had more whole left => ⟨fun hunting => ?_, fun receiving short => ?_⟩,
    fun n above word hunting => ?_, fun first second u run => ?_⟩
  · rw [exec_frame_start powered hunting]
    refine Eq.trans ?_ (State.frameJudged_eq checks (some []))
    exact congrArg (fun m => Host.Outcome.next { s with mlc := m })
      (MsgController.foldl_whole (m := { s.mlc with sinceByte := 0, received := some [] }) (had := [])
        (more := msgBody address kind tag payload ++ check) checks limit (by simp [msgBody]) rfl rfl)
  · rw [exec_frame_start powered hunting]
    exact congrArg (fun m => Host.Outcome.next { s with mlc := m })
      (MsgController.foldl_prefix (m := { s.mlc with sinceByte := 0, received := some [] }) (had := [])
        checks limit left whole rfl rfl)
  · rw [exec_messageFrameReceived powered, State.receive_of_gapCheck (MsgController.gapCheck_of_le short)]
    refine Eq.trans ?_ (State.frameJudged_eq checks s.mlc.received)
    exact congrArg (fun m => Host.Outcome.next { s with mlc := m })
      (MsgController.foldl_whole checks limit left whole receiving)
  · rw [exec_frame_start powered hunting, MsgController.foldl_long above word rfl]
  · have taken := exec_messageFrameReceived powered first
    obtain rfl : s.receive first = u := Host.Outcome.next.inj (taken.symm.trans run)
    rw [exec_messageFrameReceived powered, exec_messageFrameReceived (by exact powered)]
    have joined := MsgController.foldl_gapCheck (own := byteOf s.straps.address.val) first
      (MsgController.gapCheck_gapCheck (m := s.mlc))
    unfold State.receive State.updMlc
    dsimp only
    rw [joined, List.foldl_append]

end Sys2Proof.Machine
end

section
/-! Fields written as bytes and read back; the parts of the tables (chapters 12.1 and 12.2). -/

namespace Sys2Proof.Machine

/-! ## Bits -/

theorem bitAt_zero (n : Nat) : bitAt n 0 = (n % 2 == 1) := by simp [bitAt]

theorem bitAt_succ (n i : Nat) : bitAt n (i + 1) = bitAt (n / 2) i := by
  rw [bitAt, bitAt, Nat.pow_succ', Nat.div_div_eq_div_mul]

theorem bitsOf_lt (l : List Bool) : bitsOf l < 2 ^ l.length := by
  induction l with
  | nil => decide
  | cons b l ih =>
    rw [bitsOf, List.length_cons, Nat.pow_succ]
    split <;> omega

/-- Every bit is read back. -/
theorem bitAt_bitsOf (l : List Bool) (i : Nat) : bitAt (bitsOf l) i = l[i]?.getD false := by
  induction l generalizing i with
  | nil => simp [bitsOf, bitAt]
  | cons b l ih =>
    have front : bitsOf (b :: l) % 2 = (if b then 1 else 0) ∧ bitsOf (b :: l) / 2 = bitsOf l := by
      rw [bitsOf]
      split <;> omega
    cases i with
    | zero =>
      rw [bitAt_zero, front.1]
      cases b <;> rfl
    | succ i =>
      rw [bitAt_succ, front.2, ih]
      rfl

theorem kindBits_lt (l : List SlotKind) : kindBits l < 2 ^ l.length := by
  have below := bitsOf_lt (l.map (· == .current))
  rwa [List.length_map] at below

theorem kindOf_bitAt {l : List SlotKind} {i : Nat} (hi : i < l.length) :
    kindOf (bitAt (kindBits l) i) = l[i] := by
  rw [kindBits, bitAt_bitsOf, List.getElem?_map, List.getElem?_eq_getElem hi]
  cases l[i] <;> rfl

theorem requiredOf_lt (p : Option Position) : requiredOf p < 3 := by rcases p with _ | _ | _ <;> decide

theorem requiredBits_lt (l : List (Option Position)) : requiredBits l < 4 ^ l.length := by
  induction l with
  | nil => decide
  | cons p l ih =>
    have code := requiredOf_lt p
    rw [requiredBits, List.length_cons, Nat.pow_succ]
    omega

theorem positionOf_requiredOf (p : Option Position) : positionOf (requiredOf p) = p := by
  rcases p with _ | _ | _ <;> rfl

theorem requiredCode_requiredBits {l : List (Option Position)} {i : Nat} (hi : i < l.length) :
    requiredCode (requiredBits l) i = requiredOf l[i] := by
  induction l generalizing i with
  | nil => exact absurd hi (Nat.not_lt_zero _)
  | cons p l ih =>
    have code := requiredOf_lt p
    cases i with
    | zero =>
      rw [requiredCode, requiredBits, Nat.pow_zero, Nat.div_one, List.getElem_cons_zero]
      omega
    | succ i =>
      have half : (requiredOf p + 4 * requiredBits l) / 4 = requiredBits l := by omega
      have rest := ih (i := i) (by simpa using hi)
      rw [requiredCode] at rest
      rw [requiredCode, requiredBits, Nat.pow_succ', ← Nat.div_div_eq_div_mul, half, rest, List.getElem_cons_succ]

/-! ## Single fields -/

theorem natAt_le2 {n : Nat} (h : n < 65536) (rest : List Byte) : natAt (leBytes 2 n ++ rest) 0 2 = n :=
  natAt_leBytes_append h rest

theorem natAt_le4 {n : Nat} (h : n < 4294967296) (rest : List Byte) : natAt (leBytes 4 n ++ rest) 0 4 = n :=
  natAt_leBytes_append h rest

theorem natAt_le8 {n : Nat} (h : n < 18446744073709551616) (rest : List Byte) :
    natAt (leBytes 8 n ++ rest) 0 8 = n := natAt_leBytes_append h rest

theorem natAt_skip2 (n : Nat) (rest : List Byte) (start width : Nat) :
    natAt (leBytes 2 n ++ rest) (start + 2) width = natAt rest start width := rfl

theorem natAt_skip4 (n : Nat) (rest : List Byte) (start width : Nat) :
    natAt (leBytes 4 n ++ rest) (start + 4) width = natAt rest start width := rfl

theorem natAt_skip8 (n : Nat) (rest : List Byte) (start width : Nat) :
    natAt (leBytes 8 n ++ rest) (start + 8) width = natAt rest start width := rfl

theorem flagOf_flagByte (b : Bool) : flagOf (flagByte b).toNat = some b := by cases b <;> rfl

theorem finOf_byteOf {k : Nat} (hk : k ≤ 256) (i : Fin k) : finOf k (byteOf i.val).toNat = some i := by
  rw [byteOf_toNat (by omega), finOf_of_eq i rfl]

theorem profileOf_code (p : Profile) : profileOf (byteOf p.code).toNat = some p := by cases p <;> rfl

theorem slotRefOf_slotByte (r : Option SlotRef) : slotRefOf (slotByte r).toNat = some r := by
  cases r with
  | none => rfl
  | some r =>
    obtain ⟨l, c⟩ := r
    rw [slotByte, byteOf_toNat (by dsimp only; omega)]
    dsimp only
    rw [slotRefOf, if_neg (by omega), finOf_of_eq l (by omega), finOf_of_eq c (by omega)]

theorem phaseOf_bytes (pre rest : List Byte) (p : PhaseRefs) :
    phaseOf (pre ++ (p.bytes ++ rest)) pre.length = some p := by
  have at0 := natAt_append_add (a := pre) rfl (p.bytes ++ rest) 0 1
  have at1 := natAt_append_add (a := pre) rfl (p.bytes ++ rest) 1 1
  have at2 := natAt_append_add (a := pre) rfl (p.bytes ++ rest) 2 1
  rw [Nat.add_zero] at at0
  rw [phaseOf, at0, at1, at2]
  simp only [PhaseRefs.bytes, List.cons_append, natAt_cons_succ, natAt_cons_zero, slotRefOf_slotByte, flagOf_flagByte]

/-! ## Terms -/

theorem termsOf_bytes (pre rest : List Byte) (terms : List Term) :
    termsOf (pre ++ (terms.flatMap Term.bytes ++ rest)) pre.length terms.length = some terms := by
  induction terms generalizing pre with
  | nil => rfl
  | cons t terms ih =>
    have at0 := natAt_append_add (a := pre) rfl ((t :: terms).flatMap Term.bytes ++ rest) 0 1
    have at1 := natAt_append_add (a := pre) rfl ((t :: terms).flatMap Term.bytes ++ rest) 1 1
    have others := ih (pre ++ t.bytes)
    rw [Nat.add_zero] at at0
    rw [List.append_assoc, ← List.append_assoc t.bytes, ← List.flatMap_cons, List.length_append] at others
    rw [List.length_cons, termsOf, show pre.length + 2 = pre.length + t.bytes.length from rfl, others, termOf, at0, at1]
    simp only [List.flatMap_cons, Term.bytes, List.cons_append, natAt_cons_succ, natAt_cons_zero, flagOf_flagByte]
    rw [byteOf_toNat (by omega), finOf_of_eq t.point rfl]

theorem Term.bytes_length (terms : List Term) : (terms.flatMap Term.bytes).length = 2 * terms.length := by
  induction terms with
  | nil => rfl
  | cons t terms ih =>
    rw [List.flatMap_cons, List.length_append, ih, List.length_cons]
    exact Nat.add_comm _ _

/-! ## Entries -/

theorem padTo_of_le {l : List Byte} {n : Nat} (h : l.length ≤ n) :
    padTo n 0 l = l ++ List.replicate (n - l.length) 0 := by
  rw [padTo, List.take_append, List.take_of_length_le h, List.take_replicate, Nat.min_eq_left (Nat.sub_le _ _)]

/-- A substitute of a POINTS entry is read back (R206). -/
theorem substituteAt_bytes (pre rest : List Byte) {e : Substitute} (fits : e.inRange = true) :
    substituteAt (pre ++ (e.bytes ++ rest)) pre.length = some e := by
  have at0 := natAt_append_add (a := pre) rfl (e.bytes ++ rest) 0 1
  have at1 := natAt_append_add (a := pre) rfl (e.bytes ++ rest) 1 1
  have at2 := natAt_append_add (a := pre) rfl (e.bytes ++ rest) 2 1
  rw [Nat.add_zero] at at0
  unfold substituteAt
  rw [at0, at1, at2]
  cases e with
  | none => rfl
  | alternate p =>
    have number : (byteOf p.val).toNat = p.val := byteOf_toNat (by omega)
    simp only [Substitute.bytes, List.cons_append, natAt_cons_succ, natAt_cons_zero, number, finOf_of_eq p]
    rfl
  | derived terms =>
    have count : 1 ≤ terms.length ∧ terms.length ≤ 4 := of_decide_eq_true fits
    have number : (byteOf terms.length).toNat = terms.length := byteOf_toNat (by omega)
    have read := termsOf_bytes (pre ++ [2, byteOf terms.length])
      (List.replicate (8 - (terms.flatMap Term.bytes).length) 0 ++ rest) terms
    rw [List.append_assoc, List.length_append] at read
    simp only [Substitute.bytes, List.cons_append, List.nil_append, natAt_cons_succ, natAt_cons_zero, number]
    rw [padTo_of_le (by rw [Term.bytes_length]; omega), List.append_assoc]
    exact (if_pos fits).trans (congrArg (Option.map Substitute.derived) read)

theorem vector_three {α : Type} (v : Vector α 3) : v = #v[v[0], v[1], v[2]] := by
  ext i hi
  match i with
  | 0 | 1 | 2 => rfl

theorem Substitute.bytes_length {e : Substitute} (fits : e.inRange = true) : e.bytes.length = 10 := by
  cases e with
  | none => rfl
  | alternate p => rfl
  | derived terms =>
    have count : 1 ≤ terms.length ∧ terms.length ≤ 4 := of_decide_eq_true fits
    have length := Term.bytes_length terms
    rw [Substitute.bytes, padTo_of_le (by omega)]
    simp only [List.length_append, List.length_cons, List.length_nil, List.length_replicate]
    omega

theorem natAt_skipPhases (a b d : PhaseRefs) (rest : List Byte) (start width : Nat) :
    natAt (a.bytes ++ (b.bytes ++ (d.bytes ++ rest))) (start + 9) width = natAt rest start width := rfl

theorem phases_read (a b d : PhaseRefs) (rest : List Byte) :
    phaseOf (a.bytes ++ (b.bytes ++ (d.bytes ++ rest))) 0 = some a ∧
      phaseOf (a.bytes ++ (b.bytes ++ (d.bytes ++ rest))) 3 = some b ∧
      phaseOf (a.bytes ++ (b.bytes ++ (d.bytes ++ rest))) 6 = some d := by
  have third := phaseOf_bytes (a.bytes ++ b.bytes) rest d
  rw [List.append_assoc] at third
  exact ⟨phaseOf_bytes [] _ a, phaseOf_bytes a.bytes _ b, third⟩

/-- A POINTS entry is read back (R206). -/
theorem pointEntryOf_bytes {e : PointEntry} (fits : e.inRange = true) : pointEntryOf e.bytes = some e := by
  obtain ⟨phases, un, deadPct, livePct, importOnly, currentFloor, apparentFloor, substitute, autoSub⟩ := e
  simp only [PointEntry.inRange, within, Bool.and_eq_true, decide_eq_true_eq] at fits
  obtain ⟨⟨⟨⟨⟨⟨⟨hun, hdead⟩, hlive⟩, hcurrent⟩, happarent⟩, hsub⟩, -⟩, -⟩ := fits
  rw [vector_three phases]
  generalize phases[0] = a, phases[1] = b, phases[2] = d
  have layout : PointEntry.bytes ⟨#v[a, b, d], un, deadPct, livePct, importOnly, currentFloor, apparentFloor,
      substitute, autoSub⟩ = a.bytes ++ (b.bytes ++ (d.bytes ++ (leBytes 4 un ++
        (byteOf deadPct :: byteOf livePct :: flagByte importOnly :: (leBytes 4 currentFloor ++
          (leBytes 8 apparentFloor ++ (substitute.bytes ++ [flagByte autoSub]))))))) := by
    simp [PointEntry.bytes]
  obtain ⟨first, second, third⟩ := phases_read a b d (leBytes 4 un ++
    (byteOf deadPct :: byteOf livePct :: flagByte importOnly :: (leBytes 4 currentFloor ++
      (leBytes 8 apparentFloor ++ (substitute.bytes ++ [flagByte autoSub])))))
  have sub := substituteAt_bytes (a.bytes ++ (b.bytes ++ (d.bytes ++ (leBytes 4 un ++
    (byteOf deadPct :: byteOf livePct :: flagByte importOnly :: (leBytes 4 currentFloor ++
      leBytes 8 apparentFloor)))))) [flagByte autoSub] hsub
  have auto := natAt_append_add (Substitute.bytes_length hsub) [flagByte autoSub] 0 1
  rw [natAt_cons_zero, Nat.add_zero] at auto
  simp only [List.append_assoc, List.cons_append] at sub
  rw [layout, pointEntryOf, first, second, third]
  generalize substitute.bytes = bytes at *
  replace sub : substituteAt (a.bytes ++ (b.bytes ++ (d.bytes ++ (leBytes 4 un ++
    (byteOf deadPct :: byteOf livePct :: flagByte importOnly :: (leBytes 4 currentFloor ++
      (leBytes 8 apparentFloor ++ (bytes ++ [flagByte autoSub])))))))) 28 = some substitute := sub
  simp only [sub, natAt_skipPhases, natAt_skip4, natAt_skip8, natAt_cons_succ, natAt_cons_zero, auto, flagOf_flagByte,
    natAt_le4 (n := un) (by omega), natAt_le4 (n := currentFloor) (by omega), natAt_le8 (n := apparentFloor) (by omega),
    byteOf_toNat (n := deadPct) (by omega), byteOf_toNat (n := livePct) (by omega)]

/-- A TOPOLOGY entry is read back (R206). -/
theorem topologyEntryOf_bytes (e : TopologyEntry) :
    topologyEntryOf (flagByte e.valid :: leBytes 2 (requiredBits e.required.toList)) = some e := by
  have word := requiredBits_lt e.required.toList
  have code (i : Nat) (hi : i < 8) : requiredCode (requiredBits e.required.toList) i = requiredOf e.required[i] := by
    rw [requiredCode_requiredBits (by simpa using hi), Vector.getElem_toList]
  have bits := natAt_leBytes (width := 2) (n := requiredBits e.required.toList) (by simpa using word)
  have sound : ((List.range 8).any fun b => requiredCode (requiredBits e.required.toList) b == 3) = false := by
    rw [List.any_eq_false]
    intro i hi
    have below := requiredOf_lt (e.required[i]'(List.mem_range.1 hi))
    rw [code i (List.mem_range.1 hi), beq_iff_eq]
    omega
  simp only [topologyEntryOf, natAt_cons_zero, natAt_cons_succ, flagOf_flagByte, bits, sound]
  have required : (Vector.ofFn fun b : Fin 8 => positionOf (requiredCode (requiredBits e.required.toList) b.val)) =
      e.required := by
    ext i hi
    rw [Vector.getElem_ofFn, code i hi, positionOf_requiredOf]
  rw [required]
  rfl

/-- A LINKS entry is read back (R206). -/
theorem linkEntryOf_bytes {e : LinkEntry} (fits : e.fixedCount ≤ 12) :
    linkEntryOf ([flagByte e.enabled, byteOf e.highest.code, flagByte e.fixedAllowed, byteOf e.fixedCount] ++
      leBytes 2 (kindBits e.fixedKinds.toList)) = some e := by
  have word := kindBits_lt e.fixedKinds.toList
  have bits := natAt_leBytes (width := 2) (n := kindBits e.fixedKinds.toList) (by
    rw [Vector.length_toList] at word; omega)
  have kinds : (Vector.ofFn fun i : Fin 12 => kindOf (bitAt (kindBits e.fixedKinds.toList) i.val)) = e.fixedKinds := by
    ext i hi
    rw [Vector.getElem_ofFn, kindOf_bitAt (by simpa using hi), Vector.getElem_toList]
  rw [Vector.length_toList] at word
  simp only [linkEntryOf, List.cons_append, List.nil_append, natAt_cons_zero, natAt_cons_succ, flagOf_flagByte,
    profileOf_code, bits, kinds, byteOf_toNat (Nat.lt_of_le_of_lt fits (by decide))]
  exact if_pos word

/-- A NOTICE table is read back (R206). -/
theorem noticeOf_bytes (t : NoticeTable) : noticeOf (byteOf t.discipline.code :: t.maskBytes) = some t := by
  have word := bitsOf_lt t.masked.toList
  have bits := natAt_leBytes (width := 2) (n := bitsOf t.masked.toList) (by simpa using word)
  have masked : (Vector.ofFn fun i : Fin 16 => bitAt (bitsOf t.masked.toList) i.val) = t.masked := by
    ext i hi
    rw [Vector.getElem_ofFn, bitAt_bitsOf, List.getElem?_eq_getElem (by simpa using hi), Vector.getElem_toList]
    rfl
  obtain ⟨discipline, m⟩ := t
  simp only [noticeOf, NoticeTable.maskBytes, natAt_cons_zero, natAt_cons_succ, bits, masked]
  cases discipline <;> rfl

/-- Settles O13: each table by its own entry. -/
theorem tablePartsReadBack : Obligations.TablePartsReadBack := by
  intro p fits
  have code : (byteOf (tableCode p.table)).toNat = tableCode p.table :=
    byteOf_toNat (Nat.lt_of_le_of_lt (tableCode_le _) (by decide))
  unfold partOf
  simp only [natAt_cons_zero (byteOf (tableCode p.table)), natAt_cons_succ, code, tableOf_tableCode]
  cases p with
  | links l e =>
    have count : 1 ≤ e.fixedCount ∧ e.fixedCount ≤ 12 := of_decide_eq_true fits
    have entry := linkEntryOf_bytes count.2
    simp only [TablePart.table, TablePart.selector, TablePart.content, List.cons_append, List.nil_append,
      finOf_natAt_byteOf, Nat.reduceLeDiff, List.drop_succ_cons, List.drop_zero] at entry ⊢
    rw [entry]
  | points p e =>
    simp only [TablePart.table, TablePart.selector, TablePart.content, List.cons_append, List.nil_append,
      finOf_natAt_byteOf, Nat.reduceLeDiff, List.drop_succ_cons, List.drop_zero, pointEntryOf_bytes fits]
  | breaker b e =>
    have number : (byteOf b.val).toNat = b.val := byteOf_toNat (by omega)
    have other : ¬ b.val = 8 := by omega
    cases e with
    | none =>
      simp only [TablePart.table, TablePart.selector, TablePart.content, List.cons_append, List.nil_append,
        natAt_cons_zero, number, if_neg other, finOf_of_eq b]
      rfl
    | some r =>
      have link : (byteOf r.link.val).toNat = r.link.val := byteOf_toNat (by omega)
      have pair : (byteOf r.pair.val).toNat = r.pair.val := byteOf_toNat (by omega)
      simp only [TablePart.table, TablePart.selector, TablePart.content, List.cons_append, List.nil_append,
        natAt_cons_zero, number, if_neg other, finOf_of_eq b, breakerEntryOf, List.drop_succ_cons, List.drop_zero,
        natAt_cons_succ, link, pair, finOf_of_eq r.link, finOf_of_eq r.pair]
      rfl
  | settle n =>
    have number : (byteOf n).toNat = n := byteOf_toNat (Nat.lt_of_le_of_lt (of_decide_eq_true fits).2 (by decide))
    simp only [TablePart.table, TablePart.selector, TablePart.content, List.cons_append, List.nil_append,
      natAt_cons_zero, List.drop_succ_cons, List.drop_zero, number]
    rfl
  | topology m e =>
    simp only [TablePart.table, TablePart.selector, TablePart.content, List.cons_append, List.nil_append,
      finOf_natAt_byteOf, Nat.reduceLeDiff, List.drop_succ_cons, List.drop_zero, topologyEntryOf_bytes]
  | composition m a terms =>
    have count : terms.length ≤ 8 := of_decide_eq_true fits
    have read := termsOf_bytes [byteOf (tableCode .composition), byteOf m.val, byteOf a.val, byteOf terms.length] [] terms
    rw [List.append_nil] at read
    simp only [TablePart.table, TablePart.selector, TablePart.content, List.cons_append, List.nil_append,
      natAt_cons_succ, natAt_cons_zero, finOf_byteOf, Nat.reduceLeDiff, List.length_cons, List.length_nil,
      byteOf_toNat (n := terms.length) (by omega)] at read ⊢
    rw [read]
  | bands b e =>
    cases e with
    | none =>
      simp only [TablePart.table, TablePart.selector, TablePart.content, List.cons_append, List.nil_append,
        finOf_natAt_byteOf, Nat.reduceLeDiff]
      rfl
    | some b =>
      simp only [TablePart.inRange, within, Bool.and_eq_true, decide_eq_true_eq] at fits
      obtain ⟨⟨lo, hi⟩, -⟩ := fits
      simp only [TablePart.table, TablePart.selector, TablePart.content, List.cons_append, List.nil_append,
        finOf_byteOf, Nat.reduceLeDiff, bandOf, List.drop_succ_cons, List.drop_zero, natAt_cons_succ,
        natAt_cons_zero, byteOf_toNat (n := b.lo) (by omega), byteOf_toNat (n := b.hi) (by omega)]
      rfl
  | contract c =>
    obtain ⟨minutes, ratio, holdLimit, allowance, shadowPeriod⟩ := c
    simp only [TablePart.inRange, ContractTable.inRange, within, Bool.and_eq_true, decide_eq_true_eq] at fits
    obtain ⟨⟨⟨⟨hminutes, hratio⟩, hhold⟩, hallowance⟩, hshadow⟩ := fits
    have short : minutes < 256 := by
      simp at hminutes
      omega
    have last := natAt_leBytes (width := 2) (n := shadowPeriod) (by omega)
    simp only [TablePart.table, TablePart.selector, TablePart.content, List.cons_append, List.nil_append,
      List.append_assoc, List.drop_succ_cons, List.drop_zero, natAt_cons_succ, natAt_cons_zero, byteOf_toNat short,
      natAt_le2 (n := ratio) (by omega), natAt_skip2, byteOf_toNat (n := holdLimit) (by omega),
      natAt_le2 (n := allowance) (by omega), last]
  | health h =>
    obtain ⟨limit, fault, clear⟩ := h
    simp only [TablePart.inRange, within, Bool.and_eq_true, decide_eq_true_eq] at fits
    obtain ⟨⟨hlimit, hfault⟩, hclear⟩ := fits
    simp only [TablePart.table, TablePart.selector, TablePart.content, List.nil_append, List.drop_succ_cons,
      List.drop_zero, natAt_cons_succ, natAt_cons_zero, byteOf_toNat (n := limit) (by omega),
      byteOf_toNat (n := fault) (by omega), byteOf_toNat (n := clear) (by omega)]
  | notice t =>
    simp only [TablePart.table, TablePart.selector, TablePart.content, List.nil_append, List.drop_succ_cons,
      List.drop_zero, noticeOf_bytes, Option.map_some]
  | patrol n =>
    have bound : 50 ≤ n ∧ n ≤ 5000 := of_decide_eq_true fits
    have number := natAt_leBytes (width := 2) (n := n) (by omega)
    simp only [TablePart.table, TablePart.selector, TablePart.content, List.nil_append, number]

end Sys2Proof.Machine
end

section
/-! Acquisition-link frames read back (chapters 6.1 and 12.3). -/

namespace Sys2Proof.Machine

/-! ## The frame around a payload -/

section
variable {kind : Nat} {payload : List Byte}

/-- What the CRC-32 of a frame covers (R107). -/
def linkBody (kind : Nat) (payload : List Byte) : List Byte := byteOf kind :: (leBytes 2 payload.length ++ payload)

theorem linkFrame_eq : linkFrame kind payload = linkBody kind payload ++ crc32Bytes (linkBody kind payload) := rfl

theorem linkBody_length : (linkBody kind payload).length = 3 + payload.length := by
  simp [linkBody]
  omega

theorem linkFrame_length : (linkFrame kind payload).length = 7 + payload.length := by
  rw [linkFrame_eq, List.length_append, linkBody_length, crc32Bytes, leBytes_length]
  omega

theorem natAt_linkFrame_kind (hk : kind < 256) : natAt (linkFrame kind payload) 0 1 = kind :=
  (natAt_cons_zero _ _).trans (byteOf_toNat hk)

theorem natAt_linkFrame_length (short : payload.length < 65536) :
    natAt (linkFrame kind payload) 1 2 = payload.length := by
  rw [linkFrame_eq, linkBody, List.cons_append, natAt_cons_succ, List.append_assoc, natAt_le2 short]

theorem linkFrame_payload : ((linkFrame kind payload).drop 3).take payload.length = payload := by
  rw [linkFrame_eq]
  show ((payload ++ _).take payload.length) = payload
  exact List.take_left

theorem frameIntact_linkFrame (short : payload.length < 65536) : frameIntact (linkFrame kind payload) = true := by
  have covered : (linkFrame kind payload).length - 4 = (linkBody kind payload).length := by
    rw [linkFrame_length, linkBody_length]
    omega
  have split := linkFrame_eq (kind := kind) (payload := payload)
  unfold frameIntact
  dsimp only
  rw [covered, natAt_linkFrame_length short, linkFrame_length, split, List.take_left, List.drop_left]
  simp

/-- A frame that is built by the layout is intact (R107). -/
theorem readLinkFrame_linkFrame (short : payload.length < 4089) (l : LinkId) :
    readLinkFrame l (linkFrame kind payload) = readIntact l (linkFrame kind payload) := by
  rw [readLinkFrame, if_neg (by rw [linkFrame_length, Config.jabberLimit]; omega),
    if_pos (frameIntact_linkFrame (by omega))]

end

/-! ## OFFER and ACCEPT -/

theorem freqOf_code (f : FreqClass) : freqOf (byteOf f.code).toNat = some f := by cases f <;> rfl

theorem profileOfCode_code (p : Profile) : profileOfCode (byteOf p.code).toNat = some p := by cases p <;> rfl

/-- The kinds of the slots are read back (R208). -/
theorem readKinds_kindBits {kinds : List SlotKind} (wf : channelsWf kinds.length = true) :
    readKinds kinds.length (kindBits kinds) = some kinds := by
  rw [readKinds, if_pos ⟨wf, kindBits_lt kinds⟩]
  refine congrArg some (List.ext_getElem (by simp) fun i hi hi' => ?_)
  rw [List.getElem_map, List.getElem_range]
  exact kindOf_bitAt hi'

theorem kindBits_word {kinds : List SlotKind} (wf : channelsWf kinds.length = true) : kindBits kinds < 65536 := by
  have count : 1 ≤ kinds.length ∧ kinds.length ≤ 12 := of_decide_eq_true wf
  calc kindBits kinds < 2 ^ kinds.length := kindBits_lt kinds
    _ ≤ 2 ^ 12 := Nat.pow_le_pow_right (by decide) count.2
    _ ≤ 65536 := by decide

theorem channelsWf_byte {n : Nat} (wf : channelsWf n = true) : (byteOf n).toNat = n := by
  have count : 1 ≤ n ∧ n ≤ 12 := of_decide_eq_true wf
  exact byteOf_toNat (by omega)

theorem ProfileSet.bits_pos {p : ProfileSet} (some_profile : (p.basic || p.extended || p.full) = true) :
    0 < p.bits := by
  obtain ⟨basic, extended, full⟩ := p
  simp only [ProfileSet.bits, bitsOf]
  cases basic <;> cases extended <;> cases full <;> simp_all

theorem ProfileSet.bits_read (p : ProfileSet) :
    (⟨bitAt p.bits 0, bitAt p.bits 1, bitAt p.bits 2⟩ : ProfileSet) = p := by
  simp only [ProfileSet.bits, bitAt_bitsOf]
  rfl

theorem readOffer_payload {c : OfferContent} (wf : c.wf = true) : readOffer c.payload = some c := by
  obtain ⟨freq, profiles, kinds⟩ := c
  simp only [OfferContent.wf, Bool.and_eq_true] at wf
  obtain ⟨some_profile, count⟩ := wf
  have word := natAt_leBytes (width := 2) (kindBits_word count)
  have below : profiles.bits < 8 := bitsOf_lt [profiles.basic, profiles.extended, profiles.full]
  simp only [readOffer, OfferContent.payload, List.cons_append, List.nil_append, natAt_cons_zero, natAt_cons_succ,
    freqOf_code, channelsWf_byte count, word, readKinds_kindBits count, byteOf_toNat (Nat.lt_trans below (by decide)),
    ProfileSet.bits_read]
  exact if_pos ⟨rfl, ProfileSet.bits_pos some_profile, below⟩

theorem readAccept_payload {c : AcceptContent} (wf : c.wf = true) : readAccept c.payload = some c := by
  obtain ⟨freq, profile, kinds⟩ := c
  have count : channelsWf kinds.length = true := wf
  have word := natAt_leBytes (width := 2) (kindBits_word count)
  simp only [readAccept, AcceptContent.payload, List.cons_append, List.nil_append, natAt_cons_zero, natAt_cons_succ,
    freqOf_code, profileOfCode_code, channelsWf_byte count, word, readKinds_kindBits count]
  rfl

/-! ## WINDOW -/

theorem readBlocks_bytes (blocks : List PhasorBlock) : readBlocks (blocks.flatMap PhasorBlock.bytes) = blocks := by
  induction blocks with
  | nil => rfl
  | cons b blocks ih =>
    obtain ⟨exponent, re, im⟩ := b
    have hre : BitVec.ofNat 16 (leNat (leBytes 2 re.toNat)) = re := by
      rw [leNat_leBytes_of_lt re.isLt, BitVec.ofNat_toNat, BitVec.setWidth_eq]
    have him : BitVec.ofNat 16 (leNat (leBytes 2 im.toNat)) = im := by
      rw [leNat_leBytes_of_lt im.isLt, BitVec.ofNat_toNat, BitVec.setWidth_eq]
    have he : (byteOf exponent.toNat).setWidth 4 = exponent := by
      apply BitVec.eq_of_toNat_eq
      rw [BitVec.toNat_setWidth, byteOf_toNat (by omega)]
      omega
    rw [List.flatMap_cons]
    show PhasorBlock.mk _ (BitVec.ofNat 16 (leNat (leBytes 2 re.toNat)))
      (BitVec.ofNat 16 (leNat (leBytes 2 im.toNat))) :: readBlocks (blocks.flatMap PhasorBlock.bytes) = _
    rw [ih, he, hre, him]

theorem blockBytes_length (blocks : List PhasorBlock) :
    (blocks.flatMap PhasorBlock.bytes).length = 5 * blocks.length := by
  induction blocks with
  | nil => rfl
  | cons b blocks ih =>
    rw [List.flatMap_cons, List.length_append, ih, List.length_cons]
    exact Nat.add_comm _ _

section
variable {f : WindowFrame}

theorem WindowFrame.payload_length : f.payload.length = 12 + 5 * f.blocks.length := by
  rw [WindowFrame.payload, List.length_append, List.length_append, blockBytes_length]
  rfl

theorem WindowFrame.payload_eq : f.payload = f.header ++
    (crc16Bytes (byteOf 4 :: (leBytes 2 f.payload.length ++ f.header)) ++ f.blocks.flatMap PhasorBlock.bytes) := by
  rw [WindowFrame.payload_length, WindowFrame.payload, List.append_assoc]

theorem WindowFrame.linkBody_eq : linkBody 4 f.payload = (byteOf 4 :: (leBytes 2 f.payload.length ++ f.header)) ++
    (crc16Bytes (byteOf 4 :: (leBytes 2 f.payload.length ++ f.header)) ++ f.blocks.flatMap PhasorBlock.bytes) := by
  have layout := WindowFrame.payload_eq (f := f)
  rw [linkBody]
  generalize f.payload.length = n at layout ⊢
  rw [layout]
  simp

/-- The header check of a frame that is built by the layout matches (R108). -/
theorem headerIntact_bytes : headerIntact f.bytes = true := by
  have length : 15 ≤ f.bytes.length := by
    rw [WindowFrame.bytes, linkFrame_length, WindowFrame.payload_length]
    omega
  have kind : natAt f.bytes 0 1 = 4 := natAt_linkFrame_kind (by decide)
  have layout : f.bytes = (byteOf 4 :: (leBytes 2 f.payload.length ++ f.header)) ++
      (crc16Bytes (byteOf 4 :: (leBytes 2 f.payload.length ++ f.header)) ++
        (f.blocks.flatMap PhasorBlock.bytes ++ crc32Bytes (linkBody 4 f.payload))) := by
    rw [WindowFrame.bytes, linkFrame_eq]
    generalize crc32Bytes (linkBody 4 f.payload) = tail
    rw [WindowFrame.linkBody_eq, List.append_assoc, List.append_assoc]
  have checked : crc16Bytes (f.bytes.take 13) = field f.bytes 13 2 := by
    generalize f.blocks.flatMap PhasorBlock.bytes ++ crc32Bytes (linkBody 4 f.payload) = tail at layout
    rw [layout]
    rfl
  simp [headerIntact, length, kind, checked]

/-- The header fields of a WINDOW payload (R208). -/
theorem WindowFrame.payload_fields (wf : f.wf = true) : natAt f.payload 0 2 = f.seq.toNat ∧
    natAt f.payload 2 4 = f.duration.toNat ∧ natAt f.payload 6 1 = f.orders ∧ natAt f.payload 7 1 = f.channels ∧
    natAt f.payload 8 2 = f.inputs.toNat ∧ f.payload.drop 12 = f.blocks.flatMap PhasorBlock.bytes := by
  simp only [WindowFrame.wf, Bool.and_eq_true] at wf
  obtain ⟨⟨orders, channels⟩, -⟩ := wf
  have few : f.orders < 256 := by
    simp at orders
    omega
  have layout := WindowFrame.payload_eq (f := f)
  generalize hc : crc16Bytes _ = check at layout
  have two : check = leBytes 2 (crc16 (byteOf 4 :: (leBytes 2 f.payload.length ++ f.header))).toNat := hc.symm
  have fields : f.payload = leBytes 2 f.seq.toNat ++ (leBytes 4 f.duration.toNat ++
      (byteOf f.orders :: byteOf f.channels :: (leBytes 2 f.inputs.toNat ++
        (check ++ f.blocks.flatMap PhasorBlock.bytes)))) := by
    rw [layout]
    simp [WindowFrame.header]
  rw [fields]
  refine ⟨natAt_le2 f.seq.isLt _, ?_, ?_, ?_, ?_, ?_⟩
  · simp only [natAt_skip2, natAt_le4 f.duration.isLt]
  · simp only [natAt_skip2, natAt_skip4, natAt_cons_zero, byteOf_toNat few]
  · simp only [natAt_skip2, natAt_skip4, natAt_cons_zero, natAt_cons_succ, channelsWf_byte channels]
  · simp only [natAt_skip2, natAt_skip4, natAt_cons_succ, natAt_le2 f.inputs.isLt]
  · rw [two]
    rfl

theorem readWindow_bytes (wf : f.wf = true) (short : f.payload.length < 65536) : readWindow f.bytes = some f := by
  have framed : (f.bytes.drop 3).take (natAt f.bytes 1 2) = f.payload := by
    rw [WindowFrame.bytes, natAt_linkFrame_length short, linkFrame_payload]
  have count : f.payload.length = 12 + 5 * (f.channels * f.orders) := by
    simp only [WindowFrame.wf, Bool.and_eq_true, beq_iff_eq] at wf
    rw [WindowFrame.payload_length, wf.2]
  obtain ⟨seq, duration, orders, channels, inputs, blocks⟩ := WindowFrame.payload_fields wf
  unfold readWindow
  dsimp only
  rw [framed, seq, duration, orders, channels, inputs, blocks, readBlocks_bytes]
  simp only [BitVec.ofNat_toNat, BitVec.setWidth_eq]
  exact if_pos ⟨headerIntact_bytes, count, wf⟩

theorem WindowFrame.payload_short (wf : f.wf = true) : f.payload.length < 4089 := by
  simp only [WindowFrame.wf, channelsWf, Bool.and_eq_true, beq_iff_eq, decide_eq_true_eq] at wf
  obtain ⟨⟨orders, channels⟩, blocks⟩ := wf
  have few : f.orders ≤ 50 := by
    simp at orders
    omega
  have bound : f.channels * f.orders ≤ 12 * 50 := Nat.mul_le_mul channels.2 few
  rw [WindowFrame.payload_length, blocks]
  omega

end

/-- Settles O12: the frame is intact, and its payload is read back by its kind. -/
theorem linkFramesReadBack : Obligations.LinkFramesReadBack := by
  refine fun l => ⟨fun c wf => ?_, fun c wf => ?_, fun f wf => ?_⟩
  · have short : c.payload.length = 5 := rfl
    rw [readLinkFrame_linkFrame (by omega), readIntact, natAt_linkFrame_kind (by decide),
      natAt_linkFrame_length (by omega), linkFrame_payload]
    rw [readOffer_payload wf]
    rfl
  · have short : c.payload.length = 5 := rfl
    rw [readLinkFrame_linkFrame (by omega), readIntact, natAt_linkFrame_kind (by decide),
      natAt_linkFrame_length (by omega), linkFrame_payload]
    rw [readAccept_payload wf]
    rfl
  · have short := WindowFrame.payload_short wf
    have read := readWindow_bytes wf (by omega)
    rw [WindowFrame.bytes] at read ⊢
    rw [readLinkFrame_linkFrame short, readIntact, natAt_linkFrame_kind (by decide)]
    rw [read]
    rfl

end Sys2Proof.Machine
end

section
/-! The arrival of a change (chapter 8.3). -/

namespace Sys2Proof.Machine

/-! ## A change that passed the checks on itself -/

section
variable {s : State} {f : MsgFrame} {rest : List MsgFrame}

/-- What becomes of a change at the lock and the queue (R156, R157, R166). -/
def State.queuedOr (c : Change) (f : MsgFrame) (rest : List MsgFrame) (s : State) : State :=
  if s.cm.locked = true ∧ s.straps.service = false ∧ c.lockable = true then s.refused .locked f rest
  else if 8 ≤ s.cm.queue.length then s.refused .queueFull f rest
  else
    { s.acked ([1] ++ leBytes 4 s.cm.nextChange ++ [byteOf (s.cm.queue.length + 1)]) f rest with
      cm := { s.cm with
        queue := s.cm.queue ++ [⟨s.cm.nextChange, c⟩], nextChange := countUp s.cm.nextChange } }

theorem State.barred_iff {c : Change} : s.barred c = true ↔
    s.cm.locked = true ∧ s.straps.service = false ∧ c.lockable = true := by
  simp [State.barred, and_assoc]

theorem State.enqueue_eq (buffer : s.mlc.buffer = f :: rest) (c : Change) : s.enqueue c = s.queuedOr c f rest := by
  unfold State.enqueue State.queuedOr
  by_cases barred : s.barred c = true
  · rw [if_pos barred, if_pos (State.barred_iff.1 barred), State.refuse_eq_refused buffer]
  · rw [if_neg barred, if_neg fun h => barred (State.barred_iff.2 h)]
    by_cases full : 8 ≤ s.cm.queue.length
    · rw [if_pos full, ← State.refuse_eq_refused buffer]
      exact if_pos full
    · refine (if_neg full).trans ?_
      rw [if_neg full]
      dsimp only
      rw [State.ack_eq_acked (by exact buffer)]
      simp [State.updCm, queuedPayload, State.acked, State.answered]

/-! ## TABLE.PUT -/

theorem State.answerTablePut_none {payload : List Byte} (buffer : s.mlc.buffer = f :: rest)
    (unread : partOf payload = none) : s.answerTablePut payload = s.refused .range f rest := by
  rw [State.answerTablePut, unread, ← State.refuse_eq_refused buffer]

theorem State.answerTablePut_range {payload : List Byte} {p : TablePart} (buffer : s.mlc.buffer = f :: rest)
    (read : partOf payload = some p) (outside : p.inRange = false) :
    s.answerTablePut payload = s.refused .range f rest := by
  rw [State.answerTablePut, read, ← State.refuse_eq_refused buffer]
  exact if_pos (by simp [outside])

theorem State.answerTablePut_reference {payload : List Byte} {p : TablePart} (buffer : s.mlc.buffer = f :: rest)
    (read : partOf payload = some p) (fits : p.inRange = true) (wrong : p.consistent s.cm.tables = false) :
    s.answerTablePut payload = s.refused .reference f rest := by
  rw [State.answerTablePut, read, ← State.refuse_eq_refused buffer]
  exact (if_neg (by simp [fits])).trans (if_pos (by simp [wrong]))

theorem State.answerTablePut_queued {payload : List Byte} {p : TablePart} (buffer : s.mlc.buffer = f :: rest)
    (read : partOf payload = some p) (fits : p.inRange = true) (sound : p.consistent s.cm.tables = true) :
    s.answerTablePut payload = s.queuedOr (.table p) f rest := by
  rw [State.answerTablePut, read, ← State.enqueue_eq buffer]
  exact (if_neg (by simp [fits])).trans (if_neg (by simp [sound]))

theorem exec_tablePut_served (h : s.serves .tablePut f rest) (fits : fitsTable true f.payload = true) :
    exec .tablePut s = .next (s.answerTablePut f.payload) := exec_served (k := .tablePut) h fits

theorem PointEntry.bytes_length {e : PointEntry} (fits : e.substitute.inRange = true) : e.bytes.length = 39 := by
  have sub := Substitute.bytes_length fits
  rw [PointEntry.bytes, vector_three e.phases]
  simp [PhaseRefs.bytes, sub]

/-- A part that is written as TABLE.GET returns it has the length that its table implies (R206). -/
theorem fitsTable_content {p : TablePart} (fits : p.inRange = true) :
    fitsTable true (byteOf (tableCode p.table) :: (p.selector ++ p.content)) = true := by
  have code : (byteOf (tableCode p.table)).toNat = tableCode p.table :=
    byteOf_toNat (Nat.lt_of_le_of_lt (tableCode_le _) (by decide))
  simp only [fitsTable, code, tableOf_tableCode]
  cases p with
  | points p e =>
    simp only [TablePart.inRange, PointEntry.inRange, Bool.and_eq_true] at fits
    obtain ⟨⟨⟨-, sub⟩, -⟩, -⟩ := fits
    have length := PointEntry.bytes_length sub
    simp [TablePart.selector, TablePart.content, TablePart.table, selectorLength, contentLength, length]
  | composition m a terms =>
    have count : terms.length ≤ 8 := of_decide_eq_true fits
    have length := Term.bytes_length terms
    simp only [TablePart.selector, TablePart.content, TablePart.table, selectorLength, contentLength, List.cons_append,
      List.nil_append, natAt_cons_succ, natAt_cons_zero, byteOf_toNat (n := terms.length) (by omega), List.length_cons,
      length, if_true, beq_iff_eq]
    omega
  | breaker b e => cases e <;> rfl
  | bands b e => cases e <;> rfl
  | links l e | settle n | topology m e | contract c | health h | notice t | patrol n => rfl

/-! ## PRESET -/

theorem natAt_leBytes8 {l : List Nat} {i : Nat} (hi : i < l.length) (below : ∀ n ∈ l, n ≤ 18446744073709551615) :
    natAt (l.flatMap (leBytes 8)) (8 * i) 8 = l[i] := by
  induction l generalizing i with
  | nil => exact absurd hi (Nat.not_lt_zero _)
  | cons n l ih =>
    rw [List.flatMap_cons]
    cases i with
    | zero => exact natAt_le8 (Nat.lt_succ_of_le (below n (by simp))) _
    | succ i =>
      rw [show 8 * (i + 1) = 8 * i + 8 from rfl, natAt_skip8, ih (by simpa using hi) fun m hm => below m (by simp [hm])]
      rfl

theorem presetValues_bytes (b : Byte) {values : Vector Nat 25} (below : ∀ i : Fin 25, values[i] ≤ 18446744073709551615) :
    presetValues (b :: values.toList.flatMap (leBytes 8)) = values := by
  have each : ∀ n ∈ values.toList, n ≤ 18446744073709551615 := by
    intro n hn
    obtain ⟨i, hi, rfl⟩ := List.mem_iff_getElem.1 hn
    rw [Vector.getElem_toList]
    exact below ⟨i, by simpa using hi⟩
  ext i hi
  rw [presetValues, Vector.getElem_ofFn, Nat.add_comm, natAt_cons_succ, natAt_leBytes8 (by simpa using hi) each,
    Vector.getElem_toList]

theorem flatMap_leBytes_length (w : Nat) (l : List Nat) : (l.flatMap (leBytes w)).length = w * l.length := by
  induction l with
  | nil => rfl
  | cons n l ih => rw [List.flatMap_cons, List.length_append, leBytes_length, ih, List.length_cons, Nat.mul_add_one,
      Nat.add_comm]

theorem modeOf_of_ne {n : Nat} (one : n ≠ 1) (two : n ≠ 2) : modeOf n = none := by
  match n with
  | 0 => rfl
  | 1 => exact absurd rfl one
  | 2 => exact absurd rfl two
  | n + 3 => rfl

end

/-- Settles O34: the checks on the change itself, then the lock and the queue as `State.queuedOr` has them. -/
theorem changesAreQueued : Obligations.ChangesAreQueued := by
  intro s f rest
  dsimp only
  refine ⟨fun p h payload fits sound => ?_, fun a values h payload below => ?_, fun h payload => ?_, fun h payload => ?_,
    fun h payload => ?_, fun p h payload fits wrong => ?_, fun code h head outside => ?_,
    fun p h length read outside => ?_, fun period h payload word outside => ?_,
    fun limit fault clear h payload hl hf hc outside => ?_, fun link content h payload six outside => ?_,
    fun m h payload one two => ?_, fun a rest' h payload length outside => ?_⟩
  · rw [exec_tablePut_served h (payload ▸ fitsTable_content fits), State.answerTablePut_queued h.buffer
      (payload ▸ tablePartsReadBack p fits) fits sound]
    rfl
  · have length := flatMap_leBytes_length 8 values.toList
    have run : exec .preset s = .next (s.answerPreset f.payload) :=
      exec_served (k := .preset) h (by simp [RequestKind.fits, payload, length])
    rw [run, State.answerPreset, payload, finOf_natAt_byteOf (by decide), presetValues_bytes _ below]
    exact congrArg _ (State.enqueue_eq h.buffer _)
  · have run : exec .mode s = .next (s.answerMode (natAt f.payload 0 1)) :=
      exec_served (k := .mode) h (by simp [RequestKind.fits, payload])
    rw [run, payload]
    exact congrArg _ (State.enqueue_eq h.buffer _)
  · have run : exec .mode s = .next (s.answerMode (natAt f.payload 0 1)) :=
      exec_served (k := .mode) h (by simp [RequestKind.fits, payload])
    rw [run, payload]
    exact congrArg _ (State.enqueue_eq h.buffer _)
  · have run : exec .erase s = .next (s.enqueue .erase) :=
      exec_served (k := .erase) h (by simp [RequestKind.fits, payload])
    rw [run, State.enqueue_eq h.buffer]
    rfl
  · rw [exec_tablePut_served h (payload ▸ fitsTable_content fits), State.answerTablePut_reference h.buffer
      (payload ▸ tablePartsReadBack p fits) fits wrong]
  · obtain ⟨rest', hf⟩ := List.head?_eq_some_iff.1 head
    have none : tableOf code.toNat = Option.none :=
      tableOf_of_outside (outside.imp_left fun zero => by rw [zero]; rfl)
    rw [exec_tablePut_served h (by rw [hf, fitsTable, none]), State.answerTablePut_none h.buffer]
    rw [hf, partOf, natAt_cons_zero, none]
  · rw [exec_tablePut_served h length, State.answerTablePut_range h.buffer read outside]
  · have read : partOf f.payload = some (.patrol period) := by
      rw [payload]
      show some (TablePart.patrol (natAt (byteOf (tableCode .patrol) :: leBytes 2 period) 1 2)) = _
      rw [natAt_cons_succ, natAt_leBytes (by omega)]
    rw [exec_tablePut_served h (by rw [payload]; rfl), State.answerTablePut_range h.buffer read]
    exact decide_eq_false (by omega)
  · have read : partOf f.payload = some (.health ⟨limit, fault, clear⟩) := by
      rw [payload]
      show some (TablePart.health ⟨natAt [byteOf limit, byteOf fault, byteOf clear] 0 1,
        natAt [byteOf limit, byteOf fault, byteOf clear] 1 1, natAt [byteOf limit, byteOf fault, byteOf clear] 2 1⟩) = _
      simp only [natAt_cons_succ, natAt_cons_zero, byteOf_toNat (n := limit) (by omega),
        byteOf_toNat (n := fault) (by omega), byteOf_toNat (n := clear) (by omega)]
    rw [exec_tablePut_served h (by rw [payload]; rfl), State.answerTablePut_range h.buffer read]
    simp only [TablePart.inRange, within, Bool.and_eq_false_iff, decide_eq_false_iff_not]
    omega
  · have code : tableOf (byteOf (tableCode .links)).toNat = some .links := rfl
    have read : partOf f.payload = none := by
      simp only [payload, partOf, natAt_cons_zero, natAt_cons_succ, code, finOf_of_le outside]
    have fits : fitsTable true f.payload = true := by
      simp [payload, fitsTable, code, six, selectorLength, contentLength]
    rw [exec_tablePut_served h fits, State.answerTablePut_none h.buffer read]
  · have run : exec .mode s = .next (s.answerMode (natAt f.payload 0 1)) :=
      exec_served (k := .mode) h (by simp [RequestKind.fits, payload])
    have other : modeOf m.toNat = none :=
      modeOf_of_ne (fun eq => one (BitVec.eq_of_toNat_eq eq)) fun eq => two (BitVec.eq_of_toNat_eq eq)
    rw [run, payload, natAt_cons_zero, State.answerMode, other]
    exact congrArg _ (State.refuse_eq_refused h.buffer _)
  · have run : exec .preset s = .next (s.answerPreset f.payload) :=
      exec_served (k := .preset) h (by simp [RequestKind.fits, payload, length])
    rw [run, State.answerPreset, payload, natAt_cons_zero, finOf_of_le outside]
    exact congrArg _ (State.refuse_eq_refused h.buffer _)

end Sys2Proof.Machine
end

section
/-! LOCK and UNLOCK, and LOG.READ (chapters 7.6 and 8.8). -/

namespace Sys2Proof.Machine

section
variable {s : State} {f : MsgFrame} {rest : List MsgFrame}

/-! ## The lock -/

/-- A flag that stands as it is asked for changes nothing. -/
theorem State.setLock_same {locked : Bool} (same : s.cm.locked = locked) : s.setLock locked = s := if_pos same

/-- A change of the flag is written with the CONTRACT block, and calls the save again outside NORMAL (R165, R171). -/
theorem State.setLock_changed {locked : Bool} (other : s.cm.locked ≠ locked) : s.setLock locked = { s with
    cm := { s.cm with locked := locked }
    rsc := { s.rsc with
      configQueue := joinConfig ⟨.contract s.cm.tables.contract s.cm.mode locked, s.cm.generation⟩ s.rsc.configQueue
      saveQueue := if s.sm.state = .normal then s.rsc.saveQueue else some .save }
    sm := if s.sm.state = .normal then s.sm else { s.sm with saveCalled := true } } := by
  unfold State.setLock
  rw [if_neg other]
  by_cases normal : s.sm.state = .normal
  · rw [if_pos normal, if_pos normal]
    exact if_pos normal
  · rw [if_neg normal, if_neg normal]
    exact if_neg normal

theorem State.answerLock_eq (buffer : s.mlc.buffer = f :: rest) : s.answerLock =
    if s.cm.locked = false ∧ ∃ e ∈ s.cm.queue, e.change.lockable = true then s.refused .state f rest
    else (s.setLock true).acked [] f rest := by
  have kept : (s.setLock true).mlc.buffer = f :: rest := by simpa using buffer
  rw [← State.refuse_eq_refused buffer, ← State.ack_eq_acked kept]
  unfold State.answerLock
  exact if_congr (by simp) rfl rfl

theorem State.answerUnlock_eq (buffer : s.mlc.buffer = f :: rest) : s.answerUnlock =
    if s.straps.service = true then (s.setLock false).acked [] f rest else s.refused .locked f rest := by
  have kept : (s.setLock false).mlc.buffer = f :: rest := by simpa using buffer
  rw [← State.refuse_eq_refused buffer, ← State.ack_eq_acked kept]
  rfl

end

/-- Settles O35: the refusals, and the change of the flag as `State.setLock_changed` has it. -/
theorem lockAndUnlock : Obligations.LockAndUnlock := by
  intro s f rest payload
  have changed {locked : Bool} (other : s.cm.locked ≠ locked) : ∃ t,
      Host.Outcome.next ((s.setLock locked).acked [] f rest) = (.next t : Host.Outcome State Fault Refusal) ∧
      t.cm = { s.cm with locked := locked } ∧ t.mlc = (s.acked [] f rest).mlc ∧
      t.rsc = { s.rsc with
        configQueue := joinConfig
          ⟨.contract s.cm.tables.contract s.cm.mode locked, s.cm.generation⟩ s.rsc.configQueue
        saveQueue := if s.sm.state = .normal then s.rsc.saveQueue else some .save } ∧
      t.sm.state = s.sm.state ∧ t = { s with cm := t.cm, mlc := t.mlc, rsc := t.rsc, sm := t.sm } := by
    rw [State.setLock_changed other]
    refine ⟨_, rfl, rfl, rfl, rfl, ?_, rfl⟩
    by_cases normal : s.sm.state = .normal <;> simp [State.acked, State.answered, normal]
  refine ⟨fun h => ?_, fun h => ?_⟩
  · rw [show exec .lock s = .next s.answerLock from exec_served (k := .lock) h (by simp [RequestKind.fits, payload]),
      State.answerLock_eq h.buffer]
    refine ⟨fun locked => ?_, fun unlocked some => ?_, fun unlocked none => ?_⟩
    · rw [if_neg (by simp [locked]), State.setLock_same locked]
    · rw [if_pos ⟨unlocked, some⟩]
    · rw [if_neg fun both => both.2.elim fun e he => by simp [none e he.1] at he]
      exact changed (by simp [unlocked])
  · rw [show exec .unlock s = .next s.answerUnlock from
      exec_served (k := .unlock) h (by simp [RequestKind.fits, payload]), State.answerUnlock_eq h.buffer]
    refine ⟨fun sealed => ?_, fun service unlocked => ?_, fun service locked => ?_⟩
    · rw [if_neg (by simp [sealed])]
    · rw [if_pos service, State.setLock_same unlocked]
    · rw [if_pos service]
      exact changed (by simp [locked])

/-! ## LOG.READ -/

section
variable {s u : State} {f : MsgFrame} {rest : List MsgFrame} {q : Nat}

/-- A record that the log does not hold is not read (R142). -/
theorem State.readRecord_none (agrees : Bool) (gone : s.store.findRecord s.rsc.map.badSlots q = none) :
    s.readRecord q agrees = (none, s) := by
  rw [State.readRecord, gone]

theorem State.readRecord_agrees {slot : Nat} {r : IntervalRecord}
    (held : s.store.findRecord s.rsc.map.badSlots q = some (slot, r)) : s.readRecord q true = (some r, s) := by
  rw [State.readRecord, held]
  rfl

/-- A record whose read fails is unusable from then on (R142). -/
theorem State.readRecord_fails {slot : Nat} {r : IntervalRecord}
    (held : s.store.findRecord s.rsc.map.badSlots q = some (slot, r)) : s.readRecord q false =
      (none, { s with store := { s.store with slots := eraseSlot slot s.store.slots } }) := by
  rw [State.readRecord, held]
  rfl

/-- The part after the job of a LOG.READ, as its verdict and the reads have it (R142). -/
def State.logReadDone (ok₁ ok₂ : Bool) (s : State) : ReadVerdict → State
  | .gone => s.refuse .gone
  | .notFound => s.refuse .notFound
  | .read q second =>
    match s.readRecord q ok₁, second with
    | (none, u), _ => u.countRecordError.refuse .corrupt
    | (some r, u), none => u.ack (logPayload [r])
    | (some r, u), some q' =>
      match u.readRecord q' ok₂ with
      | (none, u) => u.ack (logPayload [r])
      | (some r', u) => u.ack (logPayload [r, r'])

theorem exec_logReadJobDone {v : ReadVerdict} {second : Bool} {n : Nat} (powered : s.powered = true)
    (running : s.rsc.running = some ⟨.read v second, n⟩) (ok₁ ok₂ : Bool) :
    exec (.logReadJobDone ok₁ ok₂) s = .next (s.jobEnds.logReadDone ok₁ ok₂ v) := by
  show execLogReadJobDone ok₁ ok₂ s = _
  unfold execLogReadJobDone
  rw [running]
  dsimp only
  rw [if_neg (by simp [powered])]
  cases v with
  | gone => rfl
  | notFound => rfl
  | read q q' =>
    unfold State.logReadDone
    dsimp only
    rcases s.jobEnds.readRecord q ok₁ with ⟨_ | r, u⟩
    · rfl
    · cases q' with
      | none => rfl
      | some q' =>
        dsimp only
        rcases u.readRecord q' ok₂ with ⟨_ | r', w⟩ <;> rfl

theorem State.logReadDone_corrupt {ok₁ : Bool} {q' : Option Nat} (fails : s.readRecord q ok₁ = (none, u))
    (buffer : u.mlc.buffer = f :: rest) (ok₂ : Bool) : s.logReadDone ok₁ ok₂ (.read q q') =
      { u.refused .corrupt f rest with
        rsc := { u.rsc with
          counters := { u.rsc.counters with recordErrors := countUp u.rsc.counters.recordErrors } } } := by
  unfold State.logReadDone
  dsimp only
  rw [fails]
  exact State.refuse_eq_refused (s := u.countRecordError) buffer _

theorem State.logReadDone_one {ok₁ : Bool} {r : IntervalRecord} (read : s.readRecord q ok₁ = (some r, u))
    (buffer : u.mlc.buffer = f :: rest) (ok₂ : Bool) :
    s.logReadDone ok₁ ok₂ (.read q none) = u.acked (1 :: r.image) f rest := by
  unfold State.logReadDone
  dsimp only
  rw [read]
  refine (State.ack_eq_acked buffer _).trans ?_
  simp [logPayload, byteOf]

theorem State.logReadDone_first {ok₁ ok₂ : Bool} {r : IntervalRecord} {q' : Nat} {w : State}
    (read : s.readRecord q ok₁ = (some r, u)) (fails : u.readRecord q' ok₂ = (none, w))
    (buffer : w.mlc.buffer = f :: rest) :
    s.logReadDone ok₁ ok₂ (.read q (some q')) = w.acked (1 :: r.image) f rest := by
  unfold State.logReadDone
  dsimp only
  rw [read]
  dsimp only
  rw [fails]
  refine (State.ack_eq_acked buffer _).trans ?_
  simp [logPayload, byteOf]

theorem State.logReadDone_both {ok₁ ok₂ : Bool} {r r' : IntervalRecord} {q' : Nat} {w : State}
    (read : s.readRecord q ok₁ = (some r, u)) (second : u.readRecord q' ok₂ = (some r', w))
    (buffer : w.mlc.buffer = f :: rest) :
    s.logReadDone ok₁ ok₂ (.read q (some q')) = w.acked (2 :: (r.image ++ r'.image)) f rest := by
  unfold State.logReadDone
  dsimp only
  rw [read]
  dsimp only
  rw [second]
  refine (State.ack_eq_acked buffer _).trans ?_
  simp [logPayload, byteOf]

/-- A record that is held is found in some slot. -/
theorem exists_slot_of_record {o : Option (Nat × IntervalRecord)} {r : IntervalRecord}
    (held : o.map (·.2) = some r) : ∃ slot, o = some (slot, r) := by
  obtain ⟨⟨slot, r'⟩, rfl, rfl⟩ := Option.map_eq_some_iff.1 held
  exact ⟨slot, rfl⟩

end

/-- Settles O36: the reads of a LOG.READ by what the log holds and whether the read verifies. -/
theorem logReadAnswers : Obligations.LogReadAnswers := by
  intro s f rest
  refine ⟨fun first count h payload word => ?_, fun v second n ok₁ ok₂ powered buffer running => ?_⟩
  · have front : natAt f.payload 0 4 = first := by rw [payload, natAt_le4 (by omega)]
    have back : natAt f.payload 4 1 = count.toNat := by
      rw [payload, show (4 : Nat) = 0 + 4 from rfl, natAt_skip4, natAt_cons_zero]
    have run : exec .logRead s = .next (s.answerLogRead (natAt f.payload 0 4) (natAt f.payload 4 1)) :=
      exec_served (k := .logRead) h (by simp [RequestKind.fits, payload])
    rw [run, front, back, State.answerLogRead, ← State.refuse_eq_refused h.buffer]
    refine ⟨fun one_two => ?_, fun one two => ?_⟩
    · rcases one_two with rfl | rfl <;> rfl
    · rw [if_neg]
      rintro (eq | eq)
      · exact one (BitVec.eq_of_toNat_eq eq)
      · exact two (BitVec.eq_of_toNat_eq eq)
  · dsimp only
    rw [exec_logReadJobDone powered running]
    refine ⟨?_, ?_, ?_, ?_, ?_, ?_, ?_⟩
    · rintro rfl
      exact congrArg _ (State.refuse_eq_refused (s := s.jobEnds) buffer _)
    · rintro rfl
      exact congrArg _ (State.refuse_eq_refused (s := s.jobEnds) buffer _)
    · rintro q q' rfl gone
      exact congrArg _ (State.logReadDone_corrupt (State.readRecord_none (s := s.jobEnds) ok₁ gone) buffer ok₂)
    · rintro q q' slot r rfl held rfl
      exact congrArg _ (State.logReadDone_corrupt (State.readRecord_fails (s := s.jobEnds) held) buffer ok₂)
    · rintro q r rfl rfl held
      obtain ⟨slot, found⟩ := exists_slot_of_record held
      exact congrArg _ (State.logReadDone_one (State.readRecord_agrees (s := s.jobEnds) found) buffer ok₂)
    · rintro q q' r r' rfl rfl rfl held held'
      obtain ⟨slot, found⟩ := exists_slot_of_record held
      obtain ⟨slot', found'⟩ := exists_slot_of_record held'
      exact congrArg _ (State.logReadDone_both (State.readRecord_agrees (s := s.jobEnds) found)
        (State.readRecord_agrees (s := s.jobEnds) found') buffer)
    · rintro q q' r rfl rfl held
      obtain ⟨slot, found⟩ := exists_slot_of_record held
      have first := State.readRecord_agrees (s := s.jobEnds) found
      refine ⟨fun gone => ?_, ?_⟩
      · exact congrArg _ (State.logReadDone_first first (State.readRecord_none (s := s.jobEnds) ok₂ gone) buffer)
      · rintro slot' r' found' rfl
        exact congrArg _ (State.logReadDone_first first (State.readRecord_fails (s := s.jobEnds) found') buffer)

end Sys2Proof.Machine
end

section
/-! LINK.RESTART, POINT.SUBSTITUTE and POINT.RESTORE (chapters 3.7 and 6.4). -/

namespace Sys2Proof.Machine

/-! ## LINK.RESTART -/

section
variable {s : State} {l : LinkId}

/-- A link in BREAKING that was not UP (R119, R124). -/
def Link.restarted (k : Link) : Link :=
  { k with
    state := .breaking, waiting := [], sending := none, silence := none, sendTimer := none, breakHold := some 1500
    counters := { k.counters with restarts := countUp k.counters.restarts } }

/-- A link that is not UP enters BREAKING without a pulse, and the window assembler is not told. -/
theorem State.enterBreaking_of_down (down : (s.links[l]).isUp = false) :
    s.enterBreaking l = { s with links := s.links.set l (s.links[l]).restarted } := by
  unfold State.enterBreaking State.leaveUp
  rw [if_neg (by rw [down]; decide)]
  rfl

/-- While a link is in BREAKING nothing is received on it (R119). -/
theorem exec_windowFrame_of_breaking (breaking : (s.links[l]).state = .breaking) (g : WindowFrame) :
    exec (.windowFrame l g) s = .next s := by
  have deaf : s.receives l = false := by
    unfold State.receives
    rw [breaking]
    simp
  exact if_pos (by simp [deaf])

end

/-- Settles O37: a link leaves UP or another state for BREAKING. -/
theorem linkRestart : Obligations.LinkRestart := by
  intro s f rest n takes kind payload
  have fits : RequestKind.linkRestart.fits f.payload = true := by simp [RequestKind.fits, payload]
  have number : natAt f.payload 0 1 = n.toNat := by rw [payload, natAt_cons_zero]
  have run (running : s.rsc.halted = false) : exec .linkRestart s = .next (s.answerLinkRestart n.toNat) :=
    number ▸ exec_served (k := .linkRestart) ⟨takes, kind, .inl running⟩ fits
  obtain ⟨-, -, -, buffer⟩ := id takes
  refine ⟨fun halted => ?_, fun running outside => ?_, fun l running eq => ⟨fun disabled => ?_, fun enabled => ?_⟩⟩
  · exact ((refusalOrder s f rest takes).2 .linkRestart kind).2 fits halted (by decide) (by decide) (by decide)
  · rw [run running, State.answerLinkRestart, finOf_of_le outside]
    exact congrArg _ (State.refuse_eq_refused buffer _)
  · rw [run running, State.answerLinkRestart, finOf_of_eq l eq]
    exact congrArg _ ((if_pos disabled).trans (State.refuse_eq_refused buffer _))
  · have answered : s.answerLinkRestart n.toNat = (s.enterBreaking l).acked [] f rest := by
      rw [State.answerLinkRestart, finOf_of_eq l eq]
      exact (if_neg enabled).trans (State.ack_eq_acked (by simpa using buffer) _)
    rw [run running, answered]
    have others {k : Link} (m : LinkId) (other : m ≠ l) : (s.links.set l k)[m] = s.links[m] :=
      vector_set_other _ _ other
    have same {k : Link} : (s.links.set l k)[l] = k := vector_set_same _ _ _
    cases up : (s.links[l]).isUp with
    | false =>
      rw [State.enterBreaking_of_down up]
      refine ⟨_, rfl, rfl, rfl, others, ?_⟩
      have broken : (State.acked [] f rest { s with links := s.links.set l (s.links[l]).restarted }).links[l] =
        (s.links[l]).restarted := same
      rw [broken]
      exact ⟨rfl, rfl, rfl, rfl, rfl, rfl, ⟨rfl, rfl⟩, exec_windowFrame_of_breaking (by rw [broken]; rfl)⟩
    | true =>
      rw [State.enterBreaking_of_up up]
      refine ⟨_, rfl, rfl, rfl, others, ?_⟩
      have broken : (State.acked [] f rest { s with
          links := s.links.set l (s.links[l]).broken, wa := s.wa.linkLeaves l
          cu := s.cu.rise s.cm.tables.notice.masked .linkChange }).links[l] = (s.links[l]).broken := same
      rw [broken]
      exact ⟨rfl, rfl, rfl, rfl, rfl, rfl, ⟨rfl, rfl, rfl, rfl, s.wa.linkLeaves_left l, rfl⟩,
        exec_windowFrame_of_breaking (by rw [broken]; rfl)⟩

/-! ## POINT.SUBSTITUTE and POINT.RESTORE -/

section
variable {s : State} {f : MsgFrame} {rest : List MsgFrame} {p : PointId} {n : Nat}

theorem vector_any_iff {α : Type} {n : Nat} {v : Vector α n} {q : α → Bool} :
    v.toList.any q = true ↔ ∃ i : Fin n, q v[i] = true := by
  rw [List.any_eq_true]
  constructor
  · rintro ⟨x, hx, h⟩
    obtain ⟨i, hi, rfl⟩ := List.mem_iff_getElem.1 hx
    exact ⟨⟨i, by simpa using hi⟩, by simpa using h⟩
  · rintro ⟨i, h⟩
    exact ⟨v[i], by simp, h⟩

/-- POINT-FAULT and SUBSTITUTION have their sources from the points as they stand (R63, R68). -/
theorem State.givePointLevels_levels (s : State) : s.givePointLevels.pointLevels := by
  have fault : s.givePointLevels.cu.sources[4] = s.points.toList.any fun p => p.fault := by
    refine (ConditionUnit.give_source_other _ (c := .substitution) _ _ (i := 4) (by decide)).trans ?_
    exact ConditionUnit.give_source _ .pointFault _ _
  have substitution : s.givePointLevels.cu.sources[5] = s.points.toList.any fun p => p.mode != .direct :=
    ConditionUnit.give_source _ .substitution _ _
  refine ⟨?_, ?_⟩
  · rw [fault, vector_any_iff]
    rfl
  · rw [substitution, vector_any_iff]
    simp only [bne_iff_ne]
    rfl

/-- Stored modes that stand as they are need no write. -/
theorem State.storePoints_same {stored : Vector PointStored 16} (same : stored = s.cm.stored) :
    s.storePoints stored = s := if_pos same

/-- Stored modes that change are written with the POINTS block (R67). -/
theorem State.storePoints_changed {stored : Vector PointStored 16} (other : stored ≠ s.cm.stored) :
    s.storePoints stored = { s with
      cm := { s.cm with stored := stored }
      rsc := { s.rsc with
        configQueue := joinConfig ⟨.points s.cm.tables.points stored, s.cm.generation⟩ s.rsc.configQueue } } :=
  if_neg other

/-- The stored mode of a point is cleared, and written if it was set. -/
theorem State.storePoints_cleared : s.storePoints (s.cm.stored.set p { s.cm.stored[p] with substituted := false }) =
    { s with
      cm := { s.cm with stored := s.cm.stored.set p { s.cm.stored[p] with substituted := false } }
      rsc := if (s.cm.stored[p]).substituted then
          { s.rsc with
            configQueue := joinConfig ⟨.points s.cm.tables.points (s.cm.stored.set p
              { s.cm.stored[p] with substituted := false }), s.cm.generation⟩ s.rsc.configQueue }
        else s.rsc } := by
  cases was : (s.cm.stored[p]).substituted with
  | false =>
    have same : s.cm.stored.set p { s.cm.stored[p] with substituted := false } = s.cm.stored := by
      rw [← was]
      exact Vector.set_getElem_self p.isLt
    rw [same, State.storePoints_same rfl]
    rfl
  | true =>
    have other : s.cm.stored.set p { s.cm.stored[p] with substituted := false } ≠ s.cm.stored := fun same => by
      have entry := (congrArg (fun v => (v[p]).substituted) same).symm
      rw [vector_set_same, was] at entry
      exact nomatch entry
    rw [State.storePoints_changed other]
    rfl

/-- POINT.RESTORE makes a point DIRECT (R67). -/
theorem State.toDirect_eq (p : PointId) (s : State) : ∃ u : State, s.toDirect p = u.givePointLevels ∧
    u = { s with
      points := s.points.set p { s.points[p] with mode := .direct, shadow := none }
      cm := { s.cm with stored := s.cm.stored.set p { s.cm.stored[p] with substituted := false } }
      rsc := if (s.cm.stored[p]).substituted then
          { s.rsc with
            configQueue := joinConfig ⟨.points s.cm.tables.points (s.cm.stored.set p
              { s.cm.stored[p] with substituted := false }), s.cm.generation⟩ s.rsc.configQueue }
        else s.rsc } := by
  refine ⟨_, rfl, ?_⟩
  have direct : ((s.updPoint p fun q => { q with mode := .direct, shadow := none }).points[p]).mode = .direct := by
    simp [State.updPoint]
  unfold State.storeMode
  rw [direct]
  exact State.storePoints_cleared (s := s.updPoint p fun q => { q with mode := .direct, shadow := none })

theorem State.answerPointSubstitute_eq (eq : n = p.val) : s.answerPointSubstitute n =
    if (s.cm.tables.points[p]).substitute = .none then s.refuse .reference
    else if (s.points[p]).mode = .direct then (s.enterShadow p).ack [] else s.refuse .state := by
  rw [State.answerPointSubstitute, finOf_of_eq p eq]

theorem State.answerPointRestore_direct (eq : n = p.val)
    (barred : (s.points[p]).mode = .direct ∨ ((s.points[p]).mode = .substituted ∧ (s.points[p]).fault = true)) :
    s.answerPointRestore n = s.refuse .state := by
  rw [State.answerPointRestore, finOf_of_eq p eq]
  rcases barred with direct | ⟨substituted, fault⟩
  · simp only [direct]
  · simp only [substituted, fault, if_true]

theorem State.answerPointRestore_restores (eq : n = p.val)
    (restores : (s.points[p]).mode = .shadow ∨ ((s.points[p]).mode = .substituted ∧ (s.points[p]).fault = false)) :
    s.answerPointRestore n = (s.toDirect p).ack [] := by
  rw [State.answerPointRestore, finOf_of_eq p eq]
  rcases restores with shadow | ⟨substituted, healthy⟩
  · simp only [shadow]
  · simp only [substituted, healthy]
    rfl

end

/-- Settles O38: the refusals by mode and health, and the point as it is left. -/
theorem pointModeRequests : Obligations.PointModeRequests := by
  intro s f rest n payload
  have number : natAt f.payload 0 1 = n.toNat := by rw [payload, natAt_cons_zero]
  have substitute (h : s.serves .pointSubstitute f rest) :
      exec .pointSubstitute s = .next (s.answerPointSubstitute n.toNat) :=
    number ▸ exec_served (k := .pointSubstitute) h (by simp [RequestKind.fits, payload])
  have restore (h : s.serves .pointRestore f rest) :
      exec .pointRestore s = .next (s.answerPointRestore n.toNat) :=
    number ▸ exec_served (k := .pointRestore) h (by simp [RequestKind.fits, payload])
  refine ⟨fun outside => ⟨fun h => ?_, fun h => ?_⟩, fun p eq => ⟨fun h => ⟨fun none => ?_, fun some mode => ?_,
    fun some direct => ?_⟩, fun h => ⟨fun barred => ?_, fun restores => ?_⟩⟩⟩
  · rw [substitute h, State.answerPointSubstitute, finOf_of_le outside]
    exact congrArg _ (State.refuse_eq_refused h.buffer _)
  · rw [restore h, State.answerPointRestore, finOf_of_le outside]
    exact congrArg _ (State.refuse_eq_refused h.buffer _)
  · rw [substitute h, State.answerPointSubstitute_eq eq, if_pos none, State.refuse_eq_refused h.buffer]
  · rw [substitute h, State.answerPointSubstitute_eq eq, if_neg some, if_neg mode, State.refuse_eq_refused h.buffer]
  · rw [substitute h, State.answerPointSubstitute_eq eq, if_neg some, if_pos direct,
      State.ack_eq_acked (s := s.enterShadow p) h.buffer]
    exact ⟨_, rfl, ⟨rfl, State.givePointLevels_levels _, rfl, rfl⟩, rfl, rfl⟩
  · rw [restore h, State.answerPointRestore_direct eq barred, State.refuse_eq_refused h.buffer]
  · obtain ⟨u, eq_u, hu⟩ := s.toDirect_eq p
    rw [restore h, State.answerPointRestore_restores eq restores, eq_u,
      State.ack_eq_acked (s := u.givePointLevels) (f := f) (rest := rest) (by rw [hu]; exact h.buffer)]
    have levels := u.givePointLevels_levels
    subst hu
    exact ⟨_, rfl, ⟨rfl, levels, rfl, rfl⟩, rfl, rfl⟩

end Sys2Proof.Machine
end

section
/-! OFFER and ACCEPT frames on a link (chapter 6.2). -/

namespace Sys2Proof.Machine

/-! ## What the parts of a transition make of the link -/

/-- A link after a valid frame: counted, the silence timer restarted where it runs (R117, R125). -/
def Link.received (k : Link) : Link :=
  { k with
    silence := match k.state with
      | .acknowledging => some 600
      | .up _ => some 600
      | _ => k.silence
    counters := k.counters.good }

/-- A link that has left UP (R119). -/
def Link.leftUp (k : Link) : Link :=
  { k with resolved := none, offset := none, windowSinceUp := false, lost := [], errorRun := 0 }

/-- A link that has entered OFFERING (R119). -/
def Link.offering (own : LinkTx) (cause : Option OfferContent) (k : Link) : Link :=
  { k with
    state := .offering, candidate := none, refused := none, acceptRun := 0, windowRun := 0, windowRunSeq := none
    offerRun := if cause.isSome then 1 else 0
    offerRunContent := cause
    lastOffer := cause <|> k.lastOffer
    silence := none, breakHold := none, sendTimer := some 20
    waiting := k.waiting.filter (fun x => !x.isPeriodic) ++ [own] }

/-- A link that has entered UP (R115, R116, R119). -/
def Link.wentUp (fixed : Bool) (content : AcceptContent) (offset : Seq) (k : Link) : Link :=
  { k with
    state := .up fixed, resolved := some content, offset := some offset, candidate := none, windowSinceUp := false
    silence := some 600, errorRun := 0, lost := [], sendTimer := none }

section
variable {s : State} {l : LinkId}

/-- What is written at a link is read there. -/
theorem links_set_same (v : Vector Link 4) (l : LinkId) (k : Link) : (v.set l k)[l] = k := vector_set_same v l k

theorem Link.received_of_offering {k : Link} (offering : k.state = .offering) :
    k.received = { k with counters := k.counters.good } := by
  unfold Link.received
  rw [offering]

theorem Link.received_of_acknowledging {k : Link} (acknowledging : k.state = .acknowledging) :
    k.received = { k with silence := some 600, counters := k.counters.good } := by
  unfold Link.received
  rw [acknowledging]

theorem Link.received_of_up {k : Link} {fixed : Bool} (up : k.state = .up fixed) :
    k.received = { k with silence := some 600, counters := k.counters.good } := by
  unfold Link.received
  rw [up]

theorem Link.isUp_of_offering {k : Link} (offering : k.state = .offering) : k.isUp = false := by
  unfold Link.isUp
  rw [offering]

theorem Link.isUp_of_acknowledging {k : Link} (acknowledging : k.state = .acknowledging) : k.isUp = false := by
  unfold Link.isUp
  rw [acknowledging]

theorem Link.isUp_iff {k : Link} : k.isUp = true ↔ ∃ fixed, k.state = .up fixed := by
  unfold Link.isUp
  split
  next fixed up => exact ⟨fun _ => ⟨fixed, up⟩, fun _ => rfl⟩
  next other => exact ⟨fun h => absurd h (by decide), fun ⟨fixed, up⟩ => absurd up (other fixed)⟩

theorem State.leaveUp_of_up (up : (s.links[l]).isUp = true) : s.leaveUp l = { s with
    links := s.links.set l (s.links[l]).leftUp
    wa := s.wa.linkLeaves l
    cu := s.cu.rise s.cm.tables.notice.masked .linkChange } := if_pos up

theorem State.leaveUp_of_down (down : (s.links[l]).isUp = false) : s.leaveUp l = s :=
  if_neg (by rw [down]; decide)

theorem State.enterOffering_eq (l : LinkId) (cause : Option OfferContent) (s : State) :
    s.enterOffering l cause = s.updLink l (Link.offering (s.ownOffer l) cause) := by
  cases cause <;> rfl

theorem State.toOffering_of_up (up : (s.links[l]).isUp = true) (cause : Option OfferContent) :
    s.toOffering l cause = { s with
      links := s.links.set l ((s.links[l]).leftUp.offering (s.ownOffer l) cause)
      wa := s.wa.linkLeaves l
      cu := s.cu.rise s.cm.tables.notice.masked .linkChange } := by
  rw [State.toOffering, State.leaveUp_of_up up, State.enterOffering_eq]
  simp only [State.updLink, links_set_same, Vector.set_set]
  rfl

theorem State.toOffering_of_down (down : (s.links[l]).isUp = false) (cause : Option OfferContent) :
    s.toOffering l cause = s.updLink l (Link.offering (s.ownOffer l) cause) := by
  rw [State.toOffering, State.leaveUp_of_down down, State.enterOffering_eq]

theorem State.enterUp_eq (l : LinkId) (fixed : Bool) (content : AcceptContent) (offset : Seq) (s : State) :
    s.enterUp l fixed content offset = { s with
      links := s.links.set l ((s.links[l]).wentUp fixed content offset)
      cu := s.cu.rise s.cm.tables.notice.masked .linkChange } := rfl

/-- Two writes of one link are one. -/
theorem State.updLink_eq (l : LinkId) (g : Link → Link) (s : State) :
    s.updLink l g = { s with links := s.links.set l (g s.links[l]) } := rfl

end

/-! ## A valid OFFER -/

section
variable {s : State} {l : LinkId} {c : OfferContent}

theorem exec_offerFrame_offering (receives : s.receives l = true) (wf : c.wf = true)
    (offering : (s.links[l]).state = .offering) :
    exec (.offerFrame l c) s = .next ((s.updLink l fun k => { k with counters := k.counters.good }).offerInOffering l c) := by
  have taken : s.goodFrame l = s.updLink l fun k => { k with counters := k.counters.good } :=
    State.updLink_congr (Link.received_of_offering offering)
  have state : ((s.goodFrame l).links[l]).state = .offering := (congrArg Link.state (s.updLink_link l Link.received)).trans offering
  show execOfferFrame l c s = _
  unfold execOfferFrame
  rw [receives, wf]
  simp only [state, Bool.not_true, Bool.false_eq_true, if_false]
  rw [taken]

/-- The OFFER run after this content (R113). -/
def Link.offerRunWith (c : OfferContent) (k : Link) : Nat :=
  if 0 < k.offerRun ∧ k.offerRunContent = some c then k.offerRun + 1 else 1

theorem State.offerInOffering_refused (refused : (s.links[l]).refused = some c) :
    s.offerInOffering l c = s.updLink l fun k => { k with lastOffer := some c } := if_pos refused

theorem State.offerInOffering_runs (fresh : (s.links[l]).refused ≠ some c)
    (runs : (s.links[l]).offerRunWith c ≠ 3) : s.offerInOffering l c = s.updLink l fun k => { k with
      lastOffer := some c, refused := none, offerRunContent := some c, offerRun := k.offerRunWith c } := by
  refine (if_neg fresh).trans ((if_neg runs).trans (State.updLink_congr ?_))
  exact congrArg (fun n => { s.links[l] with
    lastOffer := some c, refused := none, offerRunContent := some c, offerRun := n }) (if_neg runs)

theorem State.offerInOffering_resolves (fresh : (s.links[l]).refused ≠ some c)
    (resolves : (s.links[l]).offerRunWith c = 3) : s.offerInOffering l c = (s.updLink l fun k => { k with
      lastOffer := some c, refused := none, offerRunContent := some c, offerRun := 0 }).resolveOffer l c := by
  refine (if_neg fresh).trans ((if_pos resolves).trans (congrArg (State.resolveOffer l c) (State.updLink_congr ?_)))
  exact congrArg (fun n => { s.links[l] with
    lastOffer := some c, refused := none, offerRunContent := some c, offerRun := n }) (if_pos resolves)

/-- An OFFER with the latched class and a common profile takes the link to ACKNOWLEDGING (R114, R116). -/
theorem State.resolveOffer_common {p : Profile} (class_ : c.freq = s.straps.freq)
    (common : c.profiles.resolve (s.cm.tables.links[l]).highest.offered = some p) :
    s.resolveOffer l c = s.updLink l fun k => { k with
      state := .acknowledging, candidate := some ⟨s.straps.freq, p, c.kinds⟩, acceptRun := 0, windowRun := 0
      windowRunSeq := none, silence := some 600, sendTimer := some 20
      waiting := k.waiting.filter (fun x => !x.isPeriodic) ++ [.accept ⟨s.straps.freq, p, c.kinds⟩] } := by
  rw [State.resolveOffer, common]
  exact if_pos class_

/-- Any other is refused (R114). -/
theorem State.resolveOffer_refused (none : c.freq ≠ s.straps.freq ∨
    c.profiles.resolve (s.cm.tables.links[l]).highest.offered = none) :
    s.resolveOffer l c = (s.updLink l fun k => { k with refused := some c }).pulse .linkError := by
  unfold State.resolveOffer
  split
  next p common => exact if_neg (none.resolve_right fun no => nomatch common.symm.trans no)
  next => rfl

end

/-- Settles O40: the OFFER run by the refused content, its length, and the resolution at 3. -/
theorem offerInOffering : Obligations.OfferInOffering := by
  intro l c s receives wf offering
  dsimp only
  rw [exec_offerFrame_offering receives wf offering]
  have link : ((s.updLink l fun k => { k with counters := k.counters.good }).links[l]) =
      { s.links[l] with counters := (s.links[l]).counters.good } := links_set_same _ _ _
  have others {k : Link} (m : LinkId) (other : m ≠ l) : (s.links.set l k)[m] = s.links[m] :=
    vector_set_other _ _ other
  by_cases refused : (s.links[l]).refused = some c
  · rw [State.offerInOffering_refused (by rwa [link]), State.updLink_updLink]
    refine ⟨_, rfl, ⟨rfl, others⟩, rfl, ?_⟩
    rw [State.updLink_link]
    exact ⟨rfl, rfl, fun _ => ⟨rfl, rfl⟩, fun fresh => absurd refused fresh, fun _ fresh => absurd refused fresh,
      fun fresh => absurd refused fresh⟩
  · by_cases run : (s.links[l]).offerRunWith c = 3
    · rw [State.offerInOffering_resolves (by rwa [link]) (by rw [link]; exact run), State.updLink_updLink]
      by_cases accepts : c.freq = s.straps.freq ∧
          ∃ p, c.profiles.resolve (s.cm.tables.links[l]).highest.offered = some p
      · obtain ⟨class_, p, common⟩ := accepts
        rw [State.resolveOffer_common (s := s.updLink l _) class_ common, State.updLink_updLink]
        refine ⟨_, rfl, ⟨rfl, others⟩, rfl, ?_⟩
        rw [State.updLink_link]
        refine ⟨rfl, rfl, fun same => absurd same refused, fun _ other => absurd run other, fun q _ _ _ eq => ?_,
          fun _ _ none => ?_⟩
        · obtain rfl := Option.some.inj (common.symm.trans eq)
          exact ⟨rfl, rfl, rfl, rfl, rfl, rfl, rfl, rfl, rfl⟩
        · exact absurd none (not_or.2 ⟨not_not_intro class_, fun no => nomatch common.symm.trans no⟩)
      · have none : c.freq ≠ s.straps.freq ∨
            c.profiles.resolve (s.cm.tables.links[l]).highest.offered = none := by
          by_cases class_ : c.freq = s.straps.freq
          · exact .inr (Option.eq_none_iff_forall_ne_some.2 fun p common => accepts ⟨class_, p, common⟩)
          · exact .inl class_
        rw [State.resolveOffer_refused (s := s.updLink l _) none, State.updLink_updLink]
        refine ⟨_, rfl, ⟨rfl, others⟩, rfl, ?_⟩
        rw [State.pulse_links, State.updLink_link]
        exact ⟨rfl, rfl, fun same => absurd same refused, fun _ other => absurd run other,
          fun p _ _ class_ common => absurd ⟨class_, p, common⟩ accepts, fun _ _ _ => ⟨offering, rfl, rfl, rfl⟩⟩
    · rw [State.offerInOffering_runs (by rwa [link]) (by rw [link]; exact run), State.updLink_updLink]
      refine ⟨_, rfl, ⟨rfl, others⟩, rfl, ?_⟩
      rw [State.updLink_link]
      exact ⟨rfl, rfl, fun same => absurd same refused, fun _ _ => ⟨offering, rfl, rfl, rfl, rfl⟩,
        fun _ _ three => absurd three run, fun _ three => absurd three run⟩

end Sys2Proof.Machine
end

section
/-! ACCEPT frames on a link (R116, R118, R119). -/

namespace Sys2Proof.Machine

section
variable {s : State} {l : LinkId} {c : AcceptContent}

/-- A link whose frames are received is OFFERING, ACKNOWLEDGING or UP (R107). -/
theorem State.receives_state (receives : s.receives l = true) :
    (s.links[l]).state = .offering ∨ (s.links[l]).state = .acknowledging ∨ ∃ fixed, (s.links[l]).state = .up fixed := by
  unfold State.receives at receives
  cases state : (s.links[l]).state with
  | offering => exact .inl rfl
  | acknowledging => exact .inr (.inl rfl)
  | up fixed => exact .inr (.inr ⟨fixed, rfl⟩)
  | disabled | breaking =>
    rw [state] at receives
    simp at receives

/-! ## By the state of the link -/

theorem State.goodFrame_state (l : LinkId) (s : State) : ((s.goodFrame l).links[l]).state = (s.links[l]).state :=
  (congrArg Link.state (s.updLink_link l Link.received) :)

theorem exec_acceptFrame_offering (receives : s.receives l = true) (wf : c.wf = true)
    (offering : (s.links[l]).state = .offering) :
    exec (.acceptFrame l c) s = .next (s.updLink l Link.received) := by
  show execAcceptFrame l c s = _
  unfold execAcceptFrame
  rw [receives, wf]
  simp only [s.goodFrame_state, offering, Bool.not_true, Bool.false_eq_true, if_false]
  rfl

theorem exec_acceptFrame_acknowledging (receives : s.receives l = true) (wf : c.wf = true)
    (acknowledging : (s.links[l]).state = .acknowledging) :
    exec (.acceptFrame l c) s = .next ((s.updLink l Link.received).acceptInAcknowledging l c) := by
  show execAcceptFrame l c s = _
  unfold execAcceptFrame
  rw [receives, wf]
  simp only [s.goodFrame_state, acknowledging, Bool.not_true, Bool.false_eq_true, if_false]
  rfl

theorem exec_acceptFrame_up {fixed : Bool} (receives : s.receives l = true) (wf : c.wf = true)
    (up : (s.links[l]).state = .up fixed) :
    exec (.acceptFrame l c) s = .next ((s.updLink l Link.received).acceptInUp l fixed c) := by
  show execAcceptFrame l c s = _
  unfold execAcceptFrame
  rw [receives, wf]
  simp only [s.goodFrame_state, up, Bool.not_true, Bool.false_eq_true, if_false]
  rfl

/-! ## In ACKNOWLEDGING -/

theorem State.acceptInAcknowledging_counts (equal : (s.links[l]).candidate = some c)
    (early : (s.links[l]).acceptRun + 1 < 3) :
    s.acceptInAcknowledging l c = s.updLink l fun k => { k with acceptRun := k.acceptRun + 1 } :=
  (if_pos equal).trans (if_pos early)

theorem State.acceptInAcknowledging_up (equal : (s.links[l]).candidate = some c)
    (third : 3 ≤ (s.links[l]).acceptRun + 1) : s.acceptInAcknowledging l c = { s with
      links := s.links.set l { ({ s.links[l] with acceptRun := (s.links[l]).acceptRun + 1 } : Link).wentUp false c 0 with
        waiting := (s.links[l]).waiting ++ [.start] }
      cu := s.cu.rise s.cm.tables.notice.masked .linkChange } := by
  refine (if_pos equal).trans ((if_neg (Nat.not_lt.2 third)).trans ?_)
  simp only [State.enterUp_eq, State.updLink_eq, links_set_same, Vector.set_set]
  rfl

theorem State.acceptInAcknowledging_other (other : (s.links[l]).candidate ≠ some c) :
    s.acceptInAcknowledging l c = s.toOffering l none := if_neg other

/-! ## In UP -/

theorem State.acceptInUp_other {fixed : Bool} (other : fixed = true ∨ (s.links[l]).resolved ≠ some c) :
    s.acceptInUp l fixed c = s.toOffering l none := if_pos (by simpa using other)

theorem State.acceptInUp_late (equal : (s.links[l]).resolved = some c) (late : (s.links[l]).windowSinceUp = true) :
    s.acceptInUp l false c = s := (if_neg (by rw [equal]; simp)).trans (if_pos late)

theorem State.acceptInUp_starts (equal : (s.links[l]).resolved = some c)
    (early : (s.links[l]).windowSinceUp = false) :
    s.acceptInUp l false c = s.updLink l fun k => { k with waiting := k.waiting ++ [.start] } :=
  (if_neg (by rw [equal]; simp)).trans (if_neg (by rw [early]; decide))

end

/-- A link that returns to OFFERING without an OFFER as the cause, with nothing resolved (R119). -/
theorem Link.offering_backToOffering {k k' : Link} {own : LinkTx} (resolved : k'.resolved = none)
    (offset : k'.offset = none) (waiting : k'.waiting = k.waiting) :
    k.backToOffering own (k'.offering own none) := by
  refine ⟨rfl, rfl, rfl, resolved, offset, rfl, rfl, rfl, rfl, rfl, rfl, ?_⟩
  rw [← waiting]
  rfl

/-- Settles O41: an ACCEPT by the state of the link and by its content. -/
theorem acceptTakesLinkUp : Obligations.AcceptTakesLinkUp := by
  intro l c s receives wf
  dsimp only
  have others {k : Link} (m : LinkId) (other : m ≠ l) : (s.links.set l k)[m] = s.links[m] :=
    vector_set_other _ _ other
  have link := s.updLink_link l Link.received
  rcases s.receives_state receives with offering | acknowledging | ⟨fixed, up⟩
  · have other {st : LinkState} (h : (s.links[l]).state = st) : st = .offering := h.symm.trans offering
    rw [exec_acceptFrame_offering receives wf offering]
    refine ⟨_, rfl, ⟨rfl, others⟩, ?_⟩
    rw [link, Link.received_of_offering offering]
    exact ⟨rfl, fun h => (nomatch other h), fun h => (nomatch other h), fun h => (nomatch other h),
      fun h => (nomatch other h), fun h => h.elim (fun h => (nomatch other h)) fun h => (nomatch other h.1),
      fun _ => ⟨rfl, rfl, rfl⟩⟩
  · have other {st : LinkState} (h : (s.links[l]).state = st) : st = .acknowledging := h.symm.trans acknowledging
    rw [exec_acceptFrame_acknowledging receives wf acknowledging]
    rw [Link.received_of_acknowledging acknowledging] at link
    by_cases equal : (s.links[l]).candidate = some c
    · by_cases early : (s.links[l]).acceptRun + 1 < 3
      · rw [State.acceptInAcknowledging_counts (by rwa [link]) (by rwa [link]), State.updLink_updLink]
        refine ⟨_, rfl, ⟨rfl, others⟩, ?_⟩
        rw [State.updLink_link, Link.received_of_acknowledging acknowledging]
        exact ⟨rfl, fun _ _ _ => ⟨rfl, rfl, rfl⟩, fun _ _ third => absurd third (Nat.ne_of_lt early),
          fun _ differs => absurd equal differs, fun h => (nomatch other h),
          fun h => h.elim (fun h => (nomatch other h)) fun h => (nomatch other h.1), fun h => (nomatch other h)⟩
      · rw [State.acceptInAcknowledging_up (by rwa [link]) (by rw [link]; exact Nat.not_lt.1 early), link]
        simp only [State.updLink_eq, Vector.set_set]
        refine ⟨_, rfl, ⟨rfl, others⟩, ?_⟩
        rw [links_set_same]
        exact ⟨rfl, fun _ _ h => absurd h early, fun _ _ _ => ⟨rfl, rfl, rfl, rfl, rfl, rfl, rfl, rfl, rfl, rfl⟩,
          fun _ differs => absurd equal differs, fun h => (nomatch other h),
          fun h => h.elim (fun h => (nomatch other h)) fun h => (nomatch other h.1), fun h => (nomatch other h)⟩
    · have down : ((s.updLink l Link.received).links[l]).isUp = false := by
        rw [link]
        exact Link.isUp_of_acknowledging acknowledging
      rw [State.acceptInAcknowledging_other (by rwa [link]), State.toOffering_of_down down, State.updLink_updLink]
      refine ⟨_, rfl, ⟨rfl, others⟩, ?_⟩
      rw [State.updLink_link]
      exact ⟨rfl, fun _ h => absurd h equal, fun _ h => absurd h equal,
        fun _ _ resolved offset => Link.offering_backToOffering resolved offset rfl, fun h => (nomatch other h),
        fun h => h.elim (fun h => (nomatch other h)) fun h => (nomatch other h.1), fun h => (nomatch other h)⟩
  · have other {st : LinkState} (h : (s.links[l]).state = st) : st = .up fixed := h.symm.trans up
    rw [exec_acceptFrame_up receives wf up]
    rw [Link.received_of_up up] at link
    have isUp : ((s.updLink l Link.received).links[l]).isUp = true := by
      rw [link]
      exact Link.isUp_of_state (fixed := fixed) up
    by_cases differs : fixed = true ∨ (s.links[l]).resolved ≠ some c
    · rw [State.acceptInUp_other (by rwa [link]), State.toOffering_of_up isUp, link]
      simp only [State.updLink_eq, Vector.set_set]
      refine ⟨_, rfl, ⟨rfl, others⟩, ?_⟩
      rw [links_set_same]
      refine ⟨rfl, fun h => (nomatch other h), fun h => (nomatch other h), fun h => (nomatch other h),
        fun negotiated equal => ?_,
        fun _ => ⟨Link.offering_backToOffering rfl rfl rfl, s.wa.linkLeaves_left l, rfl⟩, fun h => (nomatch other h)⟩
      obtain rfl := LinkState.up.inj (other negotiated)
      exact absurd equal (differs.resolve_left (by decide))
    · obtain ⟨negotiated, equal⟩ := not_or.1 differs
      obtain rfl : fixed = false := by simpa using negotiated
      have equal : (s.links[l]).resolved = some c := not_not.1 equal
      have same (h : (s.links[l]).state = .up true ∨
          ((s.links[l]).state = .up false ∧ (s.links[l]).resolved ≠ some c)) : False :=
        h.elim (fun h => (nomatch other h)) fun h => h.2 equal
      by_cases late : (s.links[l]).windowSinceUp = true
      · rw [State.acceptInUp_late (by rwa [link]) (by rwa [link])]
        refine ⟨_, rfl, ⟨rfl, others⟩, ?_⟩
        rw [link]
        exact ⟨rfl, fun h => (nomatch other h), fun h => (nomatch other h), fun h => (nomatch other h),
          fun _ _ early => (nomatch late.symm.trans early), fun h => (same h).elim, fun h => (nomatch other h)⟩
      · have early : (s.links[l]).windowSinceUp = false := Bool.not_eq_true _ ▸ late
        rw [State.acceptInUp_starts (by rwa [link]) (by rwa [link]), State.updLink_updLink]
        refine ⟨_, rfl, ⟨rfl, others⟩, ?_⟩
        rw [State.updLink_link, Link.received_of_up up]
        exact ⟨rfl, fun h => (nomatch other h), fun h => (nomatch other h), fun h => (nomatch other h),
          fun _ _ _ => ⟨rfl, rfl, rfl⟩, fun h => (same h).elim, fun h => (nomatch other h)⟩

end Sys2Proof.Machine
end

section
/-! WINDOW frames at the window assembler, and those of a link that is not UP (chapters 5.2, 5.3, 6.1, 6.3). -/

namespace Sys2Proof.Machine

/-! ## The links that are UP -/

theorem bitAt_eq_testBit (n i : Nat) : bitAt n i = n.testBit i := by
  rw [bitAt, Nat.testBit_eq_decide_div_mod_eq]
  rfl

/-- The set of the links that are UP holds exactly those (R94). -/
theorem State.upSet_getLsbD (s : State) (m : LinkId) : s.upSet.getLsbD m = (s.links[m]).isUp := by
  have inside : (m : Nat) < (s.links.toList.map Link.isUp).length := by simp
  rw [State.upSet, BitVec.getLsbD_ofNat, decide_eq_true m.isLt, Bool.true_and, ← bitAt_eq_testBit, bitAt_bitsOf,
    List.getElem?_eq_getElem inside]
  simp

/-! ## In range -/

section
variable {s : State} {l : LinkId} {f : WindowFrame} {seq : Seq}

theorem State.windowArrives_duplicate (at_ : f.seq + (s.links[l]).offset.getD 0 = seq)
    (inside : s.wa.distance seq ≤ 3) (duplicate : ∃ b ∈ s.wa.buffers[l], b.seq = seq) :
    s.windowArrives l f = s.updCounters l fun c => { c with duplicates := countUp c.duplicates } := by
  subst at_
  refine (if_pos inside).trans (if_pos (List.any_eq_true.2 ?_))
  obtain ⟨b, hb, eq⟩ := duplicate
  exact ⟨b, hb, beq_iff_eq.2 eq⟩

theorem State.windowArrives_fresh (at_ : f.seq + (s.links[l]).offset.getD 0 = seq)
    (inside : s.wa.distance seq ≤ 3) (fresh : ∀ b ∈ s.wa.buffers[l], b.seq ≠ seq) :
    s.windowArrives l f = s.bufferFrame l seq f := by
  subst at_
  refine (if_pos inside).trans (if_neg fun some => ?_)
  obtain ⟨b, hb, eq⟩ := List.any_eq_true.1 some
  exact fresh b hb (beq_iff_eq.1 eq)

/-- The assembler with a frame in its buffer (R91). -/
def Assembler.buffered (l : LinkId) (seq : Seq) (f : WindowFrame) (w : Assembler) : Assembler :=
  { w with buffers := w.buffers.set l (insertFrame w.front ⟨seq, f⟩ w.buffers[l]) }

theorem State.bufferFrame_eq (l : LinkId) (seq : Seq) (f : WindowFrame) (s : State) : s.bufferFrame l seq f = { s with
    wa := (s.wa.buffered l seq f).enter l seq f.duration.toNat s.upSet s.timeBase s.cm.tables.contract.allowance
    links := s.links.set l { s.links[l] with lost := (s.links[l]).lost.filter (· != seq), errorRun := 0 } } := rfl

variable {w : Assembler} {duration now allowance : Nat} {up : Set4}

/-- A frame joins the open record of its sequence (R94). -/
theorem Assembler.enter_joins (some_record : ∃ r ∈ w.records, r.seq = seq) :
    w.enter l seq duration up now allowance = { w with
      records := w.records.map fun r => if r.seq = seq then { r with arrived := r.arrived ||| only l } else r } := by
  refine if_pos (List.any_eq_true.2 ?_)
  obtain ⟨r, hr, eq⟩ := some_record
  exact ⟨r, hr, beq_iff_eq.2 eq⟩

/-- Or it opens one (R95, R104). -/
theorem Assembler.enter_opens (none : ∀ r ∈ w.records, r.seq ≠ seq) :
    w.enter l seq duration up now allowance = { w with
      records := w.records ++
        [{ seq := seq, firstArrival := now, duration := (clampDuration duration).1
           offFreq := (clampDuration duration).2, expected := up ||| only l, arrived := only l
           deadline := now + allowance }] } := by
  refine if_neg fun some_record => ?_
  obtain ⟨r, hr, eq⟩ := List.any_eq_true.1 some_record
  exact none r hr (beq_iff_eq.1 eq)

theorem Assembler.enter_kept (w : Assembler) : (w.enter l seq duration up now allowance).front = w.front ∧
    (w.enter l seq duration up now allowance).processing = w.processing ∧
    (w.enter l seq duration up now allowance).buffers = w.buffers := by
  unfold Assembler.enter
  split <;> exact ⟨rfl, rfl, rfl⟩

/-- The clamp of a duration, and when it acts (R17). -/
theorem clampDuration_eq (d : Nat) : (clampDuration d).1 = max 150000 (min 250000 d) ∧
    ((clampDuration d).2 = true ↔ d < 150000 ∨ 250000 < d) := by
  by_cases low : d < 150000
  · have acts : clampDuration d = (150000, true) := if_pos low
    rw [acts]
    simp only [true_iff]
    omega
  · by_cases high : 250000 < d
    · have acts : clampDuration d = (250000, true) := (if_neg low).trans (if_pos high)
      rw [acts]
      simp only [true_iff]
      omega
    · have rests : clampDuration d = (d, false) := (if_neg low).trans (if_neg high)
      rw [rests]
      simp only [Bool.false_eq_true, false_iff]
      omega

end

/-- Settles O42: a frame in range is a duplicate, or is buffered and enters the records. -/
theorem windowFrameInRange : Obligations.WindowFrameInRange := by
  intro l f s receives wf isUp fits
  dsimp only
  intro inside
  obtain ⟨fixed, up⟩ := Link.isUp_iff.1 isUp
  rw [exec_windowFrame_of_up receives wf up fits]
  have link := s.updLink_link l (Link.tookWindow fixed)
  have ups (m : LinkId) : ((s.updLink l (Link.tookWindow fixed)).links[m]).isUp = (s.links[m]).isUp := by
    by_cases same : m = l
    · subst same
      rw [link]
      rfl
    · exact congrArg Link.isUp (vector_set_other _ _ same)
  have at_ : f.seq + ((s.updLink l (Link.tookWindow fixed)).links[l]).offset.getD 0 =
      f.seq + (s.links[l]).offset.getD 0 := by rw [link]; rfl
  generalize f.seq + (s.links[l]).offset.getD 0 = seq at inside at_ ⊢
  have near : s.wa.distance seq ≤ 3 := inside
  have others {k : Link} (m : LinkId) (other : m ≠ l) : (s.links.set l k)[m] = s.links[m] :=
    vector_set_other _ _ other
  by_cases duplicate : ∃ b ∈ s.wa.buffers[l], b.seq = seq
  · rw [State.windowArrives_duplicate at_ near duplicate, State.updCounters, State.updLink_updLink]
    refine ⟨_, rfl, ⟨rfl, others⟩, rfl, rfl, rfl, ?_⟩
    rw [State.updLink_link]
    exact ⟨rfl, rfl, fun _ => ⟨rfl, rfl⟩, fun fresh => duplicate.elim fun b hb => absurd hb.2 (fresh b hb.1)⟩
  · have fresh : ∀ b ∈ s.wa.buffers[l], b.seq ≠ seq := fun b hb eq => duplicate ⟨b, hb, eq⟩
    rw [State.windowArrives_fresh at_ near fresh, State.bufferFrame_eq, link]
    simp only [State.updLink_eq, Vector.set_set]
    have kept := Assembler.enter_kept (l := l) (seq := seq) (duration := f.duration.toNat)
      (up := (s.updLink l (Link.tookWindow fixed)).upSet) (now := s.timeBase)
      (allowance := s.cm.tables.contract.allowance) (s.wa.buffered l seq f)
    obtain ⟨front, processing, buffers⟩ := kept
    refine ⟨_, rfl, ⟨rfl, others⟩, rfl, front, processing, ?_⟩
    rw [links_set_same]
    refine ⟨rfl, rfl, fun some => absurd some duplicate, fun _ => ⟨rfl, rfl, rfl, buffers, fun joins => ?_, fun opens => ?_⟩⟩
    · exact congrArg Assembler.records (Assembler.enter_joins (w := s.wa.buffered l seq f) joins)
    · refine ⟨_, congrArg Assembler.records (Assembler.enter_opens (w := s.wa.buffered l seq f) opens), rfl, rfl, rfl, fun m => ?_, rfl,
        (clampDuration_eq f.duration.toNat).1, (clampDuration_eq f.duration.toNat).2⟩
      have set := (s.updLink l (Link.tookWindow fixed)).upSet_getLsbD m
      rw [ups] at set
      show ((s.updLink l (Link.tookWindow fixed)).upSet ||| only l).getLsbD m = _
      rw [BitVec.getLsbD_or, set, getLsbD_only]
      by_cases same : l = m
      · subst same
        rw [isUp, decide_eq_true rfl, Bool.or_true]
      · rw [decide_eq_false same, Bool.or_false]

end Sys2Proof.Machine
end

section
/-! WINDOW frames of a link that is not negotiated UP, and fixed-format detection (R108, R115, R116). -/

namespace Sys2Proof.Machine

section
variable {s : State} {l : LinkId} {f : WindowFrame}

theorem exec_windowFrame_acknowledging (receives : s.receives l = true) (wf : f.wf = true)
    (acknowledging : (s.links[l]).state = .acknowledging) :
    exec (.windowFrame l f) s = .next (s.updLink l Link.received) := by
  show execWindowFrame l f s = _
  unfold execWindowFrame
  rw [receives, wf, acknowledging]
  rfl

theorem exec_windowFrame_offering (receives : s.receives l = true) (wf : f.wf = true)
    (offering : (s.links[l]).state = .offering) :
    exec (.windowFrame l f) s = .next ((s.updLink l Link.received).windowInOffering l f) := by
  show execWindowFrame l f s = _
  unfold execWindowFrame
  rw [receives, wf, offering]
  rfl

theorem Link.resetRuns_of_up {k : Link} {fixed : Bool} (up : k.state = .up fixed) : k.resetRuns = k := by
  unfold Link.resetRuns
  rw [up]

theorem exec_windowFrame_unmatched {fixed : Bool} (receives : s.receives l = true) (wf : f.wf = true)
    (up : (s.links[l]).state = .up fixed) (unmatched : (s.links[l]).matchesFrame f = false) :
    exec (.windowFrame l f) s = .next (s.badFrame LinkCounters.crcError l) := by
  show execWindowFrame l f s = _
  unfold execWindowFrame
  rw [receives, wf, up]
  have unfit : ¬ (s.links[l]).matchesFrame f = true := fun fits => Bool.false_ne_true (unmatched.symm.trans fits)
  exact (if_neg (by decide)).trans ((if_neg (by decide)).trans (if_neg unfit))

/-! ## The WINDOW run -/

/-- The WINDOW run that a frame of this sequence continues (R115). -/
def Link.windowRunAt (seq : Seq) (k : Link) : Nat :=
  if (k.windowRun = 1 ∨ k.windowRun = 2) ∧ k.windowRunSeq = some (seq - 1) then k.windowRun else 0

theorem State.windowInOffering_barred (barred : (s.cm.tables.links[l]).fixedAllowed = false) :
    s.windowInOffering l f = s := if_pos (by rw [barred]; rfl)

theorem State.windowInOffering_unfit (allowed : (s.cm.tables.links[l]).fixedAllowed = true)
    (unfit : ¬ (f.orders = 25 ∧ f.channels = (s.cm.tables.links[l]).fixedCount)) :
    s.windowInOffering l f = s.updLink l fun k => { k with windowRun := 0, windowRunSeq := none } := by
  refine (if_neg (by rw [allowed]; decide)).trans (if_pos ?_)
  rw [Bool.not_eq_true', Bool.and_eq_false_iff, beq_eq_false_iff_ne, beq_eq_false_iff_ne]
  exact not_and_or.1 unfit

theorem Link.windowRunAt_of_none {k : Link} (seq : Seq) (none : k.windowRunSeq = none) : k.windowRunAt seq = 0 := by
  rw [Link.windowRunAt, none]
  exact if_neg fun both => nomatch both.2

theorem Link.windowRunAt_of_some {k : Link} {last : Seq} (seq : Seq) (some_ : k.windowRunSeq = some last) :
    (if (k.windowRun == 1 || k.windowRun == 2) && seq == last + 1 then k.windowRun + 1 else 1) =
      k.windowRunAt seq + 1 := by
  have follows : seq = last + 1 ↔ last = seq - 1 := by
    constructor
    · rintro rfl
      rw [BitVec.add_sub_cancel]
    · rintro rfl
      rw [BitVec.sub_add_cancel]
  have same : ((k.windowRun == 1 || k.windowRun == 2) && seq == last + 1) = true ↔
      (k.windowRun = 1 ∨ k.windowRun = 2) ∧ some last = some (seq - 1) := by
    simp only [Bool.and_eq_true, Bool.or_eq_true, beq_iff_eq, Option.some_inj, follows]
  rw [Link.windowRunAt, some_]
  by_cases joins : (k.windowRun = 1 ∨ k.windowRun = 2) ∧ some last = some (seq - 1)
  · rw [if_pos joins, if_pos (same.2 joins)]
  · rw [if_neg joins, if_neg fun h => joins (same.1 h)]

/-- A fitting frame raises the run, and the third takes the link UP (R115). -/
theorem State.windowInOffering_fits (allowed : (s.cm.tables.links[l]).fixedAllowed = true)
    (fits : f.orders = 25 ∧ f.channels = (s.cm.tables.links[l]).fixedCount) {n : Nat}
    (run : (s.links[l]).windowRunAt f.seq = n) :
    s.windowInOffering l f =
      if n + 1 < 3 then s.updLink l fun k => { k with windowRun := n + 1, windowRunSeq := some f.seq }
      else ((s.updLink l fun k => { k with windowRun := n + 1, windowRunSeq := some f.seq }).enterUp l true
        ((s.cm.tables.links[l]).fixedContent s.straps.freq) (s.wa.front + 2 - f.seq)).windowArrives l f := by
  subst run
  have fitting : ¬ (!(f.orders == 25 && f.channels == (s.cm.tables.links[l]).fixedCount)) = true := by
    simpa using fits
  refine (if_neg (by rw [allowed]; decide)).trans ((if_neg fitting).trans ?_)
  cases last : (s.links[l]).windowRunSeq with
  | none =>
    dsimp only
    rw [Link.windowRunAt_of_none f.seq last, Bool.and_false]
    rfl
  | some q =>
    dsimp only
    rw [Link.windowRunAt_of_some f.seq last]
    rfl

/-- A frame two behind the front changes the assembler and, of its link, the lost list and the counts. -/
theorem State.windowArrives_atTwo (offset : (s.links[l]).offset = some (s.wa.front + 2 - f.seq)) :
    ∃ w lost errorRun counters, s.windowArrives l f = { s with
      wa := w
      links := s.links.set l { s.links[l] with lost := lost, errorRun := errorRun, counters := counters } } ∧
    ((∀ b ∈ s.wa.buffers[l], b.seq ≠ s.wa.front + 2) → w.buffers =
      s.wa.buffers.set l (insertFrame s.wa.front ⟨s.wa.front + 2, f⟩ s.wa.buffers[l])) := by
  have at_ : f.seq + (s.links[l]).offset.getD 0 = s.wa.front + 2 := by
    rw [offset, Option.getD_some]
    bv_omega
  have near : s.wa.distance (s.wa.front + 2) ≤ 3 := by
    have turn : s.wa.front + 2 - s.wa.front = 2 := by bv_omega
    rw [Assembler.distance, turn]
    decide
  by_cases duplicate : ∃ b ∈ s.wa.buffers[l], b.seq = s.wa.front + 2
  · refine ⟨s.wa, (s.links[l]).lost, (s.links[l]).errorRun, _, State.windowArrives_duplicate at_ near duplicate, ?_⟩
    exact fun fresh => duplicate.elim fun b hb => absurd hb.2 (fresh b hb.1)
  · have fresh : ∀ b ∈ s.wa.buffers[l], b.seq ≠ s.wa.front + 2 := fun b hb eq => duplicate ⟨b, hb, eq⟩
    rw [State.windowArrives_fresh at_ near fresh, State.bufferFrame_eq]
    exact ⟨_, _, _, (s.links[l]).counters, rfl, fun _ => (Assembler.enter_kept _).2.2⟩

end

/-- Settles O44: WINDOW frames by the state of the link, and the fixed-format run by its length. -/
theorem windowFrameElsewhere : Obligations.WindowFrameElsewhere := by
  intro l f s receives wf
  dsimp only
  have link := s.updLink_link l Link.received
  have taken (offering : (s.links[l]).state = .offering) :
      s.updLink l Link.received = s.updLink l fun k => { k with counters := k.counters.good } :=
    State.updLink_congr (Link.received_of_offering offering)
  refine ⟨fun acknowledging => ?_, fun offering barred => ?_, fun offering allowed unfit => ?_,
    fun offering allowed fits => ⟨fun early => ?_, fun third => ?_⟩, fun isUp unmatched => ?_⟩
  · rw [exec_windowFrame_acknowledging receives wf acknowledging, State.updLink_eq,
      Link.received_of_acknowledging acknowledging]
  · rw [exec_windowFrame_offering receives wf offering, taken offering]
    exact congrArg _ (State.windowInOffering_barred (s := s.updLink l _) barred)
  · rw [exec_windowFrame_offering receives wf offering, taken offering,
      State.windowInOffering_unfit (s := s.updLink l _) allowed unfit, State.updLink_updLink]
    rfl
  · rw [exec_windowFrame_offering receives wf offering, taken offering,
      State.windowInOffering_fits (s := s.updLink l _) (n := (s.links[l]).windowRunAt f.seq) allowed fits
        (by rw [State.updLink_link]; rfl), State.updLink_updLink]
    exact congrArg _ (if_pos (Nat.succ_lt_succ early))
  · rw [exec_windowFrame_offering receives wf offering, taken offering,
      State.windowInOffering_fits (s := s.updLink l _) (n := 2) allowed fits (by rw [State.updLink_link]; exact third),
      State.updLink_updLink, if_neg (by decide), State.enterUp_eq, State.updLink_link]
    simp only [State.updLink_eq, Vector.set_set]
    obtain ⟨w, lost, errorRun, counters, arrives, buffered⟩ := State.windowArrives_atTwo (f := f) (l := l)
      (s := { s with
        links := s.links.set l (({ s.links[l] with
          windowRun := 2 + 1, windowRunSeq := some f.seq, counters := (s.links[l]).counters.good } : Link).wentUp true
            ((s.cm.tables.links[l]).fixedContent s.straps.freq) (s.wa.front + 2 - f.seq))
        cu := s.cu.rise s.cm.tables.notice.masked .linkChange }) (by rw [links_set_same]; rfl)
    refine ⟨_, congrArg _ arrives, ⟨rfl, fun m other => ?_⟩, ?_⟩
    · exact (vector_set_other _ _ other).trans (vector_set_other _ _ other)
    · rw [links_set_same, links_set_same]
      exact ⟨rfl, rfl, rfl, rfl, rfl, rfl, buffered⟩
  · obtain ⟨fixed, up⟩ := Link.isUp_iff.1 isUp
    rw [exec_windowFrame_unmatched receives wf up unmatched, State.badFrame, State.updLink_eq,
      Link.resetRuns_of_up up]

end Sys2Proof.Machine
end

section
/-! Damaged windows, OFFERs outside OFFERING, invalid frames and jabber cuts (R107, R109, R116, R118, R121). -/

namespace Sys2Proof.Machine

section
variable {s : State} {l : LinkId} {seq : Seq}

theorem exec_invalidFrame (receives : s.receives l = true) :
    exec (.invalidFrame l) s = .next (s.badFrame LinkCounters.crcError l) := if_pos receives

theorem State.badFrame_of_up (up : (s.links[l]).isUp = true) (count : LinkCounters → LinkCounters) :
    s.badFrame count l = s.updLink l fun k => { k with counters := count k.counters } := by
  obtain ⟨fixed, state⟩ := Link.isUp_iff.1 up
  exact State.updLink_congr (by rw [Link.resetRuns_of_up state])

/-- The damaged frame of this sequence can be asked for again: it is in range, and neither lost nor held (R121). -/
def State.asksAgain (l : LinkId) (adjusted : Seq) (s : State) : Prop :=
  s.wa.distance adjusted ≤ 3 ∧ adjusted ∉ (s.links[l]).lost ∧ ∀ b ∈ s.wa.buffers[l], b.seq ≠ adjusted

theorem exec_damagedWindow_up {adjusted : Seq} (receives : s.receives l = true) (up : (s.links[l]).isUp = true)
    (at_ : seq + (s.links[l]).offset.getD 0 = adjusted) :
    (s.asksAgain l adjusted → exec (.damagedWindow l seq) s = .next (s.updLink l fun k => { k with
      counters := LinkCounters.crcError k.counters
      lost := k.lost ++ [adjusted], waiting := k.waiting ++ [.again seq] })) ∧
    (¬ s.asksAgain l adjusted → exec (.damagedWindow l seq) s =
      .next (s.updLink l fun k => { k with counters := LinkCounters.crcError k.counters })) := by
  subst at_
  have link := s.updLink_link l fun k => { k with counters := LinkCounters.crcError k.counters }
  have test : (s.wa.distance (seq + (s.links[l]).offset.getD 0) ≤ 3 ∧
        seq + (s.links[l]).offset.getD 0 ∉ (s.links[l]).lost ∧
        (s.wa.buffers[l]).all (fun b => b.seq != seq + (s.links[l]).offset.getD 0) = true) ↔
      s.asksAgain l (seq + (s.links[l]).offset.getD 0) := by
    simp only [State.asksAgain, List.all_eq_true, bne_iff_ne]
  have runs : exec (.damagedWindow l seq) s =
      if s.wa.distance (seq + (s.links[l]).offset.getD 0) ≤ 3 ∧
        seq + (s.links[l]).offset.getD 0 ∉ (s.links[l]).lost ∧
        (s.wa.buffers[l]).all (fun b => b.seq != seq + (s.links[l]).offset.getD 0) = true then
        .next (s.updLink l fun k => { k with
          counters := LinkCounters.crcError k.counters
          lost := k.lost ++ [seq + (s.links[l]).offset.getD 0], waiting := k.waiting ++ [.again seq] })
      else .next (s.updLink l fun k => { k with counters := LinkCounters.crcError k.counters }) := by
    show execDamagedWindow l seq s = _
    unfold execDamagedWindow State.updCounters
    rw [receives, up]
    dsimp only
    rw [link, State.updLink_updLink]
    rfl
  exact ⟨fun asks => runs.trans (if_pos (test.2 asks)), fun no => runs.trans (if_neg fun h => no (test.1 h))⟩

end

/-- Settles O45: the count in every case, and the REPEAT by the range, the lost list and the buffer. -/
theorem damagedWindow : Obligations.DamagedWindow := by
  intro l seq s receives up
  dsimp only
  obtain ⟨asked, counted⟩ := exec_damagedWindow_up (seq := seq) receives up rfl
  refine ⟨?_, fun near lost held => asked ⟨near, lost, held⟩, fun no => counted fun ⟨near, lost, held⟩ => ?_⟩
  · rw [exec_invalidFrame receives, State.badFrame_of_up up]
    rfl
  · rcases no with far | isLost | ⟨b, mem, eq⟩
    · exact absurd near (Nat.not_le.2 far)
    · exact lost isLost
    · exact held b mem eq

end Sys2Proof.Machine
end

section
/-! OFFERs outside OFFERING, invalid frames and jabber cuts (R107, R109, R110, R116, R118). -/

namespace Sys2Proof.Machine

/-! ## Time over the links -/

section
variable {s : State} {l : LinkId}

theorem State.advance_links (powered : s.powered = true) (n : Nat) (l : LinkId) :
    (s.advance n).links[l] = (s.links[l]).advance n := by
  unfold State.advance
  rw [if_pos powered]
  split <;> exact Vector.getElem_ofFn l.isLt

@[simp] theorem State.advance_ownOffer (n : Nat) (l : LinkId) (s : State) : (s.advance n).ownOffer l = s.ownOffer l := by
  unfold State.ownOffer
  simp

theorem State.not_receives_of_ignoring {n : Nat} (ignoring : (s.links[l]).ignoring = some n) :
    s.receives l = false := by
  unfold State.receives
  rw [ignoring]
  simp

/-! ## OFFERs outside OFFERING -/

variable {c : OfferContent}

theorem exec_offerFrame_up (receives : s.receives l = true) (wf : c.wf = true) (up : (s.links[l]).isUp = true) :
    exec (.offerFrame l c) s = .next ((s.updLink l Link.received).toOffering l (some c)) := by
  obtain ⟨fixed, state⟩ := Link.isUp_iff.1 up
  show execOfferFrame l c s = _
  unfold execOfferFrame
  rw [receives, wf]
  simp only [s.goodFrame_state, state, Bool.not_true, Bool.false_eq_true, if_false]
  rfl

theorem exec_offerFrame_acknowledging (receives : s.receives l = true) (wf : c.wf = true)
    (acknowledging : (s.links[l]).state = .acknowledging) :
    ((s.links[l]).lastOffer = some c → exec (.offerFrame l c) s = .next (s.updLink l Link.received)) ∧
    ((s.links[l]).lastOffer ≠ some c →
      exec (.offerFrame l c) s = .next ((s.updLink l Link.received).toOffering l (some c))) := by
  have last : ((s.goodFrame l).links[l]).lastOffer = (s.links[l]).lastOffer :=
    (congrArg Link.lastOffer (s.updLink_link l Link.received) :)
  have runs : exec (.offerFrame l c) s =
      if (s.links[l]).lastOffer = some c then .next (s.updLink l Link.received)
      else .next ((s.updLink l Link.received).toOffering l (some c)) := by
    show execOfferFrame l c s = _
    unfold execOfferFrame
    rw [receives, wf]
    simp only [s.goodFrame_state, acknowledging, last, Bool.not_true, Bool.false_eq_true, if_false]
    rfl
  exact ⟨fun same => runs.trans (if_pos same), fun other => runs.trans (if_neg other)⟩

/-! ## Frames that are not valid -/

theorem exec_damagedWindow_down {seq : Seq} (receives : s.receives l = true) (down : (s.links[l]).isUp = false) :
    exec (.damagedWindow l seq) s = .next (s.badFrame LinkCounters.crcError l) := by
  show execDamagedWindow l seq s = _
  unfold execDamagedWindow
  rw [receives, down]
  rfl

theorem exec_jabberCut (receives : s.receives l = true) : exec (.jabberCut l) s = .next { s with
    links := s.links.set l { (s.links[l]).resetRuns with
      ignoring := some 1
      counters := { (s.links[l]).counters with jabberCuts := countUp (s.links[l]).counters.jabberCuts } }
    cu := s.cu.rise s.cm.tables.notice.masked .linkError } := by
  show execJabberCut l s = _
  unfold execJabberCut State.badFrame
  rw [receives]
  dsimp only
  rw [State.updLink_updLink]
  rfl

theorem exec_jabberIdleEnd_of_some {n : Nat} (powered : s.powered = true) (ignoring : (s.links[l]).ignoring = some n) :
    exec (.jabberIdleEnd l) s = .next ((s.advance n).updLink l fun k => { k with ignoring := none }) := by
  show execJabberIdleEnd l s = _
  unfold execJabberIdleEnd
  rw [ignoring]
  exact if_pos powered

theorem exec_jabberIdleEnd_of_none (ignoring : (s.links[l]).ignoring = none) :
    exec (.jabberIdleEnd l) s = .next s := by
  show execJabberIdleEnd l s = _
  unfold execJabberIdleEnd
  rw [ignoring]

theorem exec_windowFrame_deaf {f : WindowFrame} (deaf : s.receives l = false) : exec (.windowFrame l f) s = .next s :=
  if_pos (by rw [deaf]; rfl)

end

/-- Settles O46: OFFERs in UP and ACKNOWLEDGING, invalid frames and cuts, each by the link's state. -/
theorem offerElsewhereAndBadFrames : Obligations.OfferElsewhereAndBadFrames := by
  intro l s powered
  dsimp only
  have others {k : Link} (m : LinkId) (other : m ≠ l) : (s.links.set l k)[m] = s.links[m] :=
    vector_set_other _ _ other
  refine ⟨exec_jabberIdleEnd_of_none, fun n ignoring => ?_, fun receives => ⟨fun c wf elsewhere => ?_,
    fun c wf acknowledging same => ?_, fun seq => ⟨fun runs => ?_, ?_⟩⟩⟩
  · refine ⟨_, exec_jabberIdleEnd_of_some powered ignoring, rfl, fun m other => ?_, ?_⟩
    · exact (vector_set_other _ _ other).trans (State.advance_links powered n m)
    · rw [State.updLink_link, State.advance_links powered]
  · have link := s.updLink_link l Link.received
    rcases elsewhere with up | ⟨acknowledging, differs⟩
    · have isUp : ((s.updLink l Link.received).links[l]).isUp = true := by rw [link]; exact up
      rw [exec_offerFrame_up receives wf up, State.toOffering_of_up isUp, link]
      simp only [State.updLink_eq, Vector.set_set]
      refine ⟨_, rfl, ⟨rfl, others⟩, ?_⟩
      rw [links_set_same]
      exact ⟨rfl, rfl, rfl, rfl, rfl, rfl, rfl, fun _ => ⟨s.wa.linkLeaves_left l, rfl⟩⟩
    · have down : (s.links[l]).isUp = false := Link.isUp_of_acknowledging acknowledging
      have isDown : ((s.updLink l Link.received).links[l]).isUp = false := by rw [link]; exact down
      rw [(exec_offerFrame_acknowledging receives wf acknowledging).2 differs, State.toOffering_of_down isDown,
        State.updLink_updLink]
      refine ⟨_, rfl, ⟨rfl, others⟩, ?_⟩
      rw [State.updLink_link]
      exact ⟨rfl, rfl, rfl, rfl, rfl, rfl, rfl, fun up => (nomatch down.symm.trans up)⟩
  · rw [(exec_offerFrame_acknowledging receives wf acknowledging).1 same, State.updLink_eq,
      Link.received_of_acknowledging acknowledging]
  · have down : (s.links[l]).isUp = false := runs.elim Link.isUp_of_offering Link.isUp_of_acknowledging
    rw [exec_invalidFrame receives, exec_damagedWindow_down receives down]
    exact ⟨rfl, rfl⟩
  · refine ⟨_, exec_jabberCut receives, ⟨rfl, others⟩, rfl, links_set_same _ _ _, rfl, fun f => ?_⟩
    refine exec_windowFrame_deaf (State.not_receives_of_ignoring (n := 1) ?_)
    rw [links_set_same]

end Sys2Proof.Machine
end

section
/-! The transmitter and the timers of a link (R96, R104, R110, R113, R116, R117, R119, R125). -/

namespace Sys2Proof.Machine

section
variable {s : State} {l : LinkId}

/-! ## The transmitter -/

theorem exec_offerSendPeriod (powered : s.powered = true) (offering : (s.links[l]).state = .offering) :
    exec (.offerSendPeriod l) s = .next ((s.advance ((s.links[l]).sendTimer.getD 0)).updLink l
      (·.duePeriodic ((s.advance ((s.links[l]).sendTimer.getD 0)).ownOffer l))) :=
  if_pos (by rw [powered, offering]; rfl)

theorem exec_acceptSendPeriod {c : AcceptContent} (powered : s.powered = true)
    (acknowledging : (s.links[l]).state = .acknowledging) (candidate : (s.links[l]).candidate = some c) :
    exec (.acceptSendPeriod l) s = .next ((s.advance ((s.links[l]).sendTimer.getD 0)).updLink l
      (·.duePeriodic (.accept c))) := by
  show execAcceptSendPeriod l s = _
  unfold execAcceptSendPeriod
  rw [acknowledging, candidate]
  exact if_pos powered

theorem exec_linkFrameSend_busy (busy : (s.links[l]).sending ≠ none) : exec (.linkFrameSend l) s = .next s :=
  if_pos (by rw [Option.isSome_iff_ne_none.2 busy, Bool.or_true])

/-- The link's counters once a frame has begun transmission: a REPEAT is counted (R125). -/
def LinkTx.counted (x : LinkTx) (c : LinkCounters) : LinkCounters :=
  match x with
  | .again _ => { c with repeatsSent := countUp c.repeatsSent }
  | _ => c

theorem exec_linkFrameSend_first {x : LinkTx} {rest : List LinkTx} (powered : s.powered = true)
    (idle : (s.links[l]).sending = none) (waiting : (s.links[l]).waiting = x :: rest) :
    exec (.linkFrameSend l) s = .next { s with links := s.links.set l { s.links[l] with
      waiting := rest, sending := some (x.bytes s.wa.front), counters := x.counted (s.links[l]).counters } } := by
  show execLinkFrameSend l s = _
  unfold execLinkFrameSend State.updCounters
  refine (if_neg (by rw [powered, idle]; decide)).trans ?_
  rw [waiting]
  cases x with
  | again q =>
    exact congrArg Host.Outcome.next (State.updLink_updLink ..)
  | offer | accept | start => rfl

/-! ## The timers -/

theorem exec_silenceTimerExpiry {n : Nat} (powered : s.powered = true) (silence : (s.links[l]).silence = some n)
    (runs : (s.links[l]).isUp = true ∨ (s.links[l]).state = .acknowledging) :
    exec (.silenceTimerExpiry l) s = .next ((s.advance n).toOffering l none) := by
  show execSilenceTimerExpiry l s = _
  unfold execSilenceTimerExpiry
  rw [silence]
  exact if_pos (by simpa [powered] using runs)

theorem exec_breakHoldExpiry {n : Nat} (powered : s.powered = true) (hold : (s.links[l]).breakHold = some n)
    (breaking : (s.links[l]).state = .breaking) :
    exec (.breakHoldExpiry l) s =
      .next ((s.advance n).updLink l (Link.offering (s.ownOffer l) none)) := by
  show execBreakHoldExpiry l s = _
  unfold execBreakHoldExpiry
  rw [hold, ← s.advance_ownOffer n, ← State.enterOffering_eq]
  exact if_pos (by rw [powered, breaking]; rfl)

theorem exec_assemblyDeadlineExpiry {q : Seq} {r : AssemblyRecord} (powered : s.powered = true)
    (first : s.wa.records.find? (fun r => r.seq == q) = some r) :
    exec (.assemblyDeadlineExpiry q) s = .next (s.advance (r.deadline - s.timeBase)) := by
  show execAssemblyDeadlineExpiry q s = _
  unfold execAssemblyDeadlineExpiry
  rw [first]
  exact if_pos powered

theorem AssemblyRecord.ready_of_deadline {r : AssemblyRecord} {now : Nat} (passed : r.deadline ≤ now) :
    r.ready now = true := by
  unfold AssemblyRecord.ready
  simp [passed]

end

/-- Settles O47: what falls due in a period, and the first waiting frame by its kind. -/
theorem linkSends : Obligations.LinkSends := by
  intro l s powered
  dsimp only
  refine ⟨fun offering => ?_, fun c acknowledging candidate => ?_, exec_linkFrameSend_busy,
    fun x rest idle waiting => ?_⟩
  · refine ⟨_, exec_offerSendPeriod powered offering, rfl, fun m other => vector_set_other _ _ other, ?_⟩
    rw [State.updLink_link, State.advance_ownOffer, State.advance_links powered]
    rfl
  · refine ⟨_, exec_acceptSendPeriod powered acknowledging candidate, rfl, fun m other => vector_set_other _ _ other, ?_⟩
    rw [State.updLink_link, State.advance_links powered]
    rfl
  · refine ⟨_, exec_linkFrameSend_first powered idle waiting, ?_⟩
    rw [links_set_same]
    refine ⟨rfl, ?_, ?_, ?_, ?_, ?_⟩
    · rintro rfl
      rfl
    · rintro c rfl
      rfl
    · rintro c rfl
      rfl
    · rintro q rfl
      exact ⟨rfl, rfl⟩
    · intro other
      cases x with
      | again q => exact absurd rfl (other q)
      | offer | accept | start => rfl

/-- Settles O48: each timer's instant, and from UP the leaving of UP. -/
theorem linkTimers : Obligations.LinkTimers := by
  intro s powered
  refine ⟨fun l n silence runs => ?_, fun l n hold breaking => ?_, fun q ⟨r, mem, seq⟩ => ?_⟩
  · have link := State.advance_links powered n l
    have others {k : Link} (m : LinkId) (other : m ≠ l) :
        ((s.advance n).links.set l k)[m] = (s.advance n).links[m] := vector_set_other _ _ other
    have time := State.advance_timeBase (s := s) (dt := n) powered
    have wa : (s.advance n).wa = s.wa := by simp
    rw [exec_silenceTimerExpiry powered silence runs]
    by_cases up : (s.links[l]).isUp = true
    · rw [State.toOffering_of_up (s := s.advance n) (by rw [link]; exact up), link, State.advance_ownOffer]
      refine ⟨_, rfl, ⟨rfl, others⟩, time, ?_⟩
      rw [links_set_same]
      refine ⟨rfl, rfl, rfl, rfl, rfl, fun _ => ⟨rfl, ?_, ConditionUnit.rise_flag _ .linkChange _⟩⟩
      exact wa ▸ (s.advance n).wa.linkLeaves_left l
    · have down : (s.links[l]).isUp = false := Bool.not_eq_true _ ▸ up
      rw [State.toOffering_of_down (s := s.advance n) (by rw [link]; exact down), State.advance_ownOffer]
      refine ⟨_, rfl, ⟨rfl, others⟩, time, ?_⟩
      rw [State.updLink_link, link]
      exact ⟨rfl, rfl, rfl, rfl, rfl, fun isUp => absurd isUp up⟩
  · have link := State.advance_links powered n l
    refine ⟨_, exec_breakHoldExpiry powered hold breaking, ⟨rfl, fun m other => vector_set_other _ _ other⟩,
      State.advance_timeBase powered, (s.advance_frame n).2.2.2.1, ?_⟩
    rw [State.updLink_link, link]
    exact ⟨rfl, rfl, rfl, rfl⟩
  · obtain ⟨first, found⟩ := Option.isSome_iff_exists.1
      (List.find?_isSome (p := fun r => r.seq == q).2 ⟨r, mem, beq_iff_eq.2 seq⟩)
    have wa : (s.advance (first.deadline - s.timeBase)).wa = s.wa := by simp
    refine ⟨_, exec_assemblyDeadlineExpiry powered found, wa, first, wa ▸ List.mem_of_find?_eq_some found,
      beq_iff_eq.1 (List.find?_some found :), AssemblyRecord.ready_of_deadline ?_, rfl⟩
    rw [State.advance_timeBase powered]
    omega

end Sys2Proof.Machine
end

section
/-! Taking a window: the removals, the reports to the links, and what becomes of results at the boundary
(R22, R34, R97 to R99, R103, R122). -/

namespace Sys2Proof.Machine

/-! ## A condition that nothing touches -/

/-- Flag and rise count of a condition stand. -/
def ConditionUnit.StandsAt (i : Fin 16) (cu t : ConditionUnit) : Prop :=
  t.flags[i] = cu.flags[i] ∧ t.rises[i] = cu.rises[i]

section
variable {i : Fin 16} {cu a b : ConditionUnit} {c : Condition}

theorem ConditionUnit.StandsAt.refl : ConditionUnit.StandsAt i cu cu := ⟨rfl, rfl⟩

theorem ConditionUnit.StandsAt.trans (h : cu.StandsAt i a) (h' : a.StandsAt i b) : cu.StandsAt i b :=
  ⟨h'.1.trans h.1, h'.2.trans h.2⟩

theorem ConditionUnit.rise_standsAt (masked : Vector Bool 16) (other : i ≠ c.idx) :
    cu.StandsAt i (cu.rise masked c) := (cu.rise_risen masked c).2.1 i other

theorem ConditionUnit.give_standsAt (t : NoticeTable) (level : Bool) (other : i ≠ c.idx) :
    cu.StandsAt i (cu.give t c level) := by
  cases level with
  | true =>
    by_cases high : cu.sources[c.idx] = true
    · rw [ConditionUnit.give_same high]
      exact .refl
    · rw [ConditionUnit.give_rise (Bool.not_eq_true _ ▸ high)]
      exact ConditionUnit.rise_standsAt (cu := { cu with sources := cu.sources.set c.idx true }) t.masked other
  | false =>
    by_cases high : cu.sources[c.idx] = true
    · rw [ConditionUnit.give_fall high]
      cases discipline : t.discipline with
      | follow =>
        rw [ConditionUnit.fall_follow discipline]
        exact ⟨vector_set_other _ _ other, vector_set_other _ _ other⟩
      | hold =>
        rw [ConditionUnit.fall_hold discipline]
        exact .refl
    · rw [ConditionUnit.give_same (Bool.not_eq_true _ ▸ high)]
      exact .refl

/-- A latched flag stays latched over a rise. -/
theorem ConditionUnit.rise_latched (masked : Vector Bool 16) (latched : cu.flags[i] = true) :
    (cu.rise masked c).flags[i] = true := by
  by_cases same : i = c.idx
  · rw [same]
    exact cu.rise_flag masked c
  · rw [(ConditionUnit.rise_standsAt masked same).1, latched]

end

/-! ## The report of a take -/

section
variable {s : State} {l m : LinkId} {q : Seq}

theorem State.enterBreaking_link (l : LinkId) (s : State) : ((s.enterBreaking l).links[l]).state = .breaking ∧
    ((s.enterBreaking l).links[l]).breakHold = some 1500 ∧ ((s.enterBreaking l).links[l]).counters =
      { (s.links[l]).counters with restarts := countUp (s.links[l]).counters.restarts } := by
  cases up : (s.links[l]).isUp with
  | true =>
    rw [State.enterBreaking_of_up up, links_set_same]
    exact ⟨rfl, rfl, rfl⟩
  | false =>
    rw [State.enterBreaking_of_down up, links_set_same]
    exact ⟨rfl, rfl, rfl⟩

/-- What entering BREAKING may change, and that the other links, W and the window in processing stand. -/
theorem State.enterBreaking_kept (l : LinkId) (s : State) :
    s.enterBreaking l =
      { s with wa := (s.enterBreaking l).wa, links := (s.enterBreaking l).links, cu := (s.enterBreaking l).cu } ∧
    (∀ m : LinkId, m ≠ l → (s.enterBreaking l).links[m] = s.links[m]) ∧
    (s.enterBreaking l).wa.processing = s.wa.processing ∧
    ((s.enterBreaking l).cu = s.cu ∨
      (s.enterBreaking l).cu = s.cu.rise s.cm.tables.notice.masked .linkChange) := by
  cases up : (s.links[l]).isUp with
  | true =>
    rw [State.enterBreaking_of_up up]
    exact ⟨rfl, fun m other => vector_set_other _ _ other, rfl, .inr rfl⟩
  | false =>
    rw [State.enterBreaking_of_down up]
    exact ⟨rfl, fun m other => vector_set_other _ _ other, rfl, .inl rfl⟩

theorem State.reportTake_unlost (unlost : q ∉ (s.links[l]).lost) : s.reportTake q l = s := if_neg unlost

theorem State.reportTake_early (lost : q ∈ (s.links[l]).lost) (early : (s.links[l]).errorRun < 2) :
    s.reportTake q l = s.updLink l fun k =>
      { k with lost := k.lost.filter (· != q), errorRun := (s.links[l]).errorRun + 1 } :=
  (if_pos lost).trans (if_neg (by omega))

theorem State.reportTake_third (lost : q ∈ (s.links[l]).lost) (third : 2 ≤ (s.links[l]).errorRun) :
    s.reportTake q l = ((s.updLink l fun k =>
      { k with lost := k.lost.filter (· != q), errorRun := (s.links[l]).errorRun + 1 }).pulse .linkError).enterBreaking l :=
  (if_pos lost).trans (if_pos (by omega))

/-- What the report to a link may change, and what stands: the other links, the window in processing, and every
condition but LINK-CHANGE and LINK-ERROR, which at most rise. -/
structure State.Reports (ls : List LinkId) (s t : State) : Prop where
  changes : t = { s with wa := t.wa, links := t.links, cu := t.cu }
  links : ∀ m : LinkId, m ∉ ls → t.links[m] = s.links[m]
  processing : t.wa.processing = s.wa.processing
  latched : ∀ i : Fin 16, s.cu.flags[i] = true → t.cu.flags[i] = true
  stands : ∀ i : Fin 16, i ≠ Condition.linkChange.idx → i ≠ Condition.linkError.idx → s.cu.StandsAt i t.cu

theorem State.reportTake_reports (s : State) (q : Seq) (l : LinkId) : s.Reports [l] (s.reportTake q l) := by
  by_cases lost : q ∈ (s.links[l]).lost
  · by_cases early : (s.links[l]).errorRun < 2
    · rw [State.reportTake_early lost early]
      exact ⟨rfl, fun m other => vector_set_other _ _ (List.mem_singleton.not.1 other), rfl, fun _ h => h,
        fun _ _ _ => .refl⟩
    · rw [State.reportTake_third lost (Nat.not_lt.1 early)]
      generalize between : (s.updLink l fun k =>
        { k with lost := k.lost.filter (· != q), errorRun := (s.links[l]).errorRun + 1 }).pulse .linkError = u
      obtain ⟨changes, links, processing, cu⟩ := u.enterBreaking_kept l
      generalize u.enterBreaking l = t at changes links processing cu ⊢
      subst between
      have raised (i : Fin 16) (h : s.cu.flags[i] = true) :
          (s.cu.rise s.cm.tables.notice.masked .linkError).flags[i] = true := ConditionUnit.rise_latched _ h
      have stands (i : Fin 16) (other : i ≠ Condition.linkError.idx) :
          s.cu.StandsAt i (s.cu.rise s.cm.tables.notice.masked .linkError) := ConditionUnit.rise_standsAt _ other
      refine ⟨changes, fun m other => ?_, processing, fun i h => ?_, fun i change error => ?_⟩
      · exact (links m (List.mem_singleton.not.1 other)).trans (vector_set_other _ _ (List.mem_singleton.not.1 other))
      · rcases cu with same | rises
        · rw [same]
          exact raised i h
        · rw [rises]
          exact ConditionUnit.rise_latched _ (raised i h)
      · rcases cu with same | rises
        · rw [same]
          exact stands i error
        · rw [rises]
          exact (stands i error).trans (ConditionUnit.rise_standsAt _ change)
  · rw [State.reportTake_unlost lost]
    exact ⟨rfl, fun _ _ => rfl, rfl, fun _ h => h, fun _ _ _ => .refl⟩

theorem State.reportTakes_reports (s : State) (q : Seq) (ls : List LinkId) : s.Reports ls (s.reportTakes q ls) := by
  induction ls generalizing s with
  | nil => exact ⟨rfl, fun _ _ => rfl, rfl, fun _ h => h, fun _ _ _ => .refl⟩
  | cons l rest ih =>
    have first := s.reportTake_reports q l
    have others := ih (s.reportTake q l)
    show s.Reports (l :: rest) ((s.reportTake q l).reportTakes q rest)
    generalize (s.reportTake q l).reportTakes q rest = t at others ⊢
    generalize s.reportTake q l = u at first others
    refine ⟨?_, fun m apart => ?_, others.processing.trans first.processing,
      fun i h => others.latched i (first.latched i h),
      fun i change error => (first.stands i change error).trans (others.stands i change error)⟩
    · rw [others.changes, first.changes]
    · obtain ⟨here, behind⟩ := not_or.1 (mt List.mem_cons.2 apart)
      exact (others.links m behind).trans (first.links m (List.mem_singleton.not.2 here))

/-- What a take of `q` makes of link `l`, which stood as `k` before (R98, R122). -/
def State.TakeReported (q : Seq) (l : LinkId) (k : Link) (t : State) : Prop :=
  (q ∉ k.lost → t.links[l] = k) ∧
  (q ∈ k.lost → k.errorRun < 2 →
    t.links[l] = { k with lost := k.lost.filter (· != q), errorRun := k.errorRun + 1 }) ∧
  (q ∈ k.lost → k.errorRun = 2 → (t.links[l]).state = .breaking ∧ (t.links[l]).breakHold = some 1500 ∧
    (t.links[l]).counters = { k.counters with restarts := countUp k.counters.restarts } ∧ t.cu.flags[2] = true)

theorem State.TakeReported.later {k : Link} {t u : State} (h : t.TakeReported q l k) (link : u.links[l] = t.links[l])
    (latched : t.cu.flags[2] = true → u.cu.flags[2] = true) : u.TakeReported q l k := by
  unfold State.TakeReported
  rw [link]
  refine ⟨h.1, h.2.1, fun lost third => ?_⟩
  obtain ⟨state, hold, counters, flag⟩ := h.2.2 lost third
  exact ⟨state, hold, counters, latched flag⟩

theorem State.reportTake_takeReported (s : State) (q : Seq) (l : LinkId) :
    (s.reportTake q l).TakeReported q l s.links[l] := by
  refine ⟨fun unlost => ?_, fun lost early => ?_, fun lost third => ?_⟩
  · rw [State.reportTake_unlost unlost]
  · rw [State.reportTake_early lost early, State.updLink_link]
  · rw [State.reportTake_third lost (Nat.le_of_eq third.symm)]
    generalize between : (s.updLink l fun k =>
      { k with lost := k.lost.filter (· != q), errorRun := (s.links[l]).errorRun + 1 }).pulse .linkError = u
    obtain ⟨state, hold, counters⟩ := u.enterBreaking_link l
    obtain ⟨_, _, _, cu⟩ := u.enterBreaking_kept l
    have before : (u.links[l]).counters = (s.links[l]).counters := by
      subst between
      rw [State.pulse_links, State.updLink_link]
    have raised : u.cu.flags[2] = true := by
      subst between
      exact ConditionUnit.rise_flag _ .linkError _
    refine ⟨state, hold, by rw [counters, before], ?_⟩
    rcases cu with same | rises
    · rw [same]
      exact raised
    · rw [rises]
      exact ConditionUnit.rise_latched (i := 2) _ raised

theorem State.reportTakes_takeReported (s : State) (q : Seq) {ls : List LinkId} (distinct : ls.Nodup) (mem : l ∈ ls) :
    (s.reportTakes q ls).TakeReported q l s.links[l] := by
  induction ls generalizing s with
  | nil => cases mem
  | cons m rest ih =>
    obtain ⟨apart, distinct⟩ := List.nodup_cons.1 distinct
    have rests := (s.reportTake q m).reportTakes_reports q rest
    rcases List.mem_cons.1 mem with rfl | mem
    · exact (s.reportTake_takeReported q l).later (rests.links l apart) (rests.latched 2)
    · have other : l ≠ m := fun e => apart (e ▸ mem)
      have stood := (s.reportTake_reports q m).links l (List.mem_singleton.not.2 other)
      exact stood ▸ ih (s.reportTake q m) distinct mem

end

end Sys2Proof.Machine
end

section
/-! TAKE_WINDOW and WINDOW_BOUNDARY: what is handed on, discarded and reported, and the results that are applied
(R20, R22, R34, R97 to R99, R103, R159, R181). -/

namespace Sys2Proof.Machine

section
variable {s : State} {applied : Bool}

/-! ## The take -/

theorem State.canTake_of (powered : s.powered = true) (idle : s.wa.processing = none)
    (ready : ∃ r ∈ s.wa.records, r.ready s.timeBase = true) (still : s.cm.walking = false)
    (free : s.ia.waiting = [] ∨ s.sm.state ≠ .normal ∨ s.rsc.halted = true) : s.canTake = true := by
  have open_ : (s.ia.waiting.isEmpty || s.sm.state != .normal || s.rsc.halted) = true := by
    simpa [or_assoc] using free
  have isReady : s.wa.records.any (·.ready s.timeBase) = true := List.any_eq_true.2 ready
  unfold State.canTake
  rw [powered, idle, still, isReady, open_]
  rfl

/-- The state once W has been taken and reported to the links. -/
def State.taken (s : State) : State := (s.updWa Assembler.take).reportTakes s.wa.front (List.finRange 4)

theorem exec_takeWindow_discards (can : s.canTake = true) (dark : s.sm.state ≠ .normal ∨ s.rsc.halted = true) :
    exec (.takeWindow applied) s = .next s.taken := by
  show execTakeWindow applied s = _
  unfold execTakeWindow
  rw [can]
  dsimp only
  rw [Assembler.windowAt_seq]
  refine (if_neg (by decide)).trans (if_pos ?_)
  simpa using dark

theorem exec_takeWindow_handsOn (can : s.canTake = true) (normal : s.sm.state = .normal)
    (running : s.rsc.halted = false) : exec (.takeWindow applied) s =
      .next (if applied then (s.taken.process s.wa.windowAt).applyProcessing else s.taken.process s.wa.windowAt) := by
  show execTakeWindow applied s = _
  unfold execTakeWindow
  rw [can]
  dsimp only
  rw [Assembler.windowAt_seq]
  refine (if_neg (by decide)).trans (if_neg ?_)
  simp [normal, running]

theorem State.taken_reports (s : State) : (s.updWa Assembler.take).Reports (List.finRange 4) s.taken :=
  State.reportTakes_reports _ _ _

theorem State.taken_reported (s : State) (l : LinkId) : s.taken.TakeReported s.wa.front l s.links[l] :=
  State.reportTakes_takeReported (s.updWa Assembler.take) s.wa.front (List.nodup_finRange 4) (List.mem_finRange l)

theorem State.taken_changes (s : State) :
    s.taken = { s with wa := s.taken.wa, links := s.taken.links, cu := s.taken.cu } := by
  have changes := s.taken_reports.changes
  generalize s.taken = t at changes ⊢
  exact changes

/-- W has risen, and nothing of the taken window is left in the assembler (R98). -/
theorem State.taken_wa (s : State) : s.taken.wa.front = s.wa.front + 1 ∧
    (∀ r ∈ s.taken.wa.records, r.seq ≠ s.wa.front) ∧
    ∀ (l : LinkId), ∀ b ∈ s.taken.wa.buffers[l], b.seq ≠ s.wa.front ∧ b ∈ s.wa.buffers[l] := by
  have shrinks : (s.updWa Assembler.take).Shrinks s.taken := State.Shrinks.reportTakes _ _ _
  generalize s.taken = t at shrinks ⊢
  refine ⟨shrinks.front, fun r mem same => ?_, fun l b mem => ?_⟩
  · obtain ⟨q, kept, eq⟩ := List.mem_map.1 (shrinks.records.subset (List.mem_map_of_mem mem))
    exact (bne_iff_ne.1 (List.mem_filter.1 kept).2) (eq.trans same)
  · have kept := (shrinks.buffers l).subset mem
    have filtered : (s.wa.take.buffers[l]) = (s.wa.buffers[l]).filter fun b => b.seq != s.wa.front :=
      Vector.getElem_ofFn l.isLt
    obtain ⟨held, other⟩ := List.mem_filter.1 (filtered ▸ kept : b ∈ (s.wa.buffers[l]).filter _)
    exact ⟨bne_iff_ne.1 other, held⟩

/-! ## Conditions over the processing of a window -/

theorem State.resolveTopology_standsAt {i : Fin 16} (w : Window) (s : State)
    (transfer : i ≠ Condition.transfer.idx := by decide) (undefined : i ≠ Condition.topologyUndefined.idx := by decide)
    (unknown : i ≠ Condition.breakerUnknown.idx := by decide) : s.cu.StandsAt i (s.resolveTopology w).cu := by
  have levels {cu : ConditionUnit} (a b : Bool) : cu.StandsAt i
      ((cu.give s.cm.tables.notice .topologyUndefined a).give s.cm.tables.notice .breakerUnknown b) :=
    (ConditionUnit.give_standsAt _ _ undefined).trans (ConditionUnit.give_standsAt _ _ unknown)
  rw [State.resolveTopology_cu]
  split
  · exact (ConditionUnit.rise_standsAt _ transfer).trans (levels _ _)
  · exact levels _ _

theorem State.givePointLevels_standsAt {i : Fin 16} (s : State) (fault : i ≠ Condition.pointFault.idx := by decide)
    (substitution : i ≠ Condition.substitution.idx := by decide) : s.cu.StandsAt i s.givePointLevels.cu :=
  (ConditionUnit.give_standsAt _ _ fault).trans (ConditionUnit.give_standsAt _ _ substitution)

@[simp] theorem State.storePoints_cu (stored : Vector PointStored 16) (s : State) : (s.storePoints stored).cu = s.cu := by
  unfold State.storePoints
  split <;> rfl

/-- A point with used phases is MISSING in this window (R54, R68). -/
def State.gapIn (ds : Vector Direct 16) (s : State) : Bool :=
  (List.finRange 16).any fun p => (ds[p]).status == .missing && !(s.cm.tables.points[p]).used.isEmpty

/-- The condition unit after the pulse of WINDOW-GAP, before the point levels. -/
def State.gapPulsed (ds : Vector Direct 16) (s : State) : ConditionUnit :=
  if s.gapIn ds then s.cu.rise s.cm.tables.notice.masked .windowGap else s.cu

theorem State.settlePoints_standsAt {i : Fin 16} (w : Window) (ds : Vector Direct 16) (s : State)
    (fault : i ≠ Condition.pointFault.idx := by decide) (substitution : i ≠ Condition.substitution.idx := by decide) :
    (s.gapPulsed ds).StandsAt i (s.settlePoints w ds).cu := by
  have levels (u : State) (cu : u.cu = s.gapPulsed ds) : (s.gapPulsed ds).StandsAt i u.givePointLevels.cu :=
    cu ▸ u.givePointLevels_standsAt fault substitution
  refine levels _ ((State.storePoints_cu _ _).trans ?_)
  show (if s.gapIn ds then s.pulse .windowGap else s).cu = _
  unfold State.gapPulsed
  split <;> rfl

/-! ## The processing of a window -/

/-- The results of a window for the eight accounts. -/
def State.resultsOf (w : Window) (s : State) : Vector AccountWindow 8 := Vector.ofFn fun a =>
  accountWindow (s.resolveTopology w).cm.tables (s.directs w) (s.resolveTopology w).tr w.offFreq a

/-- The state in which the point stage settles a window: topology and contributions stand. -/
def State.contributed (w : Window) (s : State) : State :=
  { s.resolveTopology w with
    pau := Vector.ofFn fun a =>
      some (contribution w (s.resolveTopology w).tr.map (s.resolveTopology w).cm.mode (s.resultsOf w)[a]) }

theorem State.process_eq (w : Window) (s : State) :
    s.process w = ((s.contributed w).settlePoints w (s.directs w)).updWa fun x => { x with
      processing := some
        { seq := w.seq, duration := w.duration
          map := ((s.contributed w).settlePoints w (s.directs w)).tr.map, results := some (s.resultsOf w) } } := by
  unfold State.process State.contributed State.resultsOf
  dsimp only

theorem State.process_linkError (w : Window) (s : State) : s.cu.StandsAt 2 (s.process w).cu := by
  rw [State.process_eq, State.updWa_cu]
  have topology : s.cu.StandsAt 2 (s.contributed w).cu := s.resolveTopology_standsAt w
  have points := (s.contributed w).settlePoints_standsAt (i := 2) w (s.directs w)
  generalize s.contributed w = u at topology points ⊢
  have gap : u.cu.StandsAt 2 (u.gapPulsed (s.directs w)) := by
    unfold State.gapPulsed
    split
    · exact ConditionUnit.rise_standsAt _ (by decide)
    · exact .refl
  exact topology.trans (gap.trans points)

end

/-- Settles O50: the discard of a window, and the report to each link by its lost list and error run. -/
theorem takeWindowReports : Obligations.TakeWindowReports := by
  intro s applied powered idle ready still free
  have can := State.canTake_of powered idle ready still free
  by_cases dark : s.sm.state ≠ .normal ∨ s.rsc.halted = true
  · obtain ⟨front, records, buffers⟩ := s.taken_wa
    exact ⟨_, exec_takeWindow_discards can dark,
      fun _ => ⟨s.taken_changes, front, s.taken_reports.processing.trans idle, records, buffers⟩, s.taken_reported⟩
  · obtain ⟨normal, running⟩ := not_or.1 dark
    refine ⟨_, exec_takeWindow_handsOn can (not_not.1 normal) (Bool.not_eq_true _ ▸ running),
      fun isDark => absurd isDark dark, fun l => (s.taken_reported l).later ?_ ?_⟩
    · split <;> simp
    · intro latched
      have stands := (s.taken.process_linkError s.wa.windowAt).1.trans latched
      generalize s.taken.process s.wa.windowAt = u at stands ⊢
      have same : (if applied = true then u.applyProcessing else u).cu = u.cu := by cases applied <;> simp
      rw [same]
      exact stands

/-! ## The boundary -/

section
variable {s : State} {p : Processing}

theorem State.applyResults_none (none : p.results = none) : s.applyResults p = s := by
  unfold State.applyResults
  rw [none]

theorem State.applyResults_commissioning (commissioning : s.cm.mode = .commissioning) : s.applyResults p = s := by
  unfold State.applyResults
  split
  · rfl
  · exact if_neg (by rw [commissioning]; decide)

theorem State.applyResults_metering {results : Vector AccountWindow 8} (standing : p.results = some results)
    (metering : s.cm.mode = .metering) : s.applyResults p = s.updIa fun ia => { ia with
      accounts := Vector.ofFn fun a =>
        (ia.accounts[a]).applyWindow s.cm.tables.bands p.duration p.map results[a] } := by
  unfold State.applyResults
  rw [standing]
  exact if_pos metering

/-- The results of the window in processing are applied (R22, R133, R181). -/
theorem State.applyProcessing_applies (processing : s.wa.processing = some p) (free : s.ia.waiting = [])
    (normal : s.sm.state = .normal) (running : s.rsc.halted = false) (open_ : s.mlc.resetTaken = false) :
    s.applyProcessing = (s.applyResults p).updWa fun w => { w with processing := some { p with results := none } } := by
  unfold State.applyProcessing
  rw [processing]
  exact if_pos (by rw [free, normal, running, open_]; rfl)

theorem State.applyProcessing_waits (taken : s.mlc.resetTaken = true) : s.applyProcessing = s := by
  unfold State.applyProcessing
  split
  · rfl
  · exact if_neg (by rw [taken]; simp)

theorem exec_windowBoundary_begins (powered : s.powered = true) (processing : s.wa.processing ≠ none)
    (running : s.rsc.halted = false) (free : s.ia.waiting = [] ∨ s.sm.state ≠ .normal) :
    exec .windowBoundary s = .next (s.applyProcessing.updWa fun w => { w with processing := none }).walk := by
  refine if_pos ?_
  have open_ : (s.ia.waiting.isEmpty || s.sm.state != .normal) = true := by simpa using free
  unfold State.canBound
  rw [powered, Option.isSome_iff_ne_none.2 processing, running, open_]
  rfl

theorem State.walk_empty (empty : s.cm.queue = []) :
    s.walk = s.updCm fun m => { m with queue := [], stop := none, walking := false } := by
  unfold State.walk
  rw [empty]
  rfl

end

/-- Settles O51: the results that stand, by the wait of a soft reset and the device mode. -/
theorem windowBoundaryFalls : Obligations.WindowBoundaryFalls := by
  intro s p powered processing running normal free empty
  have boundary := exec_windowBoundary_begins powered (by rw [processing]; exact Option.some_ne_none p) running
    (.inl free)
  have emptied (u : State) (queue : u.cm.queue = s.cm.queue) :
      (u.updWa fun w => { w with processing := none }).walk = { u with
        wa := { u.wa with processing := none }, cm := { u.cm with queue := [], stop := none, walking := false } } :=
    State.walk_empty (s := u.updWa _) (queue.trans empty)
  rw [emptied _ (by simp)] at boundary
  refine ⟨_, boundary, ?_⟩
  cases taken : s.mlc.resetTaken with
  | true =>
    rw [State.applyProcessing_waits taken]
    exact ⟨rfl, fun _ => rfl, fun _ _ open_ => (nomatch open_)⟩
  | false =>
    rw [State.applyProcessing_applies processing free normal running taken]
    cases mode : s.cm.mode with
    | commissioning =>
      rw [State.applyResults_commissioning mode]
      exact ⟨rfl, fun _ => rfl, fun _ _ _ metering => (nomatch metering)⟩
    | metering =>
      cases results : p.results with
      | none =>
        rw [State.applyResults_none results]
        exact ⟨rfl, fun _ => rfl, fun _ standing => (nomatch standing)⟩
      | some r =>
        rw [State.applyResults_metering results mode]
        refine ⟨rfl, fun idle => ?_, fun r' standing _ _ a => ?_⟩
        · rcases idle with none | taken | commissioning
          · exact nomatch none
          · exact nomatch taken
          · exact nomatch commissioning
        · obtain rfl := Option.some.inj standing
          exact Vector.getElem_ofFn a.isLt

end Sys2Proof.Machine
end

section
/-! The processing of one window: the mode of a point, the point stage's own state, and the results of the
accounts (R11, R12, R23, R27, R28, R51, R61 to R68). -/

namespace Sys2Proof.Machine

/-! ## The mode of a point after a window -/

theorem deliveredPoint_enteredFault (t : Tables) (w : Window) (e : PointEntry) (p : Point) :
    (deliveredPoint t w e p).enteredFault = ((deliveredPoint t w e p).point.fault && !p.fault) := by
  unfold deliveredPoint
  dsimp only
  generalize (if e.used.isEmpty then p.live else presence e (e.used.map fun φ => φ.v1 w) p.live) = live
  split
  · rfl
  · simp

theorem missedPoint_enteredFault (t : Tables) (p : Point) :
    (missedPoint t p).enteredFault = ((missedPoint t p).point.fault && !p.fault) := by
  rw [missedPoint_keeps, Bool.and_not_self]
  unfold missedPoint
  split
  · split <;> rfl
  · rfl

/-- A point enters FAULT when it is in FAULT and was not before (R60, R65). -/
theorem directPoint_enteredFault (t : Tables) (links : Vector Link 4) (w : Window) (e : PointEntry) (p : Point) :
    (directPoint t links w e p).enteredFault = ((directPoint t links w e p).point.fault && !p.fault) := by
  cases h : missReason links w e.used with
  | none =>
    rw [directPoint_delivered h]
    exact deliveredPoint_enteredFault ..
  | some reason =>
    rw [directPoint_missed h]
    exact missedPoint_enteredFault ..

section
variable {w : Window} {e : PointEntry} {d : Direct} {sub : Option (PointVector × Status)} {stored : PointStored}

theorem settleMode_switches (switches : d.enteredFault = true ∧ e.autoSub = true ∧ d.point.mode ≠ .substituted) :
    settleMode w e d sub stored =
      ({ d.point with mode := .substituted, shadow := none }, { stored with substituted := true }) := by
  refine if_pos ?_
  obtain ⟨entered, auto, mode⟩ := switches
  rw [entered, auto]
  simpa using mode

theorem settleMode_plain (stays : ¬ (d.enteredFault = true ∧ e.autoSub = true ∧ d.point.mode ≠ .substituted))
    (plain : d.point.mode ≠ .shadow ∨ d.point.shadow = none) : settleMode w e d sub stored = (d.point, stored) := by
  refine (if_neg (by simpa [and_assoc] using stays)).trans ?_
  split
  next sh mode shadow => exact plain.elim (fun h => absurd mode h) fun h => nomatch h.symm.trans shadow
  next => rfl

theorem settleMode_shadow {sh after : Shadow}
    (stays : ¬ (d.enteredFault = true ∧ e.autoSub = true ∧ d.point.mode ≠ .substituted))
    (mode : d.point.mode = .shadow) (shadow : d.point.shadow = some sh)
    (compared : sh.step w.isVoid (d.vector, d.status) sub = after) : settleMode w e d sub stored =
      if after.period ≤ after.windows then
        ({ d.point with mode := .substituted, shadow := none },
          ⟨true, some ⟨shadowMean after.p1Sum after.comparisons, shadowMean after.q1Sum after.comparisons, w.seq⟩⟩)
      else ({ d.point with shadow := some after }, stored) := by
  subst compared
  refine (if_neg (by simpa [and_assoc] using stays)).trans ?_
  split
  next other _ found =>
    obtain rfl := Option.some.inj (shadow.symm.trans found)
    rfl
  next none => exact (none sh mode shadow).elim

end

theorem Window.isVoid_iff (w : Window) : w.isVoid = true ↔ ∀ l : LinkId, w.frames[l] = none := by
  simp [Window.isVoid, Vector.all_eq_true, Fin.forall_iff]

theorem Shadow.step_compares {w : Window} {own v : PointVector} {sh : Shadow}
    (handed : ∃ l : LinkId, w.frames[l] ≠ none) :
    sh.step w.isVoid (own, .fresh) (some (v, .fresh)) = { sh with
      windows := sh.windows + 1, comparisons := sh.comparisons + 1
      p1Sum := sh.p1Sum + (v.p1 - own.p1), q1Sum := sh.q1Sum + (v.q1 - own.q1) } := by
  have solid : w.isVoid = false := by
    obtain ⟨l, some⟩ := handed
    exact Bool.not_eq_true _ ▸ fun void => some (w.isVoid_iff.1 void l)
  exact if_pos ⟨solid, rfl, rfl⟩

theorem Shadow.step_counts {w : Window} {own : PointVector} {status : Status} {sub : Option (PointVector × Status)}
    {sh : Shadow} (no : (∀ l : LinkId, w.frames[l] = none) ∨ status ≠ .fresh ∨ ∀ v, sub ≠ some (v, .fresh)) :
    sh.step w.isVoid (own, status) sub = { sh with windows := sh.windows + 1 } := by
  unfold Shadow.step
  split
  next => rfl
  next v st =>
    refine if_neg ?_
    rintro ⟨solid, fresh, rfl⟩
    rcases no with void | stale | other
    · exact nomatch solid.symm.trans (w.isVoid_iff.2 void)
    · exact stale fresh
    · exact other v rfl

/-! ## The point stage's own state -/

/-- A point and its stored values after a window. -/
def State.settledPoint (w : Window) (ds : Vector Direct 16) (s : State) (p : PointId) : Point × PointStored :=
  settleMode w s.cm.tables.points[p] ds[p] (substituteOf ds (s.cm.tables.points[p]).substitute) s.cm.stored[p]

/-- `t` is `s` once the point stage has settled a window (R51, R64 to R68). -/
structure State.Settles (w : Window) (ds : Vector Direct 16) (s t : State) : Prop where
  changes : t = { s with points := t.points, cm := { s.cm with stored := t.cm.stored }, rsc := t.rsc, cu := t.cu }
  point : ∀ p : PointId, t.points[p] = (s.settledPoint w ds p).1
  stored : ∀ p : PointId, t.cm.stored[p] = (s.settledPoint w ds p).2
  rsc : t.rsc = if t.cm.stored = s.cm.stored then s.rsc else { s.rsc with
    configQueue := joinConfig ⟨.points s.cm.tables.points t.cm.stored, s.cm.generation⟩ s.rsc.configQueue }
  levels : t.pointLevels
  gap : (s.gapPulsed ds).StandsAt 3 t.cu


end Sys2Proof.Machine
end

section
/-! The point stage's own state after a window, and the results of the accounts (R11, R12, R27, R28, R51, R61 to R68). -/

namespace Sys2Proof.Machine

theorem State.givePointLevels_changes (s : State) : s.givePointLevels = { s with cu := s.givePointLevels.cu } := rfl

theorem State.settlePoints_settles (w : Window) (ds : Vector Direct 16) (s : State) :
    s.Settles w ds (s.settlePoints w ds) := by
  have gap := s.settlePoints_standsAt (i := 3) w ds
  have levels : (s.settlePoints w ds).pointLevels := State.givePointLevels_levels _
  have split_ : ∃ (points : Vector Point 16) (stored : Vector PointStored 16) (u : State),
      (∀ p : PointId, points[p] = (s.settledPoint w ds p).1) ∧ (∀ p : PointId, stored[p] = (s.settledPoint w ds p).2) ∧
      u = { s with points := points, cu := s.gapPulsed ds } ∧
      s.settlePoints w ds = (u.storePoints stored).givePointLevels := by
    refine ⟨Vector.ofFn fun p => (s.settledPoint w ds p).1, Vector.ofFn fun p => (s.settledPoint w ds p).2, _,
      fun p => Vector.getElem_ofFn p.isLt, fun p => Vector.getElem_ofFn p.isLt, rfl, ?_⟩
    have after (p : PointId) : (Vector.ofFn (s.settledPoint w ds))[p] = s.settledPoint w ds p := Vector.getElem_ofFn p.isLt
    have pulsed : (if s.gapIn ds then s.pulse .windowGap else s) = { s with cu := s.gapPulsed ds } := by
      unfold State.gapPulsed
      split <;> rfl
    show ((({ (if s.gapIn ds then s.pulse .windowGap else s) with
      points := Vector.ofFn fun p => ((Vector.ofFn (s.settledPoint w ds))[p]).1 } : State).storePoints
        (Vector.ofFn fun p => ((Vector.ofFn (s.settledPoint w ds))[p]).2)).givePointLevels) = _
    simp only [after]
    rw [pulsed]
  obtain ⟨points, stored, u, point, store, hu, eq⟩ := split_
  rw [eq] at gap levels ⊢
  by_cases same : stored = s.cm.stored
  · have plain : u.storePoints stored = u := State.storePoints_same (by rw [hu]; exact same)
    rw [plain] at gap levels ⊢
    have changes := u.givePointLevels_changes
    generalize u.givePointLevels = t at gap levels changes ⊢
    subst hu
    rw [changes] at gap levels ⊢
    exact ⟨rfl, point, same ▸ store, (if_pos rfl).symm, levels, gap⟩
  · have written := State.storePoints_changed (s := u) (stored := stored) (by rw [hu]; exact same)
    generalize u.storePoints stored = v at written gap levels ⊢
    have changes := v.givePointLevels_changes
    generalize v.givePointLevels = t at gap levels changes ⊢
    subst written hu
    rw [changes] at gap levels ⊢
    exact ⟨rfl, point, store, (if_neg same).symm, levels, gap⟩

/-! ## The results of an account -/

/-- What a point hands to the accounts, by the mode it had when the window began (R62). -/
theorem effective_eq (ds : Vector Direct 16) (e : PointEntry) (p : PointId) : effective ds e p =
    if (ds[p]).point.mode = .substituted then
      (substituteOf ds e.substitute).getD ((ds[p]).vector, (ds[p]).status)
    else ((ds[p]).vector, (ds[p]).status) := by
  unfold effective
  cases mode : (ds[p]).point.mode <;> rfl

/-- The highest order so far, with one more band. -/
def raiseOrder (n : Nat) (b : Option Band) : Nat := max n ((b.map Band.hi).getD 0)

theorem highestOrder_eq (bands : Vector (Option Band) 8) : highestOrder bands = bands.toList.foldl raiseOrder 0 := by
  unfold highestOrder
  refine congrArg (fun f => bands.toList.foldl f 0) (funext fun n => funext fun b => ?_)
  cases b with
  | none => exact (Nat.max_zero n).symm
  | some b => rfl

theorem lt_foldl_raiseOrder {n m : Nat} {bs : List (Option Band)} :
    n < bs.foldl raiseOrder m ↔ n < m ∨ ∃ b, some b ∈ bs ∧ n < b.hi := by
  induction bs generalizing m with
  | nil => simp
  | cons b rest ih =>
    rw [List.foldl_cons, ih, raiseOrder, lt_max_iff]
    cases b <;> simp [or_assoc]

theorem lt_highestOrder_iff {bands : Vector (Option Band) 8} {n : Nat} :
    n < highestOrder bands ↔ ∃ (i : BandId) (b : Band), bands[i] = some b ∧ n < b.hi := by
  rw [highestOrder_eq, lt_foldl_raiseOrder]
  simp only [Nat.not_lt_zero, false_or, Vector.mem_toList_iff, Vector.mem_iff_getElem]
  constructor
  · rintro ⟨b, ⟨i, hi, eq⟩, below⟩
    exact ⟨⟨i, hi⟩, b, eq, below⟩
  · rintro ⟨i, b, eq, below⟩
    exact ⟨b, ⟨i, i.isLt, eq⟩, below⟩

/-! ## The window processed -/

theorem State.contributed_changes (w : Window) (s : State) : s.contributed w = { s with
    tr := s.tr.resolve s.cm.tables w, cu := (s.contributed w).cu, pau := (s.contributed w).pau } := by
  have changes := s.resolveTopology_changes w
  have tr := s.resolveTopology_tr w
  rw [tr] at changes
  exact congrArg (fun u : State => { u with pau := (s.contributed w).pau }) changes

theorem State.contributed_pau (w : Window) (s : State) (a : AccountId) : (s.contributed w).pau[a] =
    some (contribution w (s.tr.resolve s.cm.tables w).map s.cm.mode (s.resultsOf w)[a]) := by
  have cm : (s.resolveTopology w).cm = s.cm := by simp
  refine (Vector.getElem_ofFn a.isLt).trans ?_
  rw [s.resolveTopology_tr, cm]

theorem State.resultsOf_get (w : Window) (s : State) (a : AccountId) : (s.resultsOf w)[a] =
    accountWindow s.cm.tables (s.directs w) (s.tr.resolve s.cm.tables w) w.offFreq a := by
  have cm : (s.resolveTopology w).cm = s.cm := by simp
  refine (Vector.getElem_ofFn a.isLt).trans ?_
  rw [s.resolveTopology_tr, cm]

/-- `t` is `s` with a handed-on window processed (R51, R81, R99). -/
structure State.Processed (w : Window) (s t : State) : Prop where
  changes : t = { s with
    tr := s.tr.resolve s.cm.tables w, pau := t.pau, points := t.points, cm := { s.cm with stored := t.cm.stored }
    rsc := t.rsc, cu := t.cu, wa := t.wa }
  wa : t.wa = { s.wa with
    processing := some ⟨w.seq, w.duration, (s.tr.resolve s.cm.tables w).map, some (s.resultsOf w)⟩ }
  pau : ∀ a : AccountId, t.pau[a] =
    some (contribution w (s.tr.resolve s.cm.tables w).map s.cm.mode (s.resultsOf w)[a])
  point : ∀ p : PointId, t.points[p] = (s.settledPoint w (s.directs w) p).1
  stored : ∀ p : PointId, t.cm.stored[p] = (s.settledPoint w (s.directs w) p).2
  rsc : t.rsc = if t.cm.stored = s.cm.stored then s.rsc else { s.rsc with
    configQueue := joinConfig ⟨.points s.cm.tables.points t.cm.stored, s.cm.generation⟩ s.rsc.configQueue }
  levels : t.pointLevels
  gap : ∃ cu, s.cu.StandsAt 3 cu ∧ (if s.gapIn (s.directs w) then cu.rise s.cm.tables.notice.masked .windowGap
    else cu).StandsAt 3 t.cu

theorem State.process_processed (w : Window) (s : State) : s.Processed w (s.process w) := by
  rw [State.process_eq]
  have changes := s.contributed_changes w
  have pau := s.contributed_pau w
  have topology : s.cu.StandsAt 3 (s.contributed w).cu := s.resolveTopology_standsAt w
  have settles := (s.contributed w).settlePoints_settles w (s.directs w)
  generalize s.contributed w = u at changes pau topology settles ⊢
  generalize u.settlePoints w (s.directs w) = t at settles ⊢
  obtain ⟨moves, point, stored, rsc, levels, gap⟩ := settles
  have cm : u.cm = s.cm := by rw [changes]
  have same : u.rsc = s.rsc := by rw [changes]
  have settled : u.settledPoint w (s.directs w) = s.settledPoint w (s.directs w) := by
    unfold State.settledPoint
    rw [cm]
  have gaps : u.gapIn (s.directs w) = s.gapIn (s.directs w) := by
    unfold State.gapIn
    rw [cm]
  have contributed : t.pau = u.pau := by rw [moves]
  have resolved : t.tr = s.tr.resolve s.cm.tables w := by rw [moves, changes]
  have assembler : t.wa = s.wa := by rw [moves, changes]
  have shape : t = { s with
      tr := s.tr.resolve s.cm.tables w, pau := t.pau, points := t.points, cm := { s.cm with stored := t.cm.stored }
      rsc := t.rsc, cu := t.cu } := by
    rw [contributed]
    refine moves.trans ?_
    generalize t.points = points
    generalize t.cm.stored = stored
    generalize t.rsc = rsc
    generalize t.cu = cu
    rw [changes]
  rw [settled] at point stored
  rw [cm, same] at rsc
  rw [resolved]
  refine ⟨congrArg (fun v : State => { v with wa := { t.wa with
    processing := some ⟨w.seq, w.duration, (s.tr.resolve s.cm.tables w).map, some (s.resultsOf w)⟩ } }) shape,
    congrArg (fun x : Assembler => { x with
      processing := some ⟨w.seq, w.duration, (s.tr.resolve s.cm.tables w).map, some (s.resultsOf w)⟩ }) assembler,
    fun a => ?_, point, stored, rsc, levels, u.cu, topology, ?_⟩
  · exact (congrArg (fun v : Vector (Option Contribution) 8 => v[a]) contributed).trans (pau a)
  · rw [State.gapPulsed, gaps, cm] at gap
    exact gap

end Sys2Proof.Machine
end

section
/-! A window handed on: the clauses of O49. -/

namespace Sys2Proof.Machine

/-! ## One point -/

section
variable {w : Window} {e : PointEntry} {d : Direct} {sub : Option (PointVector × Status)} {old stored : PointStored}
  {p t : Point} {front : Seq}

/-- A shadow period goes on, or ends with its means (R23, R64). -/
def Shadow.Goes (front : Seq) (d : Point) (old : PointStored) (t : Point) (stored : PointStored) (before after : Shadow) :
    Prop :=
  (before.windows + 1 < before.period → t = { d with shadow := some after } ∧ stored = old) ∧
  (before.period ≤ before.windows + 1 → t = { d with mode := .substituted, shadow := none } ∧
    stored = ⟨true, some ⟨shadowMean after.p1Sum after.comparisons, shadowMean after.q1Sum after.comparisons, front⟩⟩)

theorem Shadow.goes_of_settleMode {before after : Shadow} (at_ : w.seq = front)
    (settled : settleMode w e d sub old = (t, stored))
    (stays : ¬ (d.enteredFault = true ∧ e.autoSub = true ∧ d.point.mode ≠ .substituted))
    (mode : d.point.mode = .shadow) (shadow : d.point.shadow = some before)
    (compared : before.step w.isVoid (d.vector, d.status) sub = after) (period : after.period = before.period)
    (windows : after.windows = before.windows + 1) : Shadow.Goes front d.point old t stored before after := by
  rw [settleMode_shadow stays mode shadow compared, period, windows, at_] at settled
  refine ⟨fun goes => ?_, fun ends => ?_⟩
  · rw [if_neg (Nat.not_le.2 goes)] at settled
    exact ⟨(Prod.mk.inj settled).1.symm, (Prod.mk.inj settled).2.symm⟩
  · rw [if_pos ends] at settled
    exact ⟨(Prod.mk.inj settled).1.symm, (Prod.mk.inj settled).2.symm⟩

/-- A point and its stored values after a window, by its health, mode and shadow (R64, R65, R67). -/
theorem settleMode_spec (at_ : w.seq = front) (mode : d.point.mode = p.mode) (shadow : d.point.shadow = p.shadow)
    (entered : d.enteredFault = (d.point.fault && !p.fault)) (settled : settleMode w e d sub old = (t, stored)) :
    let switches := d.point.fault = true ∧ p.fault = false ∧ e.autoSub = true ∧ p.mode ≠ .substituted
    (switches → t = { d.point with mode := .substituted, shadow := none } ∧ stored = { old with substituted := true }) ∧
    (¬ switches → p.mode ≠ .shadow → t = d.point ∧ stored = old) ∧
    (¬ switches → p.shadow = none → t = d.point ∧ stored = old) ∧
    ∀ sh, ¬ switches → p.mode = .shadow → p.shadow = some sh →
      (∀ v, (∃ l : LinkId, w.frames[l] ≠ none) → d.status = .fresh → sub = some (v, .fresh) →
        Shadow.Goes front d.point old t stored sh { sh with
          windows := sh.windows + 1, comparisons := sh.comparisons + 1
          p1Sum := sh.p1Sum + (v.p1 - d.vector.p1), q1Sum := sh.q1Sum + (v.q1 - d.vector.q1) }) ∧
      ((∀ l : LinkId, w.frames[l] = none) ∨ d.status ≠ .fresh ∨ (∀ v, sub ≠ some (v, .fresh)) →
        Shadow.Goes front d.point old t stored sh { sh with windows := sh.windows + 1 }) := by
  intro switches
  have test : (d.enteredFault = true ∧ e.autoSub = true ∧ d.point.mode ≠ .substituted) ↔ switches := by
    rw [entered, mode, Bool.and_eq_true, Bool.not_eq_true', and_assoc]
  have plain (stays : ¬ switches) (no : p.mode ≠ .shadow ∨ p.shadow = none) : t = d.point ∧ stored = old := by
    rw [settleMode_plain (mt test.1 stays) (by rwa [mode, shadow])] at settled
    exact ⟨(Prod.mk.inj settled).1.symm, (Prod.mk.inj settled).2.symm⟩
  refine ⟨fun yes => ?_, fun stays no => plain stays (.inl no), fun stays no => plain stays (.inr no),
    fun sh stays isShadow isSome => ⟨fun v handed fresh isSub => ?_, fun no => ?_⟩⟩
  · rw [settleMode_switches (test.2 yes)] at settled
    exact ⟨(Prod.mk.inj settled).1.symm, (Prod.mk.inj settled).2.symm⟩
  · subst isSub
    refine Shadow.goes_of_settleMode at_ settled (mt test.1 stays) (mode.trans isShadow) (shadow.trans isSome) ?_ rfl rfl
    rw [fresh]
    exact Shadow.step_compares handed
  · exact Shadow.goes_of_settleMode at_ settled (mt test.1 stays) (mode.trans isShadow) (shadow.trans isSome)
      (Shadow.step_counts no) rfl rfl

end

/-! ## The results of an account -/

theorem accountWindow_spec {t : Tables} {ds : Vector Direct 16} {tr : Resolver} {offFreq : Bool} {a : AccountId}
    {modes : PointId → PointMode} (mode : ∀ p : PointId, (ds[p]).point.mode = modes p) :
    let handed (p : PointId) : PointVector × Status :=
      if modes p = .substituted then
        (substituteOf ds (t.points[p]).substitute).getD ((ds[p]).vector, (ds[p]).status)
      else ((ds[p]).vector, (ds[p]).status)
    let terms := (t.composition[tr.map])[a]
    let r := accountWindow t ds tr offFreq a
    r.vector = sumTerms (fun p => (handed p).1) terms ∧ r.status = worstStatus (fun p => (handed p).2) terms ∧
    (r.partialOrders = true ↔ ∃ x ∈ terms, ∃ (i : BandId) (b : Band),
      t.bands[i] = some b ∧ (ds[x.point]).point.orders < b.hi) ∧
    (r.suspect = true ↔ ∃ x ∈ terms, modes x.point ≠ .substituted ∧ (ds[x.point]).point.fault = true) ∧
    (r.substituted = true ↔ ∃ x ∈ terms, modes x.point = .substituted) := by
  intro handed terms r
  have effects (p : PointId) : effective ds t.points[p] p = handed p := by
    rw [effective_eq, mode]
  have vectors : (fun p => (effective ds t.points[p] p).1) = fun p => (handed p).1 :=
    funext fun p => congrArg Prod.fst (effects p)
  have statuses : (fun p => (effective ds t.points[p] p).2) = fun p => (handed p).2 :=
    funext fun p => congrArg Prod.snd (effects p)
  refine ⟨congrArg (sumTerms · terms) vectors, congrArg (worstStatus · terms) statuses, ?_, ?_, ?_⟩
  · refine List.any_eq_true.trans (exists_congr fun x => and_congr_right fun _ => ?_)
    rw [decide_eq_true_iff]
    exact lt_highestOrder_iff
  · refine List.any_eq_true.trans (exists_congr fun x => and_congr_right fun _ => ?_)
    rw [Bool.and_eq_true, bne_iff_ne, mode]
  · refine List.any_eq_true.trans (exists_congr fun x => and_congr_right fun _ => ?_)
    rw [beq_iff_eq, mode]

/-! ## The results applied within the step -/

section
variable {t : State} {p : Processing} {results : Vector AccountWindow 8}

theorem Account.applyWindow_regs (bands : Vector (Option Band) 8) (duration : Nat) (map : MapId) (r : AccountWindow)
    (acc : Account) : (acc.applyWindow bands duration map r).regs = acc.regs := by
  cases interval : acc.interval with
  | none =>
    unfold Account.applyWindow
    rw [interval]
  | some iv => rw [Account.applyWindow_open interval]

/-- The results are applied within this step, or stand (R22, R181). -/
theorem State.applied_spec (applied : Bool) (processing : t.wa.processing = some p)
    (standing : p.results = some results) (free : t.ia.waiting = []) (normal : t.sm.state = .normal)
    (running : t.rsc.halted = false) :
    ∃ x accounts, (if applied = true then t.applyProcessing else t) = x ∧
      x = { t with
        ia := { t.ia with accounts := accounts }
        wa := { t.wa with processing := some { p with
          results := if applied = true ∧ t.mlc.resetTaken = false then none else some results } } } ∧
      (applied = true → t.mlc.resetTaken = false → t.cm.mode = .metering → ∀ a : AccountId,
        accounts[a] = (t.ia.accounts[a]).applyWindow t.cm.tables.bands p.duration p.map results[a]) ∧
      (applied = false ∨ t.mlc.resetTaken = true ∨ t.cm.mode = .commissioning → accounts = t.ia.accounts) ∧
      ∀ a : AccountId, (accounts[a]).regs = (t.ia.accounts[a]).regs := by
  have untouched (no : ¬ (applied = true ∧ t.mlc.resetTaken = false)) : t = { t with
      ia := { t.ia with accounts := t.ia.accounts }
      wa := { t.wa with processing := some { p with
        results := if applied = true ∧ t.mlc.resetTaken = false then none else some results } } } := by
    rw [if_neg no, ← standing, ← processing]
  cases applied with
  | false => exact ⟨_, t.ia.accounts, rfl, untouched (by simp), fun h => (nomatch h), fun _ => rfl, fun _ => rfl⟩
  | true =>
    by_cases taken : t.mlc.resetTaken = true
    · have open_ (h : t.mlc.resetTaken = false) : False := Bool.false_ne_true (h.symm.trans taken)
      exact ⟨_, t.ia.accounts, State.applyProcessing_waits taken, untouched fun h => open_ h.2,
        fun _ h => (open_ h).elim, fun _ => rfl, fun _ => rfl⟩
    · have open_ : t.mlc.resetTaken = false := Bool.not_eq_true _ ▸ taken
      rw [if_pos rfl, State.applyProcessing_applies processing free normal running open_]
      have emptied : (if true = true ∧ t.mlc.resetTaken = false then none else some results) = none :=
        if_pos ⟨rfl, open_⟩
      rw [emptied]
      cases mode : t.cm.mode with
      | commissioning =>
        rw [State.applyResults_commissioning mode]
        exact ⟨_, t.ia.accounts, rfl, rfl, fun _ _ h => (nomatch h), fun _ => rfl, fun _ => rfl⟩
      | metering =>
        rw [State.applyResults_metering standing mode]
        have accounts (a : AccountId) : (Vector.ofFn fun a : AccountId =>
            (t.ia.accounts[a]).applyWindow t.cm.tables.bands p.duration p.map results[a])[a] =
            (t.ia.accounts[a]).applyWindow t.cm.tables.bands p.duration p.map results[a] := Vector.getElem_ofFn a.isLt
        refine ⟨_, _, rfl, rfl, fun _ _ _ => accounts, fun no => ?_, fun a => ?_⟩
        · rcases no with h | h | h
          · exact nomatch h
          · exact absurd h taken
          · exact nomatch h
        · rw [accounts]
          exact Account.applyWindow_regs ..

end

end Sys2Proof.Machine
end

section
/-! Settling O49: a window handed on. -/

namespace Sys2Proof.Machine

theorem Assembler.windowAt_void {w : Assembler} (none : ∀ r ∈ w.records, r.seq ≠ w.front) :
    w.windowAt.duration = 200000 ∧ w.windowAt.offFreq = false ∧ ∀ l : LinkId, w.windowAt.frames[l] = .none := by
  have absent : w.records.find? (fun r => r.seq == w.front) = .none :=
    List.find?_eq_none.2 fun r mem => by simpa using none r mem
  unfold Assembler.windowAt
  rw [absent]
  exact ⟨rfl, rfl, fun l => Vector.getElem_replicate l.isLt⟩

/-- The part just after W has been taken stands as before, but for assembler, links and conditions. -/
theorem State.taken_kept (s : State) : s.taken.cm = s.cm ∧ s.taken.points = s.points ∧ s.taken.tr = s.tr ∧
    s.taken.ia = s.ia ∧ s.taken.mlc = s.mlc ∧ s.taken.sm = s.sm ∧ s.taken.rsc = s.rsc ∧ s.taken.store = s.store ∧
    s.taken.tk = s.tk ∧ s.taken.timeBase = s.timeBase := by
  have changes := s.taken_changes
  generalize s.taken = t at changes ⊢
  rw [changes]
  exact ⟨rfl, rfl, rfl, rfl, rfl, rfl, rfl, rfl, rfl, rfl⟩

/-- WINDOW-GAP after a window, from the pulse that it gives (R68). -/
theorem State.gap_flag {s : State} {ds : Vector Direct 16} {before between after : ConditionUnit}
    (stood : before.StandsAt 3 between)
    (gap : (if s.gapIn ds then between.rise s.cm.tables.notice.masked .windowGap else between).StandsAt 3 after) :
    ((∃ p : PointId, (ds[p]).status = .missing ∧ (s.cm.tables.points[p]).used ≠ []) →
      after.flags[3] = true ∧ after.rises[3] = if before.flags[3] then min 255 (before.rises[3] + 1) else 1) ∧
    ((∀ p : PointId, (ds[p]).status = .missing → (s.cm.tables.points[p]).used = []) →
      after.flags[3] = before.flags[3] ∧ after.rises[3] = before.rises[3]) := by
  have gap_iff : s.gapIn ds = true ↔ ∃ p : PointId, (ds[p]).status = .missing ∧ (s.cm.tables.points[p]).used ≠ [] := by
    simp [State.gapIn]
  refine ⟨fun some => ?_, fun none => ?_⟩
  · rw [if_pos (gap_iff.2 some)] at gap
    obtain ⟨flag, -, latched, unlatched⟩ := between.rise_risen s.cm.tables.notice.masked .windowGap
    refine ⟨gap.1.trans flag, gap.2.trans ?_⟩
    cases was : before.flags[3] with
    | true => exact (latched (stood.1.trans was)).1.trans (congrArg (fun n => min 255 (n + 1)) stood.2)
    | false => exact (unlatched (stood.1.trans was)).1
  · rw [if_neg fun h => (gap_iff.1 h).elim fun p hp => hp.2 (none p hp.1)] at gap
    exact stood.trans gap

/-- Settles O49: the parts of `State.process`, and the application within the step. -/
theorem takeWindowHandsOn : Obligations.TakeWindowHandsOn := by
  intro s applied powered idle ready still normal running free w
  have can := State.canTake_of powered idle ready still (.inl free)
  have seq : w.seq = s.wa.front := s.wa.windowAt_seq
  have runs := exec_takeWindow_handsOn (applied := applied) can normal running
  refine ⟨Assembler.windowAt_void, ?_⟩
  have processed := s.taken.process_processed w
  obtain ⟨front, records, buffers⟩ := s.taken_wa
  obtain ⟨cm, points, tr, ia, mlc, sm, rsc, store, tk, timeBase⟩ := s.taken_kept
  have stood := s.taken_reports.stands 3 (by decide) (by decide)
  have directs : (Vector.ofFn fun p => directPoint s.cm.tables s.taken.links w s.cm.tables.points[p] s.points[p]) =
      s.taken.directs w := by
    unfold State.directs
    rw [cm, points]
  have direct (p : PointId) : (s.taken.directs w)[p] =
      directPoint s.cm.tables s.taken.links w s.cm.tables.points[p] s.points[p] :=
    directs ▸ Vector.getElem_ofFn p.isLt
  have results := s.taken.resultsOf_get w
  have mode (p : PointId) : ((s.taken.directs w)[p]).point.mode = (s.points[p]).mode := by
    rw [direct]
    exact directPoint_always.2.1
  have shadow (p : PointId) : ((s.taken.directs w)[p]).point.shadow = (s.points[p]).shadow := by
    rw [direct]
    exact directPoint_always.2.2.1
  have entered (p : PointId) : ((s.taken.directs w)[p]).enteredFault =
      (((s.taken.directs w)[p]).point.fault && !(s.points[p]).fault) := by
    rw [direct]
    exact directPoint_enteredFault ..
  change exec (.takeWindow applied) s = .next (if applied = true then (s.taken.process w).applyProcessing
    else s.taken.process w) at runs
  generalize s.taken.process w = t at runs processed
  generalize s.taken = s' at *
  obtain ⟨changes, wa, pau, point, stored, rescued, levels, cu, topology, gap⟩ := processed
  generalize s'.directs w = ds at *
  generalize s'.resultsOf w = rs at *
  have tables : t.cm = { s.cm with stored := t.cm.stored } := by rw [changes, cm]
  have resolved : t.tr = s.tr.resolve s.cm.tables w := by rw [changes, tr, cm]
  have account : t.ia = s.ia := by rw [changes, ia]
  have links : t.links = s'.links := by rw [changes]
  have kept : t.store = s.store ∧ t.tk = s.tk ∧ t.sm = s.sm ∧ t.mlc = s.mlc ∧ t.timeBase = s.timeBase := by
    rw [changes]
    exact ⟨store, tk, sm, mlc, timeBase⟩
  have halts : t.rsc.halted = false := by
    rw [rescued, rsc]
    split <;> exact running
  rw [tr, cm] at wa pau
  rw [← resolved] at wa pau
  obtain ⟨x, accounts, eq, hx, feeds, rests, regs⟩ := State.applied_spec (t := t) (results := rs) applied
    (congrArg Assembler.processing wa) rfl (account ▸ free) (kept.2.2.1 ▸ normal) halts
  rw [eq] at runs
  rw [kept.2.2.2.1, wa] at hx
  rw [kept.2.2.2.1, tables, account] at feeds rests
  rw [account] at regs hx
  subst hx
  have gaps := State.gap_flag (s := s) (ds := ds) (stood.trans topology) (by
    rw [State.gapIn, cm] at gap
    exact gap)
  refine ⟨_, runs, front, records, buffers, resolved, ?_, fun no => ?_, regs, kept.1, kept.2.1, kept.2.2.1, rfl,
    kept.2.2.2.2, (congrArg Manager.tables tables :), (congrArg Manager.queue tables :)⟩
  · dsimp only
    rw [links, directs]
    refine ⟨fun p => ?_, tables, ?_, levels, ?_, ?_, rs, fun a => ?_, by rw [seq], fun a => ?_, feeds⟩
    · have settled : settleMode w s.cm.tables.points[p] ds[p] (substituteOf ds (s.cm.tables.points[p]).substitute)
          s.cm.stored[p] = (t.points[p], t.cm.stored[p]) := by
        rw [point, stored, State.settledPoint, cm]
      exact settleMode_spec seq (mode p) (shadow p) (entered p) settled
    · rwa [cm, rsc] at rescued
    · exact gaps.1
    · exact gaps.2
    · rw [resolved, results, cm, tr]
      exact accountWindow_spec mode
    · refine ⟨seq ▸ pau a, ?_⟩
      rw [results, cm, tr, ← resolved]
      exact ⟨rfl, rfl, rfl⟩
  · exact congrArg (fun v => { s.ia with accounts := v }) (rests no)

end Sys2Proof.Machine
end

section
/-! The walk of the change queue: its tests, and what the application of an entry keeps (R159, R160). -/

namespace Sys2Proof.Machine

section
variable {s : State} {e : ChangeEntry} {rest : List ChangeEntry}

/-! ## The step that walks -/

/-- With the window out of processing. -/
def State.bounded (s : State) : State := { s with wa := { s.wa with processing := none } }

/-- Results that have been applied, or were lost, are not applied again (R22). -/
theorem State.applyProcessing_applied {p : Processing} (processing : s.wa.processing = some p)
    (applied : p.results = none) : s.applyProcessing = s := by
  unfold State.applyProcessing
  rw [processing]
  dsimp only
  split
  · rw [State.applyResults_none applied, ← applied, State.updWa, ← processing]
  · rfl

/-- At the boundary, and while it is in progress, the walk tests its next entry (R159). -/
theorem exec_windowBoundary_walks (powered : s.powered = true)
    (at_ : (∃ p, s.wa.processing = some p ∧ p.results = none) ∨ (s.wa.processing = none ∧ s.cm.walking = true))
    (running : s.rsc.halted = false) (free : s.ia.waiting = []) :
    exec .windowBoundary s = .next s.bounded.walk := by
  rcases at_ with ⟨p, processing, applied⟩ | ⟨idle, walking⟩
  · rw [exec_windowBoundary_begins powered (by rw [processing]; exact Option.some_ne_none p) running (.inl free),
      State.applyProcessing_applied processing applied]
    rfl
  · have bound : s.canBound = false := by
      unfold State.canBound
      rw [idle]
      simp
    have walks : s.canWalk = true := by
      unfold State.canWalk
      rw [powered, walking, free]
      rfl
    have same : s.bounded = s := by rw [State.bounded, ← idle]
    rw [same]
    exact (if_neg (by rw [bound]; decide)).trans (if_pos walks)

theorem State.walk_stops {reason : StopReason} (queue : s.cm.queue = e :: rest)
    (verdict : s.walkVerdict e.change = .stops reason) : s.walk = s.stopWalk e reason := by
  unfold State.walk
  rw [queue]
  dsimp only
  rw [verdict]

theorem State.walk_discards (queue : s.cm.queue = e :: rest) (verdict : s.walkVerdict e.change = .discards) :
    s.walk = ((s.updCm fun m => { m with lastDiscarded := some e.number, discards := countUp m.discards }).pulse
      .changeRejected).walkOn rest := by
  unfold State.walk
  rw [queue]
  dsimp only
  rw [verdict]

theorem State.walk_applies (queue : s.cm.queue = e :: rest) (verdict : s.walkVerdict e.change = .applies) :
    s.walk = ((s.updCm fun m => { m with lastApplied := some e.number }).applyChange e.change).walkOn rest := by
  unfold State.walk
  rw [queue]
  dsimp only
  rw [verdict]

/-- Past its head the walk stands before the entries behind, or has ended (R159). -/
theorem State.walkOn_eq (rest : List ChangeEntry) (s : State) : s.walkOn rest = s.updCm fun m => { m with
    queue := rest, walking := decide (rest ≠ []), stop := if rest = [] then none else m.stop } := by
  cases rest <;> rfl

/-! ## The verdict -/

section
variable {c : Change}

theorem State.walkVerdict_supply (dark : s.sm.state ≠ .normal) : s.walkVerdict c = .stops .supply :=
  if_pos (by simp [dark])

/-- Some account that the entry touches has a close in flight, or records wait before an ERASE (R159). -/
def State.busyWith (c : Change) (s : State) : Prop :=
  (∃ a ∈ s.cm.touches c, (s.ia.accounts[a]).inFlight = true) ∨ (c = .erase ∧ s.rsc.records ≠ [])

theorem State.busyWith_iff : ((s.cm.touches c).any (fun a => (s.ia.accounts[a]).inFlight) ||
    (c == .erase && !s.rsc.records.isEmpty)) = true ↔ s.busyWith c := by
  simp [State.busyWith]

theorem State.walkVerdict_inFlight (normal : s.sm.state = .normal) (running : s.rsc.halted = false)
    (busy : s.busyWith c) : s.walkVerdict c = .stops .inFlight :=
  (if_neg (by simp [normal, running])).trans (if_pos (State.busyWith_iff.2 busy))

theorem State.walkVerdict_places (normal : s.sm.state = .normal) (running : s.rsc.halted = false)
    (idle : ¬ s.busyWith c) (full : s.rsc.freePlaces < s.openAmong (s.cm.closes c)) :
    s.walkVerdict c = .stops .recordPlaces :=
  (if_neg (by simp [normal, running])).trans
    ((if_neg fun busy => idle (State.busyWith_iff.1 busy)).trans (if_pos full))

theorem State.walkVerdict_discards (normal : s.sm.state = .normal) (running : s.rsc.halted = false)
    (idle : ¬ s.busyWith c) (places : s.openAmong (s.cm.closes c) ≤ s.rsc.freePlaces)
    (invalid : s.cm.valid c = false) : s.walkVerdict c = .discards :=
  (if_neg (by simp [normal, running])).trans ((if_neg fun busy => idle (State.busyWith_iff.1 busy)).trans
    ((if_neg (Nat.not_lt.2 places)).trans (if_pos (by rw [invalid]; rfl))))

end

/-! ## What the application of an entry keeps -/

theorem State.storePoints_cm (stored : Vector PointStored 16) (s : State) : (s.storePoints stored).cm = { s.cm with
    stored := (s.storePoints stored).cm.stored } := by
  unfold State.storePoints
  split <;> rfl

theorem State.toDirect_cm (p : PointId) (s : State) : (s.toDirect p).cm = { s.cm with
    stored := (s.toDirect p).cm.stored } := State.storePoints_cm _ _

theorem State.adjustPoint_cm (p : PointId) (old new : PointEntry) (s : State) : (s.adjustPoint p old new).cm =
    { s.cm with stored := (s.adjustPoint p old new).cm.stored } := by
  have forgotten : (if old.phases = new.phases then s else (s.updPoint p Point.forget).givePointLevels).cm = s.cm := by
    split <;> rfl
  unfold State.adjustPoint
  dsimp only
  generalize (if old.phases = new.phases then s else (s.updPoint p Point.forget).givePointLevels) = u at forgotten ⊢
  rw [← forgotten]
  split
  · rfl
  · split
    · exact u.toDirect_cm p
    · split
      · exact u.toDirect_cm p
      · rfl
    · rfl

/-- The points and stored values under an applied HEALTH change, and that nothing else is set before the levels. -/
theorem State.healthChanged_eq (s : State) : ∃ (points : Vector Point 16) (stored : Vector PointStored 16),
    (∀ p : PointId, (points[p], stored[p]) =
      adjustHealth s.cm.tables.health s.cm.tables.points[p] s.points[p] s.cm.stored[p]) ∧
    s.healthChanged = (({ s with points := points }).storePoints stored).givePointLevels := by
  refine ⟨Vector.ofFn fun p => (adjustHealth s.cm.tables.health s.cm.tables.points[p] s.points[p] s.cm.stored[p]).1,
    Vector.ofFn fun p => (adjustHealth s.cm.tables.health s.cm.tables.points[p] s.points[p] s.cm.stored[p]).2,
    fun p => Prod.ext (Vector.getElem_ofFn p.isLt) (Vector.getElem_ofFn p.isLt), ?_⟩
  unfold State.healthChanged
  simp only [Fin.getElem_fin, Vector.getElem_ofFn]

theorem State.healthChanged_cm (s : State) : s.healthChanged.cm = { s.cm with stored := s.healthChanged.cm.stored } := by
  obtain ⟨points, stored, -, eq⟩ := s.healthChanged_eq
  have cm (u : State) : u.givePointLevels.cm = u.cm := by simp
  rw [eq, cm]
  exact State.storePoints_cm stored { s with points := points }

/-- The adjustment to an applied part changes the stored values of the points alone in the manager (R67, R161). -/
theorem State.adjust_cm (old : Tables) (part : TablePart) (s : State) : (s.adjust old part).cm = { s.cm with
    stored := (s.adjust old part).cm.stored } := by
  unfold State.adjust
  cases part with
  | links l e => simp
  | points q e => exact s.adjustPoint_cm q _ e
  | breaker b e => simp
  | settle n => simp
  | contract c =>
    dsimp only
    split <;> rfl
  | health h => exact s.healthChanged_cm
  | topology | composition | bands | notice | patrol => rfl

theorem State.leaveUp_processing (l : LinkId) (s : State) : (s.leaveUp l).wa.processing = s.wa.processing := by
  unfold State.leaveUp
  split <;> rfl

theorem State.linksChanged_processing (l : LinkId) (old new : LinkEntry) (s : State) :
    (s.linksChanged l old new).wa.processing = s.wa.processing := by
  unfold State.linksChanged
  split
  · split
    · exact s.leaveUp_processing l
    · rfl
  · split
    · rfl
    · split
      · rfl
      · rfl
      · exact s.leaveUp_processing l

theorem State.adjust_processing (old : Tables) (part : TablePart) (s : State) :
    (s.adjust old part).wa.processing = s.wa.processing := by
  unfold State.adjust
  cases part with
  | links l e => exact s.linksChanged_processing l _ e
  | contract c =>
    dsimp only
    split <;> rfl
  | points | breaker | settle | health => simp
  | topology | composition | bands | notice | patrol => rfl

/-- The application of an entry leaves the queue and its marks to the walk, and no window in processing. -/
theorem State.applyChange_kept (c : Change) (s : State) :
    (s.applyChange c).cm.lastApplied = s.cm.lastApplied ∧ (s.applyChange c).cm.stop = s.cm.stop ∧
      (s.applyChange c).wa.processing = s.wa.processing := by
  cases c with
  | table part =>
    unfold State.applyChange State.applyTable
    dsimp only
    split
    · exact ⟨rfl, rfl, rfl⟩
    · have closed := s.closeList_frame .config s.closeTime .atCount (s.cm.closes (.table part))
      generalize s.closeList .config s.closeTime .atCount (s.cm.closes (.table part)) = u at closed ⊢
      have cm := (u.updCm fun m => { m with tables := s.cm.tables.put part }).adjust_cm s.cm.tables part
      have processing := (u.updCm fun m => { m with tables := s.cm.tables.put part }).adjust_processing s.cm.tables part
      generalize (u.updCm fun m => { m with tables := s.cm.tables.put part }).adjust s.cm.tables part = t at cm processing ⊢
      have before : u.cm = s.cm := by simp [closed]
      have assembler : u.wa = s.wa := by simp [closed]
      refine ⟨?_, ?_, ?_⟩
      · show t.cm.lastApplied = _
        rw [cm, ← before]
        rfl
      · show t.cm.stop = _
        rw [cm, ← before]
        rfl
      · show t.wa.processing = _
        rw [processing, ← assembler]
        rfl
  | preset a values => simp [State.applyChange]
  | mode target =>
    unfold State.applyChange State.applyMode
    dsimp only
    split
    · exact ⟨rfl, rfl, rfl⟩
    · split <;> simp [State.setMode]
  | erase => simp [State.applyChange, State.applyErase]

end

/-- Settles O52: the verdict's tests in their order, and what the walk makes of each verdict. -/
theorem walkTests : Obligations.WalkTests := by
  intro s e rest powered at_ running free queue
  dsimp only
  have walks := exec_windowBoundary_walks powered at_ running free
  have queued : s.bounded.cm.queue = e :: rest := queue
  have stops {reason : StopReason} (verdict : s.walkVerdict e.change = .stops reason) :
      exec .windowBoundary s = .next (s.bounded.stopWalk e reason) :=
    walks.trans (congrArg _ (State.walk_stops queued verdict))
  refine ⟨fun dark => stops (State.walkVerdict_supply dark),
    fun normal busy => stops (State.walkVerdict_inFlight normal running busy),
    fun normal idle kind full => stops (State.walkVerdict_places normal running ?_ (Nat.not_le.1 full)),
    fun part kind normal idle places invalid => ?_, fun verdict => ?_, fun walking applied => if_pos ?_⟩
  · exact not_or.2 ⟨idle, fun h => kind h.1⟩
  · have noBusy : ¬ s.busyWith e.change := not_or.2 ⟨idle, fun h => (nomatch kind.symm.trans h.1)⟩
    have bad : s.cm.valid e.change = false := by
      rw [kind]
      exact Bool.and_eq_false_iff.2 invalid
    have verdict : s.bounded.walkVerdict e.change = .discards :=
      State.walkVerdict_discards (s := s) normal running noBusy places bad
    refine ⟨_, walks.trans (congrArg _ (State.walk_discards queued verdict)), ?_⟩
    rw [State.walkOn_eq]
    rfl
  · have applies : s.bounded.walkVerdict e.change = .applies := verdict
    obtain ⟨last, stop, processing⟩ := (s.bounded.updCm fun m => { m with lastApplied := some e.number }).applyChange_kept
      e.change
    have frame := (s.bounded.updCm fun m => { m with lastApplied := some e.number }).applyChange_frame e.change
    refine ⟨_, walks.trans (congrArg _ (State.walk_applies queued applies)), ?_⟩
    generalize (s.bounded.updCm fun m => { m with lastApplied := some e.number }).applyChange e.change = t at *
    rw [State.walkOn_eq]
    refine ⟨?_, processing, ?_, ?_, ?_⟩
    · have applied : t.cm.lastApplied = some e.number := last
      have kept : t.cm.stop = s.cm.stop := stop
      dsimp only [State.updCm]
      rw [← kept, ← applied]
    · simp [frame, State.bounded]
    · simp [frame, State.bounded]
    · simp [frame, State.bounded]
  · have no : s.canTake = false := by
      unfold State.canTake
      rw [walking]
      simp
    rw [no]
    rfl

end Sys2Proof.Machine
end

section
/-! PRESET, MODE and ERASE entries as the walk applies them (R44, R45, R150, R162 to R164). -/

namespace Sys2Proof.Machine

/-! ## Queues of the store controller -/

theorem joinBlock_self (c : RegContent) (l : List RegContent) : c ∈ joinBlock c l := by
  induction l with
  | nil => exact List.mem_singleton_self c
  | cons x rest ih =>
    unfold joinBlock
    split
    · exact List.mem_cons_self
    · exact List.mem_cons_of_mem _ ih

theorem joinBlock_other {c x : RegContent} {l : List RegContent} (mem : x ∈ l) (other : x.account ≠ c.account) :
    x ∈ joinBlock c l := by
  induction l with
  | nil => cases mem
  | cons y rest ih =>
    unfold joinBlock
    split
    next same =>
      rcases List.mem_cons.1 mem with rfl | mem
      · exact absurd same other
      · exact List.mem_cons_of_mem _ mem
    next =>
      rcases List.mem_cons.1 mem with rfl | mem
      · exact List.mem_cons_self
      · exact List.mem_cons_of_mem _ (ih mem)

theorem joinConfig_self (job : ConfigJob) (l : List ConfigJob) : job ∈ joinConfig job l := by
  induction l with
  | nil => exact List.mem_singleton_self job
  | cons x rest ih =>
    unfold joinConfig
    split
    · exact List.mem_cons_self
    · exact List.mem_cons_of_mem _ ih

theorem joinConfig_other {job x : ConfigJob} {l : List ConfigJob} (mem : x ∈ l)
    (other : x.content.table ≠ job.content.table) : x ∈ joinConfig job l := by
  induction l with
  | nil => cases mem
  | cons y rest ih =>
    unfold joinConfig
    split
    next same =>
      rcases List.mem_cons.1 mem with rfl | mem
      · exact absurd same other
      · exact List.mem_cons_of_mem _ mem
    next =>
      rcases List.mem_cons.1 mem with rfl | mem
      · exact List.mem_cons_self
      · exact List.mem_cons_of_mem _ (ih mem)

/-! ## The last entry of the queue -/

section
variable {s : State}

/-- The state in which the last entry of a queue is applied. -/
def State.applying (n : Nat) (s : State) : State := s.bounded.updCm fun m => { m with lastApplied := some n }

/-- The state after a walk that has applied the last entry. -/
def State.walkEnded (s : State) : State := s.updCm fun m => { m with queue := [], stop := none, walking := false }

theorem exec_windowBoundary_applies {p : Processing} {n : Nat} {c : Change} (powered : s.powered = true)
    (processing : s.wa.processing = some p) (applied : p.results = none) (running : s.rsc.halted = false)
    (free : s.ia.waiting = []) (queue : s.cm.queue = [⟨n, c⟩]) (verdict : s.walkVerdict c = .applies) :
    exec .windowBoundary s = .next ((s.applying n).applyChange c).walkEnded := by
  have walks := exec_windowBoundary_walks powered (.inl ⟨p, processing, applied⟩) running free
  exact walks.trans (congrArg _ (State.walk_applies (s := s.bounded) (e := ⟨n, c⟩) queue verdict))

/-! ## PRESET -/

/-- The registers that a PRESET gives. -/
def presetRegs (values : Vector Nat 25) : Vector Register 25 := Vector.ofFn fun i => ⟨values[i], false, false, false⟩

theorem presetRegs_get (values : Vector Nat 25) (i : Fin 25) : (presetRegs values)[i] = ⟨values[i], false, false, false⟩ :=
  Vector.getElem_ofFn i.isLt

theorem State.handBlock_eq (a : AccountId) (s : State) : s.handBlock a = { s with
    ia := { s.ia with accounts := s.ia.accounts.set a { s.ia.accounts[a] with inFlight := true, blockOwed := true } }
    rsc := { s.rsc with
      blockQueue := joinBlock ⟨a, (s.ia.accounts[a]).regs, (s.ia.accounts[a]).residues⟩ s.rsc.blockQueue
      images := s.rsc.images.set a ⟨a, (s.ia.accounts[a]).regs, (s.ia.accounts[a]).residues⟩ } } := rfl

theorem State.giveRegisterFlag_changes (s : State) : s.giveRegisterFlag = { s with cu := s.giveRegisterFlag.cu } := rfl

/-- What a PRESET leaves, the conditions apart. -/
theorem State.presetAccount_eq (a : AccountId) (values : Vector Nat 25) (s : State) :
    ∃ cu, s.presetAccount a values = { s with
      ia := { s.ia with accounts := s.ia.accounts.set a { s.ia.accounts[a] with
        regs := presetRegs values, residues := Vector.replicate 24 0, inFlight := true, blockOwed := true } }
      rsc := { s.rsc with
        blockQueue := joinBlock ⟨a, presetRegs values, Vector.replicate 24 0⟩ s.rsc.blockQueue
        images := s.rsc.images.set a ⟨a, presetRegs values, Vector.replicate 24 0⟩ }
      cu := cu } := by
  have handed : (s.updAccount a fun acc => { acc with
      regs := presetRegs values, residues := Vector.replicate 24 0 }).handBlock a = { s with
        ia := { s.ia with accounts := s.ia.accounts.set a { s.ia.accounts[a] with
          regs := presetRegs values, residues := Vector.replicate 24 0, inFlight := true, blockOwed := true } }
        rsc := { s.rsc with
          blockQueue := joinBlock ⟨a, presetRegs values, Vector.replicate 24 0⟩ s.rsc.blockQueue
          images := s.rsc.images.set a ⟨a, presetRegs values, Vector.replicate 24 0⟩ } } := by
    rw [State.handBlock_eq]
    simp only [State.updAccount, State.updIa, vector_set_same, Vector.set_set]
  have flagged := ((s.updAccount a fun acc => { acc with
    regs := presetRegs values, residues := Vector.replicate 24 0 }).handBlock a).giveRegisterFlag_changes
  change s.presetAccount a values = _ at flagged
  generalize s.presetAccount a values = t at flagged ⊢
  rw [handed] at flagged
  exact ⟨_, flagged⟩

theorem State.closeList_one (cause : EndCause) (endTime : Nat) (reopen : Reopen) (a : AccountId) (s : State) :
    s.closeList cause endTime reopen [a] = s.closeAccount cause endTime reopen a := rfl

/-- The close that a PRESET makes first: of its account, where that is OPEN in METERING (R44, R163). -/
theorem State.presetClosed (a : AccountId) (values : Vector Nat 25) (s : State) :
    ∃ v, s.closeList .preset s.closeTime .atCount (s.cm.closes (.preset a values)) = v ∧
      v.cm = s.cm ∧ v.store = s.store ∧ v.points = s.points ∧
      (∀ b : AccountId, b ≠ a → v.ia.accounts[b] = s.ia.accounts[b]) ∧
      (s.cm.mode = .commissioning ∨ (s.ia.accounts[a]).interval = none →
        (v.ia.accounts[a]).interval = (s.ia.accounts[a]).interval ∧ v.ia.nextSeq = s.ia.nextSeq ∧
        v.rsc.recordQueue = s.rsc.recordQueue) ∧
      ∀ iv, s.cm.mode = .metering → (s.ia.accounts[a]).interval = some iv →
        (v.ia.accounts[a]).interval = some (.fresh s.tk.valid s.tk.seconds (s.ia.accounts[a]).gapMark) ∧
        v.ia.nextSeq = s.ia.nextSeq + 1 ∧ v.rsc.recordQueue = s.rsc.recordQueue ++
          [buildRecord s.cm.tables.contract s.ia.nextSeq a .preset s.closeTime iv
            (closedRegs s.cm.tables.contract.ratio iv (s.ia.accounts[a]).regs)] := by
  have metering (h : s.cm.mode = .metering) : s.cm.closes (.preset a values) = [a] := if_pos ⟨h, by simp⟩
  by_cases closes : s.cm.mode = .metering ∧ ∃ iv, (s.ia.accounts[a]).interval = some iv
  · obtain ⟨mode, iv, open_⟩ := closes
    have spec := s.closeAccount_some .preset s.closeTime .atCount open_
    have others (b : AccountId) (other : b ≠ a) := s.closeAccount_other .preset s.closeTime .atCount other
    have frame := s.closeAccount_frame .preset s.closeTime .atCount a
    rw [metering mode, State.closeList_one]
    dsimp only at spec
    generalize s.closeAccount .preset s.closeTime .atCount a = v at spec others frame ⊢
    obtain ⟨ia, rsc⟩ := spec
    refine ⟨v, rfl, by simp [frame], by simp [frame], by simp [frame], others, fun idle => ?_, fun iv' _ eq => ?_⟩
    · rcases idle with commissioning | none
      · exact absurd (mode.symm.trans commissioning) (by decide)
      · exact nomatch open_.symm.trans none
    · obtain rfl := Option.some.inj (open_.symm.trans eq)
      rw [ia, rsc]
      exact ⟨congrArg Account.interval (vector_set_same _ _ _), rfl, rfl⟩
  · have same : s.closeList .preset s.closeTime .atCount (s.cm.closes (.preset a values)) = s := by
      by_cases mode : s.cm.mode = .metering
      · rw [metering mode, State.closeList_one]
        exact s.closeAccount_none _ _ _ (Option.eq_none_iff_forall_ne_some.2 fun iv h => closes ⟨mode, iv, h⟩)
      · have no : s.cm.closes (.preset a values) = [] := if_neg fun h => mode h.1
        rw [no]
        rfl
    exact ⟨s, same, rfl, rfl, rfl, fun _ _ => rfl, fun _ => ⟨rfl, rfl, rfl⟩,
      fun iv mode open_ => absurd ⟨mode, iv, open_⟩ closes⟩

end

/-- Settles O54: the close first, by the mode and the interval, and then the values. -/
theorem presetEntryApplies : Obligations.PresetEntryApplies := by
  intro s p n a values powered processing applied running free queue verdict
  dsimp only
  have applies := exec_windowBoundary_applies powered processing applied running free queue verdict
  obtain ⟨v, closed, cm, store, points, others, idle, closes⟩ := (s.applying n).presetClosed a values
  obtain ⟨cu, preset⟩ := v.presetAccount_eq a values
  have change : (s.applying n).applyChange (.preset a values) = v.presetAccount a values :=
    congrArg (State.presetAccount a values) closed
  rw [change, preset] at applies
  refine ⟨_, applies, congrArg (fun m : Manager => { m with queue := [], stop := none, walking := false }) cm, ?_⟩
  have account : (v.ia.accounts.set a { v.ia.accounts[a] with
      regs := presetRegs values, residues := Vector.replicate 24 0, inFlight := true, blockOwed := true })[a] =
        { v.ia.accounts[a] with
          regs := presetRegs values, residues := Vector.replicate 24 0, inFlight := true, blockOwed := true } :=
    vector_set_same _ _ _
  dsimp only [State.walkEnded, State.updCm]
  rw [account]
  exact ⟨presetRegs_get values, fun i => Vector.getElem_replicate i.isLt, rfl,
    fun b other => (vector_set_other _ _ other).trans (others b other), joinBlock_self _ _, store, points, idle, closes⟩

end Sys2Proof.Machine
end

section
/-! MODE and ERASE entries as the walk applies them (R45, R150, R162, R164). -/

namespace Sys2Proof.Machine

section
variable {s : State}

/-! ## MODE -/

/-- An account that opens a fresh interval, which consumes its gap mark (R32, R178). -/
def Account.opened (valid : Bool) (start : Nat) (acc : Account) : Account :=
  { acc with interval := some (.fresh valid start acc.gapMark), gapMark := false }

/-- Each account of a list opens at the count, and no other does. -/
theorem State.openAll_accounts {l : List AccountId} (distinct : l.Nodup) (s : State) :
    (∀ a : AccountId, a ∉ l → (s.openAll l).ia.accounts[a] = s.ia.accounts[a]) ∧
    (∀ a : AccountId, a ∈ l → (s.openAll l).ia.accounts[a] = (s.ia.accounts[a]).opened s.tk.valid s.tk.seconds) := by
  induction l generalizing s with
  | nil => exact ⟨fun _ _ => rfl, fun _ mem => (nomatch mem)⟩
  | cons b rest ih =>
    obtain ⟨apart, distinct⟩ := List.nodup_cons.1 distinct
    obtain ⟨outside, inside⟩ := ih distinct (s.openAccount s.tk.seconds b)
    have here : (s.openAccount s.tk.seconds b).ia.accounts[b] = (s.ia.accounts[b]).opened s.tk.valid s.tk.seconds :=
      vector_set_same _ _ _
    have other {a : AccountId} (h : a ≠ b) : (s.openAccount s.tk.seconds b).ia.accounts[a] = s.ia.accounts[a] :=
      vector_set_other _ _ h
    refine ⟨fun a no => ?_, fun a mem => ?_⟩
    · obtain ⟨differs, behind⟩ := not_or.1 (mt List.mem_cons.2 no)
      exact (outside a behind).trans (other differs)
    · rcases List.mem_cons.1 mem with rfl | mem
      · exact (outside a apart).trans here
      · have differs : a ≠ b := fun e => apart (e ▸ mem)
        exact (inside a mem).trans (congrArg (Account.opened s.tk.valid s.tk.seconds) (other differs))

theorem State.setMode_eq (m : DeviceMode) (s : State) : s.setMode m = { s with
    cm := { s.cm with mode := m }
    rsc := { s.rsc with
      configQueue := joinConfig ⟨.contract s.cm.tables.contract m s.cm.locked, s.cm.generation⟩ s.rsc.configQueue } } := rfl

theorem State.applyMode_same {target : DeviceMode} (same : target = s.cm.mode) : s.applyMode target = s := if_pos same

theorem State.applyMode_metering (other : .metering ≠ s.cm.mode) :
    s.applyMode .metering = (s.setMode .metering).openAll (List.finRange 8) := if_neg other

theorem State.applyMode_commissioning (other : .commissioning ≠ s.cm.mode) :
    s.applyMode .commissioning = (s.closeAll .mode s.closeTime .nothing).setMode .commissioning := if_neg other

end

/-- Settles O55: the target in force, METERING, and COMMISSIONING. -/
theorem modeEntryApplies : Obligations.ModeEntryApplies := by
  intro s p n target powered processing applied running free queue verdict
  have applies := exec_windowBoundary_applies powered processing applied running free queue verdict
  change exec .windowBoundary s = .next ((s.applying n).applyMode target).walkEnded at applies
  by_cases same : target = s.cm.mode
  · rw [State.applyMode_same (s := s.applying n) same] at applies
    subst same
    exact ⟨_, applies, rfl, rfl, rfl, fun _ => rfl, fun h => absurd rfl h, fun h => absurd rfl h, fun h => absurd rfl h⟩
  · cases target with
    | metering =>
      rw [State.applyMode_metering (s := s.applying n) same] at applies
      have accounts := ((s.applying n).setMode .metering).openAll_accounts (List.nodup_finRange 8)
      have frame := ((s.applying n).setMode .metering).openAll_frame (List.finRange 8)
      rw [State.setMode_eq] at applies accounts frame
      refine ⟨_, applies, ?_⟩
      generalize State.openAll (List.finRange 8) _ = t at accounts frame ⊢
      obtain ⟨-, -, -, -, -, -, -, -, points, -, -, store, rsc, cm, -⟩ := frame
      refine ⟨congrArg (fun m : Manager => { m with queue := [], stop := none, walking := false }) cm, store, points,
        fun h => absurd h same, fun _ => ?_, fun _ _ a => accounts.2 a (List.mem_finRange a),
        fun _ h => (nomatch h)⟩
      show _ ∈ t.rsc.configQueue
      rw [rsc]
      exact joinConfig_self _ _
    | commissioning =>
      rw [State.applyMode_commissioning (s := s.applying n) same] at applies
      obtain ⟨made, -⟩ := (s.applying n).closeAll_made .mode (s.applying n).closeTime .nothing
      have frame := (s.applying n).closeAll_frame .mode (s.applying n).closeTime .nothing
      generalize (s.applying n).closeAll .mode (s.applying n).closeTime .nothing = v at applies made frame
      have cm : v.cm = (s.applying n).cm := by simp [frame]
      have store : v.store = s.store := by simp [frame, State.applying, State.bounded]
      have points : v.points = s.points := by simp [frame, State.applying, State.bounded]
      rw [State.setMode_eq] at applies
      refine ⟨_, applies,
        congrArg (fun m : Manager => { m with queue := [], stop := none, walking := false, mode := .commissioning }) cm,
        store, points, fun h => absurd h same, fun _ => ?_, fun _ h => (nomatch h), fun _ _ => ?_⟩
      · show _ ∈ joinConfig _ v.rsc.configQueue
        rw [cm]
        exact joinConfig_self _ _
      · exact made

/-! ## ERASE -/

section
variable {s : State}

/-- What handing the register blocks of a list of accounts leaves, at an account and in the block class (R42). -/
structure State.BlocksHanded (l : List AccountId) (s t : State) : Prop where
  changes : t = { s with
    ia := { s.ia with accounts := t.ia.accounts }
    rsc := { s.rsc with blockQueue := t.rsc.blockQueue, images := t.rsc.images } }
  outside : ∀ a : AccountId, a ∉ l → t.ia.accounts[a] = s.ia.accounts[a]
  inside : ∀ a : AccountId, a ∈ l → t.ia.accounts[a] = { s.ia.accounts[a] with inFlight := true, blockOwed := true }
  handed : ∀ a : AccountId, a ∈ l →
    ⟨a, (s.ia.accounts[a]).regs, (s.ia.accounts[a]).residues⟩ ∈ t.rsc.blockQueue
  queued : ∀ c ∈ s.rsc.blockQueue, c.account ∉ l → c ∈ t.rsc.blockQueue

theorem State.handBlocks_handed {l : List AccountId} (distinct : l.Nodup) (s : State) :
    s.BlocksHanded l (s.handBlocks l) := by
  induction l generalizing s with
  | nil => exact ⟨rfl, fun _ _ => rfl, fun _ mem => (nomatch mem), fun _ mem => (nomatch mem), fun _ mem _ => mem⟩
  | cons b rest ih =>
    obtain ⟨apart, distinct⟩ := List.nodup_cons.1 distinct
    have here : (s.handBlock b).ia.accounts[b] = { s.ia.accounts[b] with inFlight := true, blockOwed := true } :=
      vector_set_same _ _ _
    have other {a : AccountId} (h : a ≠ b) : (s.handBlock b).ia.accounts[a] = s.ia.accounts[a] :=
      vector_set_other _ _ h
    have rests := ih distinct (s.handBlock b)
    show s.BlocksHanded (b :: rest) ((s.handBlock b).handBlocks rest)
    generalize (s.handBlock b).handBlocks rest = t at rests ⊢
    refine ⟨rests.changes, fun a no => ?_, fun a mem => ?_, fun a mem => ?_, fun c mem no => ?_⟩
    · obtain ⟨differs, behind⟩ := not_or.1 (mt List.mem_cons.2 no)
      exact (rests.outside a behind).trans (other differs)
    · rcases List.mem_cons.1 mem with rfl | mem
      · exact (rests.outside a apart).trans here
      · have differs : a ≠ b := fun e => apart (e ▸ mem)
        exact (rests.inside a mem).trans
          (congrArg (fun acc : Account => { acc with inFlight := true, blockOwed := true }) (other differs))
    · rcases List.mem_cons.1 mem with rfl | mem
      · exact rests.queued _ (joinBlock_self _ _) apart
      · have differs : a ≠ b := fun e => apart (e ▸ mem)
        have handed := rests.handed a mem
        rwa [other differs] at handed
    · obtain ⟨differs, behind⟩ := not_or.1 (mt List.mem_cons.2 no)
      exact rests.queued c (joinBlock_other mem differs) behind

/-- What an ERASE makes of the accounts, the conditions apart but for REGISTER-FLAG (R45, R164). -/
theorem State.eraseAccounts_spec (s : State) : ∃ v : State, s.eraseAccounts = v ∧
    v = { s with
      ia := { s.ia with accounts := v.ia.accounts }
      rsc := { s.rsc with blockQueue := v.rsc.blockQueue, images := v.rsc.images }
      cu := v.cu } ∧
    (∀ a : AccountId, v.ia.accounts[a] =
      { (s.ia.accounts[a]).erased with inFlight := true, blockOwed := true } ∧
      ⟨a, Vector.replicate 25 Register.zero, Vector.replicate 24 0⟩ ∈ v.rsc.blockQueue) ∧
    v.cu.sources[12] = false := by
  generalize cleared : s.updIa (fun ia => { ia with accounts := Vector.ofFn fun a => (ia.accounts[a]).erased }) = u
  have handed := u.handBlocks_handed (List.nodup_finRange 8)
  have eq : s.eraseAccounts = (u.handBlocks (List.finRange 8)).giveRegisterFlag := by
    rw [← cleared]
    rfl
  have erased (a : AccountId) : u.ia.accounts[a] = (s.ia.accounts[a]).erased := by
    rw [← cleared]
    exact Vector.getElem_ofFn a.isLt
  have changes : u = { s with ia := { s.ia with accounts := u.ia.accounts } } := by
    rw [← cleared]
    rfl
  rw [eq]
  generalize u.handBlocks (List.finRange 8) = t at handed ⊢
  have account (a : AccountId) : t.ia.accounts[a] =
      { (s.ia.accounts[a]).erased with inFlight := true, blockOwed := true } := by
    rw [handed.inside a (List.mem_finRange a), erased]
  have clean : t.ia.marked = false := by
    refine Bool.not_eq_true _ ▸ fun marked => ?_
    obtain ⟨a, some⟩ := vector_any_iff.1 marked
    obtain ⟨i, mark⟩ := vector_any_iff.1 some
    have zero : ((t.ia.accounts[a]).regs)[i] = Register.zero := by
      rw [account]
      exact Vector.getElem_replicate i.isLt
    rw [zero] at mark
    exact Bool.false_ne_true mark
  have moves : t = { s with
      ia := { s.ia with accounts := t.ia.accounts }
      rsc := { s.rsc with blockQueue := t.rsc.blockQueue, images := t.rsc.images } } := by
    refine handed.changes.trans ?_
    rw [changes]
  refine ⟨_, rfl, ?_, fun a => ⟨account a, ?_⟩, ?_⟩
  · exact congrArg (fun x : State => { x with cu := t.giveRegisterFlag.cu }) moves
  · have mem := handed.handed a (List.mem_finRange a)
    rwa [erased] at mem
  · exact (ConditionUnit.give_source _ .registerFlag _ _).trans clean

/-- What an ERASE makes of log, save queue, configuration queue and mode (R150, R164). -/
theorem State.applyErase_eq {v : State} (erased : s.eraseAccounts = v) : ∃ jobs, s.applyErase = { v with
    rsc := { v.rsc.eraseLog v.ia.nextSeq with
      saveQueue := some .running
      configQueue := joinConfig ⟨.contract v.cm.tables.contract .commissioning false, v.cm.generation⟩ jobs }
    cm := { v.cm with mode := .commissioning, locked := false } } := by
  unfold State.applyErase
  rw [erased]
  dsimp only [State.handConfig, State.updRsc, State.updCm, State.queueSave, State.contentOf]
  exact ⟨_, rfl⟩

theorem Controller.eraseLog_bounds (next : Nat) (r : Controller) : (r.eraseLog next).oldest = next ∧
    (r.eraseLog next).newest = next - 1 ∧ (r.eraseLog next).map.logFloor = next ∧
    (r.eraseLog next).map.badSlots = r.map.badSlots ∧ (r.eraseLog next).map.spares = r.map.spares ∧
    (r.eraseLog next).blockQueue = r.blockQueue := ⟨rfl, rfl, rfl, rfl, rfl, rfl⟩

end

/-- Settles O56: the accounts, the log, and the two configuration blocks. -/
theorem eraseEntryApplies : Obligations.EraseEntryApplies := by
  intro s p n powered processing applied running free queue verdict
  have applies := exec_windowBoundary_applies powered processing applied running free queue verdict
  obtain ⟨v, eq, changes, accounts, flag⟩ := (s.applying n).eraseAccounts_spec
  obtain ⟨jobs, erases⟩ := State.applyErase_eq eq
  have change : (s.applying n).applyChange .erase = (s.applying n).applyErase := rfl
  rw [change, erases] at applies
  have cm : v.cm = (s.applying n).cm := by rw [changes]
  have seq : v.ia.nextSeq = s.ia.nextSeq := by rw [changes]; rfl
  have map : v.rsc.map = s.rsc.map := by rw [changes]; rfl
  have store : v.store = s.store := by rw [changes]; rfl
  have points : v.points = s.points := by rw [changes]; rfl
  obtain ⟨oldest, newest, floor, bad, spares, blocks⟩ := v.rsc.eraseLog_bounds v.ia.nextSeq
  generalize v.rsc.eraseLog v.ia.nextSeq = log at applies oldest newest floor bad spares blocks
  rw [seq] at oldest newest floor
  rw [map] at bad spares
  refine ⟨_, applies,
    congrArg (fun m : Manager => { m with
      queue := [], stop := none, walking := false, mode := .commissioning, locked := false }) cm,
    fun a => ?_, seq, oldest, newest, floor, bad, spares, rfl, flag, store, points, ?_⟩
  · obtain ⟨account, queued⟩ := accounts a
    show (v.ia.accounts[a]).interval = none ∧ (v.ia.accounts[a]).regs = _ ∧ (v.ia.accounts[a]).residues = _ ∧
      (v.ia.accounts[a]).gapMark = false ∧ (v.ia.accounts[a]).inFlight = true ∧ _ ∈ log.blockQueue
    rw [account, blocks]
    exact ⟨rfl, rfl, rfl, rfl, rfl, queued⟩
  · show _ ∈ joinConfig _ jobs
    rw [cm]
    exact joinConfig_self _ _

end Sys2Proof.Machine
end

section
/-! The adjustment of links, points and breakers to an applied table part (R50, R60, R75, R120). -/

namespace Sys2Proof.Machine

/-! ## Links -/

section
variable {s w : State} {l : LinkId}

/-- A link that has entered DISABLED (R110, R117, R120). -/
def Link.disabled (k : Link) : Link :=
  { k with
    state := .disabled, waiting := [], sending := none, silence := none, breakHold := none, sendTimer := none }

theorem State.enterDisabled_of_up (up : (s.links[l]).isUp = true) : s.enterDisabled l = { s with
    links := s.links.set l (s.links[l]).leftUp.disabled
    wa := s.wa.linkLeaves l
    cu := s.cu.rise s.cm.tables.notice.masked .linkChange } := by
  rw [State.enterDisabled, State.leaveUp_of_up up]
  simp only [State.updLink, links_set_same, Vector.set_set]
  rfl

theorem State.enterDisabled_of_down (down : (s.links[l]).isUp = false) :
    s.enterDisabled l = s.updLink l Link.disabled := by
  rw [State.enterDisabled, State.leaveUp_of_down down]
  rfl

theorem Link.offering_afresh {k k' : Link} (own : LinkTx) (waiting : k'.waiting = k.waiting)
    (counters : k'.counters = k.counters) : k.offersAfresh own (k'.offering own none) := by
  refine ⟨rfl, rfl, rfl, rfl, rfl, rfl, rfl, rfl, rfl, ?_, counters⟩
  rw [← waiting]
  rfl

/-- What leaving UP is, for a link written as `k` (R119). -/
theorem State.leftUp_of_up {t : State} {k : Link} (up : (s.links[l]).isUp = true) (link : t.links[l] = k)
    (resolved : k.resolved = none) (offset : k.offset = none) (lost : k.lost = []) (run : k.errorRun = 0)
    (since : k.windowSinceUp = false) (wa : t.wa = s.wa.linkLeaves l)
    (cu : t.cu = s.cu.rise s.cm.tables.notice.masked .linkChange) : s.leftUp l t := by
  unfold State.leftUp
  rw [if_pos up, link, wa]
  exact ⟨resolved, offset, lost, run, since, s.wa.linkLeaves_left l, cu⟩

theorem State.leftUp_of_down {t : State} (down : (s.links[l]).isUp = false) (wa : t.wa = s.wa) (cu : t.cu = s.cu) :
    s.leftUp l t := by
  unfold State.leftUp
  rw [if_neg (by rw [down]; decide)]
  exact ⟨wa, cu⟩

theorem State.linksChanged_disables {old new : LinkEntry} (was : old.enabled = true) (no : new.enabled = false) :
    s.linksChanged l old new = s.enterDisabled l := (if_pos (by rw [no]; rfl)).trans (if_pos was)

theorem State.linksChanged_stays {old new : LinkEntry} (was : old.enabled = false) (no : new.enabled = false) :
    s.linksChanged l old new = s := (if_pos (by rw [no]; rfl)).trans (if_neg (by rw [was]; decide))

theorem State.linksChanged_enables {old new : LinkEntry} (was : old.enabled = false) (yes : new.enabled = true) :
    s.linksChanged l old new = s.enterOffering l none :=
  (if_neg (by rw [yes]; decide)).trans (if_pos (by rw [was]; rfl))

theorem State.linksChanged_holds {old new : LinkEntry} (was : old.enabled = true) (yes : new.enabled = true)
    (idle : (s.links[l]).state = .breaking ∨ (s.links[l]).state = .disabled) : s.linksChanged l old new = s := by
  refine (if_neg (by rw [yes]; decide)).trans ((if_neg (by rw [was]; decide)).trans ?_)
  rcases idle with breaking | disabled
  · rw [breaking]
  · rw [disabled]

theorem State.linksChanged_restarts {old new : LinkEntry} (was : old.enabled = true) (yes : new.enabled = true)
    (breaking : (s.links[l]).state ≠ .breaking) (disabled : (s.links[l]).state ≠ .disabled) :
    s.linksChanged l old new = s.toOffering l none := by
  refine (if_neg (by rw [yes]; decide)).trans ((if_neg (by rw [was]; decide)).trans ?_)
  split
  next state => exact absurd state breaking
  next state => exact absurd state disabled
  next => rfl

/-- What a LINKS change makes of the links, with `s` the part before the table was replaced (R120). -/
theorem State.linksChanged_adjusted {t : State} {e : LinkEntry} (links : w.links = s.links) (wa : w.wa = s.wa)
    (cu : w.cu = s.cu) (notice : w.cm.tables.notice = s.cm.tables.notice)
    (links' : t.links = (w.linksChanged l s.cm.tables.links[l] e).links)
    (wa' : t.wa = (w.linksChanged l s.cm.tables.links[l] e).wa)
    (cu' : t.cu = (w.linksChanged l s.cm.tables.links[l] e).cu) (own : t.ownOffer l = w.ownOffer l) :
    s.linksAdjusted l e t := by
  unfold State.linksAdjusted
  dsimp only
  rw [own]
  have others {k : Link} (m : LinkId) (other : m ≠ l) : (w.links.set l k)[m] = w.links[m] :=
    vector_set_other _ _ other
  cases was : (s.cm.tables.links[l]).enabled with
  | false =>
    cases now : e.enabled with
    | false =>
      rw [State.linksChanged_stays was now] at links' wa' cu'
      refine ⟨fun m _ => by rw [links', links], fun _ _ => ⟨by rw [links', links], wa'.trans wa, cu'.trans cu⟩,
        fun _ h => (nomatch h), fun h => (nomatch h), fun h => (nomatch h)⟩
    | true =>
      rw [State.linksChanged_enables was now, State.enterOffering_eq, State.updLink_eq] at links' wa' cu'
      have here : t.links[l] = (w.links[l]).offering (w.ownOffer l) none := by rw [links', links_set_same]
      refine ⟨fun m other => ?_, fun _ h => (nomatch h), fun _ _ => ⟨?_, wa'.trans wa, cu'.trans cu⟩,
        fun h => (nomatch h), fun h => (nomatch h)⟩
      · rw [links', others m other, links]
      · rw [here, links]
        exact Link.offering_afresh _ rfl rfl
  | true =>
    have up_same : (s.links[l]).isUp = (w.links[l]).isUp := by rw [links]
    cases now : e.enabled with
    | false =>
      rw [State.linksChanged_disables was now] at links' wa' cu'
      cases up : (w.links[l]).isUp with
      | true =>
        rw [State.enterDisabled_of_up up] at links' wa' cu'
        have here : t.links[l] = (w.links[l]).leftUp.disabled := by rw [links', links_set_same]
        refine ⟨fun m other => ?_, fun h => (nomatch h), fun h => (nomatch h), fun _ _ => ?_, fun _ h => (nomatch h)⟩
        · rw [links', others m other, links]
        · rw [here, ← links]
          refine ⟨rfl, rfl, rfl, rfl, rfl, rfl, State.leftUp_of_up (up_same.trans up) here rfl rfl rfl rfl rfl ?_ ?_⟩
          · rw [wa', wa]
          · rw [cu', cu, notice]
      | false =>
        rw [State.enterDisabled_of_down up, State.updLink_eq] at links' wa' cu'
        have here : t.links[l] = (w.links[l]).disabled := by rw [links', links_set_same]
        refine ⟨fun m other => ?_, fun h => (nomatch h), fun h => (nomatch h), fun _ _ => ?_, fun _ h => (nomatch h)⟩
        · rw [links', others m other, links]
        · rw [here, ← links]
          exact ⟨rfl, rfl, rfl, rfl, rfl, rfl, State.leftUp_of_down (up_same.trans up) (wa'.trans wa) (cu'.trans cu)⟩
    | true =>
      by_cases idle : (w.links[l]).state = .breaking ∨ (w.links[l]).state = .disabled
      · rw [State.linksChanged_holds was now idle] at links' wa' cu'
        rw [links] at idle
        exact ⟨fun m _ => by rw [links', links], fun h => (nomatch h), fun h => (nomatch h), fun _ h => (nomatch h),
          fun _ _ => ⟨fun _ => ⟨by rw [links', links], wa'.trans wa, cu'.trans cu⟩,
            fun breaking disabled => (idle.elim breaking disabled).elim⟩⟩
      · obtain ⟨breaking, disabled⟩ := not_or.1 idle
        rw [State.linksChanged_restarts was now breaking disabled] at links' wa' cu'
        cases up : (w.links[l]).isUp with
        | true =>
          rw [State.toOffering_of_up up] at links' wa' cu'
          have here : t.links[l] = (w.links[l]).leftUp.offering (w.ownOffer l) none := by rw [links', links_set_same]
          refine ⟨fun m other => ?_, fun h => (nomatch h), fun h => (nomatch h), fun _ h => (nomatch h),
            fun _ _ => ⟨fun h => absurd (links ▸ h) idle, fun _ _ => ⟨?_, ?_⟩⟩⟩
          · rw [links', others m other, links]
          · rw [here, ← links]
            exact Link.offering_afresh _ rfl rfl
          · exact State.leftUp_of_up (up_same.trans up) here rfl rfl rfl rfl rfl (by rw [wa', wa])
              (by rw [cu', cu, notice])
        | false =>
          rw [State.toOffering_of_down up, State.updLink_eq] at links' wa' cu'
          have here : t.links[l] = (w.links[l]).offering (w.ownOffer l) none := by rw [links', links_set_same]
          refine ⟨fun m other => ?_, fun h => (nomatch h), fun h => (nomatch h), fun _ h => (nomatch h),
            fun _ _ => ⟨fun h => absurd (links ▸ h) idle, fun _ _ => ⟨?_, ?_⟩⟩⟩
          · rw [links', others m other, links]
          · rw [here, ← links]
            exact Link.offering_afresh _ rfl rfl
          · exact State.leftUp_of_down (up_same.trans up) (wa'.trans wa) (cu'.trans cu)

end

end Sys2Proof.Machine
end

section
/-! The adjustment of points, breakers and conditions to an applied table part (R50, R60, R67, R68, R75, R85, R186). -/

namespace Sys2Proof.Machine

/-! ## Points -/

section
variable {s w : State}

theorem State.storePoints_stored (stored : Vector PointStored 16) (s : State) :
    (s.storePoints stored).cm.stored = stored := by
  by_cases same : stored = s.cm.stored
  · rw [State.storePoints_same same, same]
  · rw [State.storePoints_changed same]

/-- Stored values that change have their POINTS block queued (R67). -/
theorem State.storePoints_job {stored : Vector PointStored 16} (changed : stored ≠ s.cm.stored) :
    ∃ j ∈ (s.storePoints stored).rsc.configQueue, j.content = .points s.cm.tables.points stored := by
  rw [State.storePoints_changed changed]
  exact ⟨_, joinConfig_self _ _, rfl⟩

/-- The point of a POINTS change once its references are compared (R50). -/
def Point.adjusted (old new : PointEntry) (p : Point) : Point := if old.phases = new.phases then p else p.forget

theorem Point.adjusted_mode (old new : PointEntry) (p : Point) : (p.adjusted old new).mode = p.mode := by
  unfold Point.adjusted
  split <;> rfl

/-- What the comparison of the references leaves: the point, and the levels where they differ. -/
theorem State.referencesAdjusted (q : PointId) (old new : PointEntry) (s : State) : ∃ v : State,
    (if old.phases = new.phases then s else (s.updPoint q Point.forget).givePointLevels) = v ∧
    v.points = s.points.set q ((s.points[q]).adjusted old new) ∧ v.cm = s.cm ∧ v.rsc = s.rsc ∧
    (old.phases ≠ new.phases → v.pointLevels) := by
  by_cases same : old.phases = new.phases
  · refine ⟨s, if_pos same, ?_, rfl, rfl, fun other => absurd same other⟩
    unfold Point.adjusted
    rw [if_pos same]
    exact (Vector.set_getElem_self q.isLt).symm
  · refine ⟨_, if_neg same, ?_, by simp, by simp, fun _ => State.givePointLevels_levels _⟩
    unfold Point.adjusted
    rw [if_neg same]
    simp [State.updPoint]

/-- What returning a point to DIRECT leaves of points, stored values and levels (R66, R67). -/
theorem State.toDirect_spec (q : PointId) (s : State) : ∃ v : State, s.toDirect q = v ∧
    v.points = s.points.set q { s.points[q] with mode := .direct, shadow := none } ∧
    v.cm.stored = s.cm.stored.set q { s.cm.stored[q] with substituted := false } ∧ v.pointLevels := by
  obtain ⟨u, eq, hu⟩ := s.toDirect_eq q
  refine ⟨_, eq, ?_, ?_, u.givePointLevels_levels⟩
  · rw [(u.givePointLevels_frame).2.2.2.2.2.2.2.1, hu]
  · have cm : u.givePointLevels.cm = u.cm := by simp
    rw [cm, hu]

/-- Whether a changed substitute returns a point to DIRECT (R50). -/
def Point.returns (old new : PointEntry) (p : Point) : Prop :=
  old.substitute ≠ new.substitute ∧ (p.mode = .shadow ∨ (p.mode = .substituted ∧ new.substitute = .none))

theorem State.adjustPoint_returns {q : PointId} {old new : PointEntry} {v : State}
    (compared : (if old.phases = new.phases then s else (s.updPoint q Point.forget).givePointLevels) = v)
    (returns : (v.points[q]).returns old new) : s.adjustPoint q old new = v.toDirect q := by
  unfold State.adjustPoint
  dsimp only
  rw [compared]
  obtain ⟨differs, mode⟩ := returns
  rw [if_neg differs]
  rcases mode with shadow | ⟨substituted, none⟩
  · rw [shadow]
  · rw [substituted]
    exact if_pos none

theorem State.adjustPoint_stays {q : PointId} {old new : PointEntry} {v : State}
    (compared : (if old.phases = new.phases then s else (s.updPoint q Point.forget).givePointLevels) = v)
    (stays : ¬ (v.points[q]).returns old new) : s.adjustPoint q old new = v := by
  unfold State.adjustPoint
  dsimp only
  rw [compared]
  split
  · rfl
  next differs =>
    cases mode : (v.points[q]).mode with
    | direct => rfl
    | shadow => exact absurd ⟨differs, .inl mode⟩ stays
    | substituted => exact if_neg fun none => stays ⟨differs, .inr ⟨mode, none⟩⟩

/-- What a POINTS change makes of the points, with `s` the part before the table was replaced (R50, R67, R68). -/
theorem State.adjustPoint_adjusted {t : State} {q : PointId} {e : PointEntry} (points : w.points = s.points)
    (stored : w.cm.stored = s.cm.stored)
    (points' : t.points = (w.adjustPoint q s.cm.tables.points[q] e).points)
    (stored' : t.cm.stored = (w.adjustPoint q s.cm.tables.points[q] e).cm.stored)
    (cu' : t.cu = (w.adjustPoint q s.cm.tables.points[q] e).cu) : s.pointAdjusted q e t := by
  obtain ⟨v, compared, after, cm, -, levels⟩ := w.referencesAdjusted q s.cm.tables.points[q] e
  have here : v.points[q] = (s.points[q]).adjusted s.cm.tables.points[q] e := by rw [after, vector_set_same, points]
  have others (m : PointId) (other : m ≠ q) : v.points[m] = s.points[m] := by
    rw [after, vector_set_other _ _ other, points]
  have mode : (v.points[q]).mode = (s.points[q]).mode := by rw [here, Point.adjusted_mode]
  unfold State.pointAdjusted
  dsimp only
  by_cases returns : (v.points[q]).returns s.cm.tables.points[q] e
  · obtain ⟨d, direct, moved, written, given⟩ := v.toDirect_spec q
    rw [State.adjustPoint_returns compared returns, direct] at points' stored' cu'
    have given' : t.pointLevels := by
      unfold State.pointLevels
      rw [points', cu']
      exact given
    unfold Point.returns at returns
    rw [mode] at returns
    refine ⟨fun m other => ⟨?_, ?_⟩, fun _ => ⟨?_, ?_⟩, fun stays => absurd returns stays, fun _ => given'⟩
    · rw [points', moved, vector_set_other _ _ other, others m other]
    · rw [stored', written, vector_set_other _ _ other, cm, stored]
    · rw [points', moved, vector_set_same, here]
      rfl
    · rw [stored', written, vector_set_same, cm, stored]
  · rw [State.adjustPoint_stays compared returns] at points' stored' cu'
    unfold Point.returns at returns
    rw [mode] at returns
    refine ⟨fun m other => ⟨?_, ?_⟩, fun yes => absurd yes returns, fun _ => ⟨?_, ?_⟩, fun why => ?_⟩
    · rw [points', others m other]
    · rw [stored', cm, stored]
    · rw [points', here]
      rfl
    · rw [stored', cm, stored]
    · unfold State.pointLevels
      rw [points', cu']
      exact levels (why.resolve_right returns)

/-! ## HEALTH -/

theorem adjustHealth_eq {h : HealthTable} {e : PointEntry} {p : Point} {stored : PointStored} {counter : Nat} {fault : Bool}
    (clamped : min p.health h.limit = counter) (state : healthState h counter p.fault = fault) :
    (fault = true ∧ p.fault = false ∧ e.autoSub = true ∧ p.mode ≠ .substituted →
      adjustHealth h e p stored = ({ p with health := counter, fault := fault, mode := .substituted, shadow := none },
        { stored with substituted := true })) ∧
    (¬ (fault = true ∧ p.fault = false ∧ e.autoSub = true ∧ p.mode ≠ .substituted) →
      adjustHealth h e p stored = ({ p with health := counter, fault := fault }, stored)) := by
  subst clamped state
  have test : (healthState h (min p.health h.limit) p.fault && !p.fault && e.autoSub && p.mode != .substituted) = true ↔
      healthState h (min p.health h.limit) p.fault = true ∧ p.fault = false ∧ e.autoSub = true ∧
        p.mode ≠ .substituted := by
    simp [and_assoc]
  exact ⟨fun enters => if_pos (test.2 enters), fun stays => if_neg fun yes => stays (test.1 yes)⟩

/-- What a HEALTH change makes of the points (R60, R65, R67, R68). -/
theorem State.healthChanged_adjusted {t : State} {h : HealthTable} (health : w.cm.tables.health = h)
    (entries : w.cm.tables.points = s.cm.tables.points) (points : w.points = s.points)
    (stored : w.cm.stored = s.cm.stored) (points' : t.points = w.healthChanged.points)
    (stored' : t.cm.stored = w.healthChanged.cm.stored) (cu' : t.cu = w.healthChanged.cu) : s.healthAdjusted h t := by
  obtain ⟨after, written, each, eq⟩ := w.healthChanged_eq
  rw [health, entries, points, stored] at each
  generalize moved : ({ w with points := after } : State).storePoints written = u at eq
  have stood : u.points = after := by rw [← moved]; simp
  have store : u.cm.stored = written := by
    rw [← moved]
    exact State.storePoints_stored _ _
  have kept : u.givePointLevels.points = u.points ∧ u.givePointLevels.cm = u.cm := by simp
  rw [eq] at points' stored' cu'
  rw [kept.1, stood] at points'
  rw [kept.2, store] at stored'
  refine ⟨fun q => ?_, ?_⟩
  · dsimp only
    rw [points', stored']
    have both := each q
    obtain ⟨enters, stays⟩ := adjustHealth_eq (h := h) (e := s.cm.tables.points[q]) (p := s.points[q])
      (stored := s.cm.stored[q]) rfl rfl
    refine ⟨fun yes => ?_, fun no => ?_⟩
    · rw [enters yes] at both
      exact Prod.mk.inj both
    · rw [stays no] at both
      exact Prod.mk.inj both
  · have levels := u.givePointLevels_levels
    unfold State.pointLevels at levels ⊢
    rw [cu', points', ← stood]
    rwa [kept.1] at levels

end

end Sys2Proof.Machine
end

section
/-! TABLE entries as the walk applies them (R36, R50, R60, R75, R85, R120, R158, R161, R186). -/

namespace Sys2Proof.Machine

section
variable {s w : State}

/-! ## Breakers and conditions -/

/-- One breaker under an applied change of the BREAKERS table (R75). -/
def adjustedBreaker (old new : BreakersTable) (tr : Resolver) (b : BreakerId) : Breaker :=
  if old.settle = new.settle then adjustEntry old.entries[b] new.entries[b] tr.breakers[b]
  else adjustSettle new.settle new.entries[b] (adjustEntry old.entries[b] new.entries[b] tr.breakers[b])

/-- What a BREAKERS change makes of the breakers (R75, R85). -/
theorem State.breakersChanged_adjusted {t : State} {old new : BreakersTable} {after : BreakerId → Breaker}
    (table : w.cm.tables.breakers = new) (tr : w.tr = s.tr)
    (each : ∀ b : BreakerId, adjustedBreaker old new s.tr b = after b)
    (table' : t.cm.tables.breakers = new) (tr' : t.tr = (w.breakersChanged old).tr)
    (cu' : t.cu = (w.breakersChanged old).cu) : s.breakersAdjusted after t := by
  subst table
  have resolver : (w.breakersChanged old).tr = { s.tr with breakers := (w.breakersChanged old).tr.breakers } := by
    rw [← tr]
    rfl
  have breakers (b : BreakerId) : ((w.breakersChanged old).tr.breakers)[b] = after b := by
    rw [← each, ← tr]
    exact Vector.getElem_ofFn b.isLt
  have source : (w.breakersChanged old).cu.sources[7] = breakerUnknown w.cm.tables.breakers (w.breakersChanged old).tr :=
    ConditionUnit.give_source _ .breakerUnknown _ _
  generalize w.breakersChanged old = x at tr' cu' resolver breakers source
  unfold State.breakersAdjusted
  rw [tr', cu', table', source]
  exact ⟨breakers, resolver, breakerUnknown_iff _ _⟩

/-- What a NOTICE change makes of the condition unit (R186, R187). -/
theorem ConditionUnit.noticeChanged_adjusted {t : State} {n : NoticeTable}
    (cu' : t.cu = s.cu.noticeChanged s.cm.tables.notice n) : s.noticeAdjusted n t := by
  unfold State.noticeAdjusted
  dsimp only
  rw [cu']
  by_cases clears : s.cm.tables.notice.discipline = .hold ∧ n.discipline = .follow
  · rw [show s.cu.noticeChanged s.cm.tables.notice n =
      s.cu.clearWhere n.masked fun i => !isPulse i && !s.cu.sources[i] from if_pos clears]
    obtain ⟨sources, pending⟩ := s.cu.clearWhere_kept n.masked fun i => !isPulse i && !s.cu.sources[i]
    refine ⟨sources, pending, fun i => ?_, s.cu.clearWhere_lit _ _⟩
    obtain ⟨flag, rises⟩ := s.cu.clearWhere_flag n.masked (fun i => !isPulse i && !s.cu.sources[i]) i
    rw [flag, rises]
    cases drop : (!isPulse i && !s.cu.sources[i]) with
    | true =>
      have both : isPulse i = false ∧ s.cu.sources[i] = false := by simpa using drop
      refine ⟨fun _ => ⟨Bool.and_false _, ?_⟩, fun no => absurd ⟨clears.1, clears.2, both⟩ no⟩
      rw [Bool.and_true]
    | false =>
      refine ⟨fun ⟨_, _, pulse, source⟩ => ?_, fun _ => ⟨Bool.and_true _, ?_⟩⟩
      · rw [pulse, source] at drop
        exact nomatch drop
      · rw [Bool.and_false]
        exact if_neg Bool.false_ne_true
  · rw [show s.cu.noticeChanged s.cm.tables.notice n = s.cu.evaluate n.masked from if_neg clears]
    exact ⟨rfl, rfl, fun i => ⟨fun ⟨hold, follow, _⟩ => absurd ⟨hold, follow⟩ clears, fun _ => ⟨rfl, rfl⟩⟩,
      ConditionUnit.evaluate_lit n.masked s.cu⟩

/-! ## What the adjustment leaves alone -/

theorem State.adjust_ia (old : Tables) (part : TablePart) (s : State) : (s.adjust old part).ia = { s.ia with
    nextBoundary := (s.adjust old part).ia.nextBoundary } := by
  unfold State.adjust
  cases part with
  | contract c =>
    dsimp only
    split <;> rfl
  | links | points | breaker | settle | health => simp
  | topology | composition | bands | notice | patrol => rfl

theorem State.storePoints_rsc (stored : Vector PointStored 16) (s : State) : (s.storePoints stored).rsc = { s.rsc with
    configQueue := (s.storePoints stored).rsc.configQueue } := by
  unfold State.storePoints
  split <;> rfl

theorem State.toDirect_rsc (q : PointId) (s : State) : (s.toDirect q).rsc = { s.rsc with
    configQueue := (s.toDirect q).rsc.configQueue } := State.storePoints_rsc _ (s.updPoint q _)

theorem State.adjustPoint_rsc (q : PointId) (old new : PointEntry) (s : State) : (s.adjustPoint q old new).rsc = { s.rsc with
    configQueue := (s.adjustPoint q old new).rsc.configQueue } := by
  obtain ⟨v, compared, -, -, rsc, -⟩ := s.referencesAdjusted q old new
  by_cases returns : (v.points[q]).returns old new
  · rw [State.adjustPoint_returns compared returns, ← rsc]
    exact v.toDirect_rsc q
  · rw [State.adjustPoint_stays compared returns, rsc]

theorem State.healthChanged_rsc (s : State) : s.healthChanged.rsc = { s.rsc with
    configQueue := s.healthChanged.rsc.configQueue } := by
  obtain ⟨after, written, -, eq⟩ := s.healthChanged_eq
  have rsc (u : State) : u.givePointLevels.rsc = u.rsc := by simp
  rw [eq, rsc]
  exact State.storePoints_rsc written { s with points := after }

theorem State.adjust_rsc (old : Tables) (part : TablePart) (s : State) : (s.adjust old part).rsc = { s.rsc with
    configQueue := (s.adjust old part).rsc.configQueue } := by
  unfold State.adjust
  cases part with
  | contract c =>
    dsimp only
    split <;> rfl
  | points q e => exact s.adjustPoint_rsc q _ e
  | health h => exact s.healthChanged_rsc
  | links | breaker | settle => simp
  | topology | composition | bands | notice | patrol => rfl

theorem State.toDirect_job (q : PointId) (s : State) (changed : (s.toDirect q).cm.stored ≠ s.cm.stored) :
    ∃ j ∈ (s.toDirect q).rsc.configQueue, j.content = .points s.cm.tables.points (s.toDirect q).cm.stored := by
  have levels (u : State) : u.givePointLevels.rsc = u.rsc ∧ u.givePointLevels.cm = u.cm := by simp
  obtain ⟨stored, eq⟩ : ∃ stored, s.toDirect q =
      ((s.updPoint q fun p => { p with mode := .direct, shadow := none }).storePoints stored).givePointLevels :=
    ⟨_, rfl⟩
  rw [eq, (levels _).2, State.storePoints_stored] at changed ⊢
  rw [(levels _).1]
  exact State.storePoints_job (s := s.updPoint q _) changed

/-- Stored values that an adjustment changes have their POINTS block queued (R67). -/
theorem State.adjust_job (old : Tables) (part : TablePart) (s : State)
    (changed : (s.adjust old part).cm.stored ≠ s.cm.stored) : ∃ j ∈ (s.adjust old part).rsc.configQueue,
      j.content = .points s.cm.tables.points (s.adjust old part).cm.stored := by
  have levels (u : State) : u.givePointLevels.rsc = u.rsc ∧ u.givePointLevels.cm = u.cm := by simp
  cases part with
  | links l e =>
    have cm : (s.linksChanged l old.links[l] e).cm = s.cm := by simp
    exact absurd (congrArg Manager.stored cm :) changed
  | breaker b e =>
    have cm : (s.breakersChanged old.breakers).cm = s.cm := by simp
    exact absurd (congrArg Manager.stored cm :) changed
  | settle n =>
    have cm : (s.breakersChanged old.breakers).cm = s.cm := by simp
    exact absurd (congrArg Manager.stored cm :) changed
  | contract c =>
    have cm : (if c.minutes = old.contract.minutes then s else s.freshBoundary).cm = s.cm := by split <;> rfl
    exact absurd (congrArg Manager.stored cm :) changed
  | topology | composition | bands | notice | patrol => exact absurd rfl changed
  | points q e =>
    change (s.adjustPoint q old.points[q] e).cm.stored ≠ _ at changed
    show ∃ j ∈ (s.adjustPoint q old.points[q] e).rsc.configQueue,
      j.content = .points _ (s.adjustPoint q old.points[q] e).cm.stored
    obtain ⟨v, compared, -, cm, -, -⟩ := s.referencesAdjusted q old.points[q] e
    by_cases returns : (v.points[q]).returns old.points[q] e
    · rw [State.adjustPoint_returns compared returns] at changed ⊢
      rw [← cm] at changed ⊢
      exact v.toDirect_job q changed
    · rw [State.adjustPoint_stays compared returns, cm] at changed
      exact absurd rfl changed
  | health h =>
    change s.healthChanged.cm.stored ≠ _ at changed
    show ∃ j ∈ s.healthChanged.rsc.configQueue, j.content = .points _ s.healthChanged.cm.stored
    obtain ⟨after, written, -, eq⟩ := s.healthChanged_eq
    rw [eq, (levels _).2, State.storePoints_stored] at changed ⊢
    rw [(levels _).1]
    exact State.storePoints_job (s := { s with points := after }) changed

end

end Sys2Proof.Machine
end

section
/-! Settling O53: a TABLE entry applied. -/

namespace Sys2Proof.Machine

section
variable {s w : State} {part : TablePart}

/-! ## The part replaced -/

theorem Tables.holds_put (part : TablePart) (t : Tables) : (t.put part).holds part = true := by
  cases part <;> simp [Tables.put, Tables.holds]

/-- The part once its closes are made and the table is replaced, against the part before (R161). -/
structure State.Replaced (part : TablePart) (s w : State) : Prop where
  links : w.links = s.links
  wa : w.wa = s.wa
  points : w.points = s.points
  tr : w.tr = s.tr
  boundary : w.ia.nextBoundary = s.ia.nextBoundary
  tk : w.tk = s.tk
  tables : w.cm.tables = s.cm.tables.put part
  stored : w.cm.stored = s.cm.stored
  timer : w.rsc.patrolTimer = s.rsc.patrolTimer
  quiet : part.touches s.cm.tables = [] → w.cu = s.cu

/-- The part once the generation has risen, the block's write is queued and the walk has ended. -/
def State.written (part : TablePart) (x : State) : State :=
  ((x.updCm fun m => { m with generation := countUp m.generation }).handConfig part.table).walkEnded

theorem adjustedBreaker_entry {old new : BreakersTable} {tr : Resolver} {b : BreakerId} {e : Option BreakerRef}
    (entries : new.entries = old.entries.set b e) (settle : new.settle = old.settle) (other : old.entries[b] ≠ e)
    (c : BreakerId) : adjustedBreaker old new tr c = if c = b then Breaker.reset else tr.breakers[c] := by
  unfold adjustedBreaker adjustEntry
  rw [if_pos settle.symm, entries]
  by_cases same : c = b
  · subst same
    rw [if_pos rfl, vector_set_same, if_neg other]
  · rw [if_neg same, vector_set_other _ _ same, if_pos rfl]

theorem adjustedBreaker_settle {old new : BreakersTable} {tr : Resolver} (entries : new.entries = old.entries)
    (other : old.settle ≠ new.settle) (c : BreakerId) : adjustedBreaker old new tr c =
      if old.entries[c] ≠ none ∧ new.settle ≤ (tr.breakers[c]).settle then { tr.breakers[c] with state := .unknown }
      else tr.breakers[c] := by
  unfold adjustedBreaker adjustEntry adjustSettle
  rw [if_neg other, entries, if_pos rfl]
  simp only [Option.isSome_iff_ne_none]

theorem State.contentOf_table (x : TableId) (s : State) : (s.contentOf x).table = x := by
  cases x <;> rfl

/-- A queued POINTS block is not lost when the block of the part is queued (R152). -/
theorem State.written_job {x : State}
    (job : ∃ j ∈ x.rsc.configQueue, j.content = .points x.cm.tables.points x.cm.stored) :
    ∃ j ∈ (x.written part).rsc.configQueue, j.content = .points x.cm.tables.points x.cm.stored := by
  by_cases same : part.table = .points
  · refine ⟨_, joinConfig_self _ _, ?_⟩
    show State.contentOf _ part.table = _
    rw [same]
    rfl
  · obtain ⟨j, mem, content⟩ := job
    refine ⟨j, joinConfig_other mem fun eq => same ?_, content⟩
    rw [content, State.contentOf_table] at eq
    exact eq.symm

/-- `x` is the part once the owners have adjusted to an applied part that differs from the one in force. -/
structure State.Adjusts (part : TablePart) (s w x : State) : Prop where
  replaced : s.Replaced part w
  differs : s.cm.tables.holds part = false
  adjusts : w.adjust s.cm.tables part = x
  tables : x.cm.tables = s.cm.tables.put part
  jobs : x.cm.stored ≠ s.cm.stored →
    ∃ j ∈ (x.written part).rsc.configQueue, j.content = .points x.cm.tables.points x.cm.stored
  timer : x.rsc.patrolTimer = s.rsc.patrolTimer

theorem State.Adjusts.of_adjust {x : State} (r : s.Replaced part w) (differs : s.cm.tables.holds part = false)
    (adjusts : w.adjust s.cm.tables part = x) : s.Adjusts part w x := by
  have cm := w.adjust_cm s.cm.tables part
  have rsc := w.adjust_rsc s.cm.tables part
  have job := w.adjust_job s.cm.tables part
  rw [adjusts] at cm rsc job
  refine ⟨r, differs, adjusts, ?_, fun changed => ?_, ?_⟩
  · rw [cm]
    exact r.tables
  · have same : x.cm.tables = w.cm.tables := by rw [cm]
    have queued := job (by rw [r.stored]; exact changed)
    rw [← same] at queued
    exact State.written_job queued
  · rw [rsc]
    exact r.timer

theorem State.Adjusts.links {x : State} {l : LinkId} {e : LinkEntry} (a : s.Adjusts (.links l e) w x) :
    s.adjusted (.links l e) (x.written (.links l e)) := by
  obtain ⟨r, differs, adjusts, tables, jobs, timer⟩ := a
  change w.linksChanged l s.cm.tables.links[l] e = x at adjusts
  have frame := w.linksChanged_frame l s.cm.tables.links[l] e
  rw [adjusts] at frame
  obtain ⟨-, -, straps, -, -, points, tr, -, ia, -, -, manager, -⟩ := frame
  refine ⟨?_, ⟨points.trans r.points, (congrArg Manager.stored manager).trans r.stored⟩, tr.trans r.tr,
    (congrArg Accountant.nextBoundary ia).trans r.boundary, trivial, jobs, timer⟩
  refine State.linksChanged_adjusted r.links r.wa (r.quiet ?_) (by rw [r.tables]; rfl) ?_ ?_ ?_ ?_
  · exact if_neg (by rw [differs]; decide)
  · rw [adjusts]
    rfl
  · rw [adjusts]
    rfl
  · rw [adjusts]
    rfl
  · show LinkTx.offer ⟨x.straps.freq, (x.cm.tables.links[l]).highest.offered, []⟩ = _
    rw [straps, manager]
    rfl

theorem State.Adjusts.points {x : State} {q : PointId} {e : PointEntry} (a : s.Adjusts (.points q e) w x) :
    s.adjusted (.points q e) (x.written (.points q e)) := by
  obtain ⟨r, differs, adjusts, tables, jobs, timer⟩ := a
  change w.adjustPoint q s.cm.tables.points[q] e = x at adjusts
  have frame := w.adjustPoint_frame q s.cm.tables.points[q] e
  rw [adjusts] at frame
  obtain ⟨-, -, -, -, -, links, wa, tr, -, ia, -⟩ := frame
  refine ⟨⟨links.trans r.links, wa.trans r.wa⟩, ?_, tr.trans r.tr,
    (congrArg Accountant.nextBoundary ia).trans r.boundary, trivial, jobs, timer⟩
  refine State.adjustPoint_adjusted r.points r.stored ?_ ?_ ?_
  · rw [adjusts]
    rfl
  · rw [adjusts]
    rfl
  · rw [adjusts]
    rfl

theorem State.Adjusts.breaker {x : State} {b : BreakerId} {e : Option BreakerRef} (a : s.Adjusts (.breaker b e) w x) :
    s.adjusted (.breaker b e) (x.written (.breaker b e)) := by
  obtain ⟨r, differs, adjusts, tables, jobs, timer⟩ := a
  change w.breakersChanged s.cm.tables.breakers = x at adjusts
  have frame := w.breakersChanged_frame s.cm.tables.breakers
  rw [adjusts] at frame
  obtain ⟨-, -, -, -, -, links, wa, points, -, ia, -, -, manager, -⟩ := frame
  refine ⟨⟨links.trans r.links, wa.trans r.wa⟩,
    ⟨points.trans r.points, (congrArg Manager.stored manager).trans r.stored⟩, ?_,
    (congrArg Accountant.nextBoundary ia).trans r.boundary, trivial, jobs, timer⟩
  refine State.breakersChanged_adjusted (w := w) (old := s.cm.tables.breakers)
    (new := { s.cm.tables.breakers with entries := s.cm.tables.breakers.entries.set b e }) ?_ r.tr
    (adjustedBreaker_entry rfl rfl (beq_eq_false_iff_ne.1 differs)) ?_ ?_ ?_
  · rw [r.tables]
    rfl
  · exact (congrArg Tables.breakers tables :)
  · rw [adjusts]
    rfl
  · rw [adjusts]
    rfl

theorem State.Adjusts.settle {x : State} {n : Nat} (a : s.Adjusts (.settle n) w x) :
    s.adjusted (.settle n) (x.written (.settle n)) := by
  obtain ⟨r, differs, adjusts, tables, jobs, timer⟩ := a
  change w.breakersChanged s.cm.tables.breakers = x at adjusts
  have frame := w.breakersChanged_frame s.cm.tables.breakers
  rw [adjusts] at frame
  obtain ⟨-, -, -, -, -, links, wa, points, -, ia, -, -, manager, -⟩ := frame
  refine ⟨⟨links.trans r.links, wa.trans r.wa⟩,
    ⟨points.trans r.points, (congrArg Manager.stored manager).trans r.stored⟩, ?_,
    (congrArg Accountant.nextBoundary ia).trans r.boundary, trivial, jobs, timer⟩
  refine State.breakersChanged_adjusted (w := w) (old := s.cm.tables.breakers)
    (new := { s.cm.tables.breakers with settle := n }) ?_ r.tr
    (adjustedBreaker_settle rfl (beq_eq_false_iff_ne.1 differs)) ?_ ?_ ?_
  · rw [r.tables]
    rfl
  · exact (congrArg Tables.breakers tables :)
  · rw [adjusts]
    rfl
  · rw [adjusts]
    rfl

theorem State.Adjusts.contract {x : State} {c : ContractTable} (a : s.Adjusts (.contract c) w x) :
    s.adjusted (.contract c) (x.written (.contract c)) := by
  obtain ⟨r, differs, adjusts, tables, jobs, timer⟩ := a
  change (if c.minutes = s.cm.tables.contract.minutes then w else w.freshBoundary) = x at adjusts
  by_cases same : c.minutes = s.cm.tables.contract.minutes
  · rw [if_pos same] at adjusts
    subst adjusts
    refine ⟨⟨r.links, r.wa⟩, ⟨r.points, r.stored⟩, r.tr, ?_, trivial, jobs, timer⟩
    exact r.boundary.trans (if_pos same).symm
  · rw [if_neg same] at adjusts
    subst adjusts
    refine ⟨⟨r.links, r.wa⟩, ⟨r.points, r.stored⟩, r.tr, ?_, trivial, jobs, timer⟩
    refine Eq.trans ?_ (if_neg same).symm
    show (if w.tk.valid then some ((w.tk.seconds / w.intervalSeconds + 1) * w.intervalSeconds) else none) = _
    have step : w.intervalSeconds = c.minutes * 60 := by
      unfold State.intervalSeconds
      rw [r.tables]
      rfl
    rw [step, r.tk]

theorem State.Adjusts.health {x : State} {h : HealthTable} (a : s.Adjusts (.health h) w x) :
    s.adjusted (.health h) (x.written (.health h)) := by
  obtain ⟨r, differs, adjusts, tables, jobs, timer⟩ := a
  change w.healthChanged = x at adjusts
  have frame := w.healthChanged_frame
  rw [adjusts] at frame
  obtain ⟨-, -, -, -, -, links, wa, tr, -, ia, -⟩ := frame
  refine ⟨⟨links.trans r.links, wa.trans r.wa⟩, ?_, tr.trans r.tr,
    (congrArg Accountant.nextBoundary ia).trans r.boundary, trivial, jobs, timer⟩
  refine State.healthChanged_adjusted (by rw [r.tables]; rfl) (by rw [r.tables]; rfl) r.points r.stored ?_ ?_ ?_
  · rw [adjusts]
    rfl
  · rw [adjusts]
    rfl
  · rw [adjusts]
    rfl

theorem State.Adjusts.notice {x : State} {n : NoticeTable} (a : s.Adjusts (.notice n) w x) :
    s.adjusted (.notice n) (x.written (.notice n)) := by
  obtain ⟨r, differs, adjusts, tables, jobs, timer⟩ := a
  have quiet : w.cu = s.cu := r.quiet (if_neg (by rw [differs]; decide))
  change ({ w with cu := w.cu.noticeChanged s.cm.tables.notice n } : State) = x at adjusts
  subst adjusts
  refine ⟨⟨r.links, r.wa⟩, ⟨r.points, r.stored⟩, r.tr, r.boundary, ?_, jobs, timer⟩
  refine ConditionUnit.noticeChanged_adjusted ?_
  rw [← quiet]
  rfl

/-- Each owner has adjusted its state by its own rule (R161). -/
theorem State.Adjusts.adjusted {x : State} (a : s.Adjusts part w x) : s.adjusted part (x.written part) := by
  cases part with
  | links l e => exact a.links
  | points q e => exact a.points
  | breaker b e => exact a.breaker
  | settle n => exact a.settle
  | contract c => exact a.contract
  | health h => exact a.health
  | notice n => exact a.notice
  | topology | composition | bands | patrol =>
    obtain ⟨r, differs, adjusts, tables, jobs, timer⟩ := a
    change w = x at adjusts
    subst adjusts
    exact ⟨⟨r.links, r.wa⟩, ⟨r.points, r.stored⟩, r.tr, r.boundary, trivial, jobs, timer⟩

end

end Sys2Proof.Machine
end

section
/-! Settling O53: the closes, the part replaced, and the rest of a TABLE entry (R32, R36, R158, R161). -/

namespace Sys2Proof.Machine

section
variable {s : State} {part : TablePart}

/-! ## The closes of an entry -/

theorem TablePart.touches_nodup (part : TablePart) (t : Tables) : (part.touches t).Nodup := by
  unfold TablePart.touches
  split
  · exact List.nodup_nil
  · split
    · exact (List.nodup_finRange 8).filter _
    · exact List.nodup_singleton _
    · exact List.nodup_finRange 8
    · split
      · exact List.nodup_nil
      · exact List.nodup_finRange 8
    · exact List.nodup_nil

/-- The accounts that a TABLE entry closes where they are OPEN (R161). -/
theorem Manager.closes_table (part : TablePart) (m : Manager) : m.closes (.table part) =
    if m.mode = .metering then part.touches m.tables else [] := by
  unfold Manager.closes
  by_cases metering : m.mode = .metering
  · rw [if_pos metering, if_pos ⟨metering, by simp⟩]
    rfl
  · rw [if_neg metering, if_neg fun h => metering h.1]

theorem Manager.closes_table_nodup (part : TablePart) (m : Manager) : (m.closes (.table part)).Nodup := by
  rw [Manager.closes_table]
  split
  · exact part.touches_nodup m.tables
  · exact List.nodup_nil

/-- Each account that a list of closes has closed has its block queued, and a queued block of another stays (R42). -/
theorem State.closeList_blocks {cause : EndCause} {endTime : Nat} {reopen : Reopen} {l : List AccountId}
    (distinct : l.Nodup) (s : State) :
    (∀ a : AccountId, a ∈ l → (s.ia.accounts[a]).interval ≠ none →
      ⟨a, ((s.closeList cause endTime reopen l).ia.accounts[a]).regs,
        ((s.closeList cause endTime reopen l).ia.accounts[a]).residues⟩ ∈
          (s.closeList cause endTime reopen l).rsc.blockQueue) ∧
    ∀ c ∈ s.rsc.blockQueue, c.account ∉ l → c ∈ (s.closeList cause endTime reopen l).rsc.blockQueue := by
  induction l generalizing s with
  | nil => exact ⟨fun _ mem => (nomatch mem), fun _ mem _ => mem⟩
  | cons b rest ih =>
    obtain ⟨apart, distinct⟩ := List.nodup_cons.1 distinct
    obtain ⟨closed, queued⟩ := ih distinct (s.closeAccount cause endTime reopen b)
    have stands := (s.closeAccount cause endTime reopen b).closeList_spec cause endTime reopen rest distinct
    have others (a : AccountId) (h : a ≠ b) := s.closeAccount_other cause endTime reopen h
    have first : (∀ c ∈ s.rsc.blockQueue, c.account ≠ b → c ∈ (s.closeAccount cause endTime reopen b).rsc.blockQueue) ∧
        ((s.ia.accounts[b]).interval ≠ none →
          ⟨b, ((s.closeAccount cause endTime reopen b).ia.accounts[b]).regs,
            ((s.closeAccount cause endTime reopen b).ia.accounts[b]).residues⟩ ∈
              (s.closeAccount cause endTime reopen b).rsc.blockQueue) := by
      cases interval : (s.ia.accounts[b]).interval with
      | none =>
        rw [s.closeAccount_none cause endTime reopen interval]
        exact ⟨fun _ mem _ => mem, fun h => absurd rfl h⟩
      | some iv =>
        have spec := s.closeAccount_some cause endTime reopen interval
        dsimp only at spec
        rw [spec.1, spec.2]
        refine ⟨fun c mem other => joinBlock_other mem other, fun _ => ?_⟩
        show ⟨b, ((s.ia.accounts.set b _)[b]).regs, ((s.ia.accounts.set b _)[b]).residues⟩ ∈ joinBlock _ _
        rw [vector_set_same]
        exact joinBlock_self _ _
    rw [show s.closeList cause endTime reopen (b :: rest) =
      (s.closeAccount cause endTime reopen b).closeList cause endTime reopen rest from rfl]
    dsimp only at stands
    generalize (s.closeAccount cause endTime reopen b).closeList cause endTime reopen rest = t at *
    generalize s.closeAccount cause endTime reopen b = u at *
    refine ⟨fun a mem open_ => ?_, fun c mem no => ?_⟩
    · rcases List.mem_cons.1 mem with rfl | mem
      · rw [stands.1 a apart]
        exact queued _ (first.2 open_) apart
      · have differs : a ≠ b := fun e => apart (e ▸ mem)
        exact closed a mem (by rwa [others a differs])
    · obtain ⟨differs, behind⟩ := not_or.1 (mt List.mem_cons.2 no)
      exact queued c (first.1 c mem differs) behind

/-! ## The entry applied -/

theorem State.applyTable_same (same : s.cm.tables.holds part = true) : s.applyTable part = s := if_pos same

theorem State.applyTable_differs {v x : State} (differs : s.cm.tables.holds part = false)
    (closed : s.closeList .config s.closeTime .atCount (s.cm.closes (.table part)) = v)
    (adjusts : (v.updCm fun m => { m with tables := s.cm.tables.put part }).adjust s.cm.tables part = x) :
    (s.applyTable part).walkEnded = x.written part := by
  subst closed adjusts
  exact congrArg State.walkEnded (if_neg (by rw [differs]; decide))

/-- What the closes of an entry leave, for the replacement of its part. -/
theorem State.Replaced.of_closed {u v : State} (cause : EndCause) (endTime : Nat) (reopen : Reopen)
    (closed : u.closeList cause endTime reopen (u.cm.closes (.table part)) = v) :
    u.Replaced part (v.updCm fun m => { m with tables := u.cm.tables.put part }) := by
  have frame := u.closeList_frame cause endTime reopen (u.cm.closes (.table part))
  have spec := u.closeList_spec cause endTime reopen _ (u.cm.closes_table_nodup part)
  have controller := u.closeList_controller cause endTime reopen (u.cm.closes (.table part))
  have quiet (none : part.touches u.cm.tables = []) : u.closeList cause endTime reopen (u.cm.closes (.table part)) = u := by
    rw [Manager.closes_table, none, ite_self]
    rfl
  dsimp only at spec
  rw [closed] at frame spec controller quiet
  obtain ⟨-, -, -, tk, -, links, wa, points, tr, -, -, cm, -⟩ := frame
  obtain ⟨-, -, -, ia, -⟩ := spec
  refine ⟨links, wa, points, tr, ?_, tk, rfl, (congrArg Manager.stored cm :), ?_,
    fun none => (congrArg State.cu (quiet none) :)⟩
  · exact (congrArg Accountant.nextBoundary ia :)
  · exact (congrArg Controller.patrolTimer controller :)

theorem State.written_kept (part : TablePart) (x : State) :
    (x.written part).cm = { x.cm with
      generation := countUp x.cm.generation, queue := [], stop := none, walking := false } ∧
    (x.written part).ia = x.ia ∧ (x.written part).wa = x.wa ∧ (x.written part).store = x.store ∧
    (x.written part).rsc.recordQueue = x.rsc.recordQueue ∧ (x.written part).rsc.blockQueue = x.rsc.blockQueue ∧
    ⟨(x.written part).contentOf part.table, (x.written part).cm.generation⟩ ∈ (x.written part).rsc.configQueue := by
  refine ⟨rfl, rfl, rfl, rfl, rfl, rfl, ?_⟩
  have same : (x.written part).contentOf part.table =
      (x.updCm fun m => { m with generation := countUp m.generation }).contentOf part.table := by
    cases part.table <;> rfl
  rw [same]
  exact joinConfig_self _ _

/-- What a TABLE entry that differs from the part in force leaves of manager, accounts and queues (R161). -/
structure State.TableApplied (n : Nat) (part : TablePart) (l : List AccountId) (s t : State) : Prop where
  cm : t.cm = { s.cm with
    tables := s.cm.tables.put part, stored := t.cm.stored, generation := countUp s.cm.generation
    lastApplied := some n, queue := [], stop := none, walking := false }
  processing : t.wa.processing = none
  store : t.store = s.store
  adjusted : s.bounded.adjusted part t
  job : ⟨t.contentOf part.table, t.cm.generation⟩ ∈ t.rsc.configQueue
  outside : ∀ a : AccountId, a ∉ l → t.ia.accounts[a] = s.ia.accounts[a]
  inside : ∀ a : AccountId, a ∈ l → accountClosed s.cm.tables.contract s.tk.valid (some s.tk.seconds)
    s.ia.accounts[a] t.ia.accounts[a]
  blocks : ∀ a : AccountId, a ∈ l → (s.ia.accounts[a]).interval ≠ none →
    ⟨a, (t.ia.accounts[a]).regs, (t.ia.accounts[a]).residues⟩ ∈ t.rsc.blockQueue
  nextSeq : t.ia.nextSeq = s.ia.nextSeq + s.openAmong l
  records : ∃ rs, t.rsc.recordQueue = s.rsc.recordQueue ++ rs ∧
    rs.map (·.seq) = List.range' s.ia.nextSeq (s.openAmong l) ∧
    ∀ r ∈ rs, r.cause = .config ∧ r.account ∈ l ∧ r.minutes = s.cm.tables.contract.minutes ∧
      r.endTime = if s.tk.valid then s.tk.seconds else 0

theorem State.applyTable_applied {n : Nat} (differs : s.cm.tables.holds part = false) :
    s.TableApplied n part ((s.applying n).cm.closes (.table part)) ((s.applying n).applyTable part).walkEnded := by
  have distinct := (s.applying n).cm.closes_table_nodup part
  have spec := (s.applying n).closeList_spec .config (s.applying n).closeTime .atCount _ distinct
  have blocks := (State.closeList_blocks (cause := .config) (endTime := (s.applying n).closeTime) (reopen := .atCount)
    distinct (s.applying n)).1
  have frame := (s.applying n).closeList_frame .config (s.applying n).closeTime .atCount
    ((s.applying n).cm.closes (.table part))
  dsimp only at spec
  generalize closed : (s.applying n).closeList .config (s.applying n).closeTime .atCount
    ((s.applying n).cm.closes (.table part)) = v at spec blocks frame
  have replaced := State.Replaced.of_closed _ _ _ closed
  generalize w_eq : (v.updCm fun m => { m with tables := (s.applying n).cm.tables.put part }) = w at replaced
  generalize adjusts : w.adjust (s.applying n).cm.tables part = x
  have bounded : s.bounded.Replaced part w := by
    obtain ⟨links, wa, points, tr, boundary, tk, tables, stored, timer, quiet⟩ := replaced
    exact ⟨links, wa, points, tr, boundary, tk, tables, stored, timer, quiet⟩
  have adjusted := (State.Adjusts.of_adjust bounded differs adjusts).adjusted
  have applied := State.applyTable_differs (s := s.applying n) differs closed (w_eq ▸ adjusts)
  have ia := w.adjust_ia (s.applying n).cm.tables part
  have rsc := w.adjust_rsc (s.applying n).cm.tables part
  have cm := w.adjust_cm (s.applying n).cm.tables part
  have idle := w.adjust_processing (s.applying n).cm.tables part
  have kept := w.adjust_frame (s.applying n).cm.tables part
  rw [adjusts] at ia rsc cm idle kept
  obtain ⟨-, -, -, -, -, -, store, -⟩ := kept
  obtain ⟨-, -, -, -, -, -, -, -, -, -, store', cm', -⟩ := frame
  obtain ⟨outside, inside, seq, -, rs, queue, seqs, accounts, built⟩ := spec
  obtain ⟨manager, accountant, assembler, stored, records, queued, job⟩ := x.written_kept part
  have accounts_eq : x.ia.accounts = v.ia.accounts := by rw [ia, ← w_eq]; rfl
  have seq_eq : x.ia.nextSeq = v.ia.nextSeq := by rw [ia, ← w_eq]; rfl
  have records_eq : x.rsc.recordQueue = v.rsc.recordQueue := by rw [rsc, ← w_eq]; rfl
  have blocks_eq : x.rsc.blockQueue = v.rsc.blockQueue := by rw [rsc, ← w_eq]; rfl
  rw [applied]
  refine ⟨?_, ?_, ?_, adjusted, job, ?_, ?_, ?_, ?_, rs, ?_, seqs, fun r mem => ?_⟩
  · have before : w.cm = { s.cm with tables := s.cm.tables.put part, lastApplied := some n } := by
      rw [← w_eq]
      exact congrArg (fun m : Manager => { m with tables := s.cm.tables.put part }) cm'
    rw [before] at cm
    rw [manager]
    generalize x.cm = m at cm ⊢
    rw [cm]
  · rw [assembler, idle, bounded.wa]
    rfl
  · rw [stored, store, ← w_eq]
    exact store'
  · rw [accountant, accounts_eq]
    exact outside
  · rw [accountant, accounts_eq]
    exact inside
  · rw [accountant, accounts_eq, queued, blocks_eq]
    exact blocks
  · rw [accountant, seq_eq]
    exact seq
  · rw [records, records_eq]
    exact queue
  · obtain ⟨iv, -, eq⟩ := built r mem
    have account : r.account ∈ rs.map (·.account) := List.mem_map_of_mem mem
    rw [accounts] at account
    refine ⟨?_, (List.mem_filter.1 account).1, ?_, ?_⟩
    · rw [eq]
      rfl
    · rw [eq]
      rfl
    · rw [eq]
      rfl

end

/-- Settles O53: the part in force, or the closes, the replacement and the adjustment. -/
theorem tableEntryApplies : Obligations.TableEntryApplies := by
  intro s p n part powered processing applied running free queue verdict
  dsimp only
  have applies := exec_windowBoundary_applies powered processing applied running free queue verdict
  change exec .windowBoundary s = .next ((s.applying n).applyTable part).walkEnded at applies
  have closing : (s.applying n).cm.closes (.table part) =
      if s.cm.mode = .metering then s.cm.touches (.table part) else [] := (s.applying n).cm.closes_table part
  rw [← closing]
  cases differs : s.cm.tables.holds part with
  | true =>
    rw [State.applyTable_same (s := s.applying n) differs] at applies
    exact ⟨_, applies, rfl, rfl, rfl, rfl, rfl, rfl, rfl, rfl, fun _ => ⟨rfl, rfl, rfl, rfl, rfl⟩,
      fun h => (nomatch h)⟩
  | false =>
    have done := State.applyTable_applied (n := n) differs
    refine ⟨_, applies, ?_⟩
    generalize ((s.applying n).applyTable part).walkEnded = t at done
    obtain ⟨cm, processing, store, adjusted, job, outside, inside, blocks, nextSeq, records⟩ := done
    have tables : t.cm.tables = s.cm.tables.put part := by rw [cm]
    exact ⟨by rw [cm], by rw [cm], by rw [cm], by rw [cm], processing, by rw [cm], by rw [cm], store,
      fun h => (nomatch h), fun _ => ⟨tables, tables ▸ s.cm.tables.holds_put part, adjusted, by rw [cm], job, outside,
        fun a mem => ⟨inside a mem, blocks a mem⟩, nextSeq, records⟩⟩

end Sys2Proof.Machine
end

section
/-! Settling O57: the arbiter's choice of the next job (R132, R134, R137, R141 to R143). -/

namespace Sys2Proof.Machine

section
variable {s : State}

/-! ## The arbiter by its queues -/

theorem exec_storeJobStart_idle (up : s.powered = true) (work : s.rsc.halted = false)
    (idle : s.rsc.running = none) : exec .storeJobStart s = .next s.startNext := by
  refine (if_neg (by rw [up, work]; decide)).trans ?_
  rw [idle]

/-- Between the two reads of a LOG.READ a queued save preempts the read (R134). -/
theorem exec_storeJobStart_between (up : s.powered = true) (work : s.rsc.halted = false) {q q' n : Nat}
    (reading : s.rsc.running = some ⟨.read (.read q (some q')) false, n⟩) (called : s.rsc.saveQueue.isSome = true) :
    exec .storeJobStart s = .next (s.preempt ⟨.read (.read q (some q')) true, n⟩).startNext := by
  refine (if_neg (by rw [up, work]; decide)).trans ?_
  rw [reading]
  exact if_pos called

theorem State.startNext_save {j : SaveJob} (save : s.rsc.saveQueue = some j) : s.startNext = { s with
    rsc := { s.rsc with saveQueue := none, running := some ⟨.save (s.saveContent j), 1⟩ } } := by
  unfold startNext
  rw [save]
  rfl

theorem State.startNext_preempted {p : ActiveJob} (save : s.rsc.saveQueue = none)
    (preempted : s.rsc.preempted = some p) : s.startNext = s.resume p := by
  unfold startNext
  rw [save]
  dsimp only
  rw [preempted]

/-- The classes below the save and a preempted job hold nothing up to the configuration writes. -/
def Controller.QueuesEmpty (r : Controller) : Prop :=
  r.saveQueue = none ∧ r.preempted = none ∧ r.blockQueue = [] ∧ r.recordQueue = [] ∧ r.configQueue = []

theorem State.startNext_block {c : RegContent} {rest : List RegContent} (save : s.rsc.saveQueue = none)
    (preempted : s.rsc.preempted = none) (blocks : s.rsc.blockQueue = c :: rest) : s.startNext =
      (s.updRsc fun r => { r with blockQueue := rest }).startJob (.block c (s.rsc.map.blockOf c.account)) := by
  unfold startNext
  rw [save]
  dsimp only
  rw [preempted]
  dsimp only
  rw [blocks]

theorem State.startNext_record {q : IntervalRecord} {rest : List IntervalRecord} (save : s.rsc.saveQueue = none)
    (preempted : s.rsc.preempted = none) (blocks : s.rsc.blockQueue = []) (records : s.rsc.recordQueue = q :: rest) :
    s.startNext = (s.updRsc fun r => { r with recordQueue := rest }).startRecord q := by
  unfold startNext
  rw [save]
  dsimp only
  rw [preempted]
  dsimp only
  rw [blocks]
  dsimp only
  rw [records]

theorem State.startNext_config {j : ConfigJob} {rest : List ConfigJob} (save : s.rsc.saveQueue = none)
    (preempted : s.rsc.preempted = none) (blocks : s.rsc.blockQueue = []) (records : s.rsc.recordQueue = [])
    (configs : s.rsc.configQueue = j :: rest) :
    s.startNext = (s.updRsc fun r => { r with configQueue := rest }).startConfig j := by
  unfold startNext
  rw [save]
  dsimp only
  rw [preempted]
  dsimp only
  rw [blocks]
  dsimp only
  rw [records]
  dsimp only
  rw [configs]

theorem State.startNext_read {j : ReadJob} (empty : s.rsc.QueuesEmpty) (read : s.rsc.readQueue = some j) :
    s.startNext = (s.updRsc fun r => { r with readQueue := none }).startJob (.read (s.rsc.judge j) false) := by
  obtain ⟨save, preempted, blocks, records, configs⟩ := empty
  unfold startNext
  rw [save]
  dsimp only
  rw [preempted]
  dsimp only
  rw [blocks]
  dsimp only
  rw [records]
  dsimp only
  rw [configs]
  dsimp only
  rw [read]

theorem State.startNext_last (empty : s.rsc.QueuesEmpty) (read : s.rsc.readQueue = none) :
    s.startNext = if s.rsc.patrolQueued then s.startPatrol else s := by
  obtain ⟨save, preempted, blocks, records, configs⟩ := empty
  unfold startNext
  rw [save]
  dsimp only
  rw [preempted]
  dsimp only
  rw [blocks]
  dsimp only
  rw [records]
  dsimp only
  rw [configs]
  dsimp only
  rw [read]

/-! ## The jobs as they start -/

theorem State.resume_write {job : Job} (n : Nat) (write : job.isWrite = true) : s.resume ⟨job, n⟩ = { s with
    rsc := { s.rsc with
      preempted := none, running := some ⟨job, n + 1⟩
      counters := { s.rsc.counters with
        retries := if n = 0 then s.rsc.counters.retries else countUp s.rsc.counters.retries } } } := by
  refine (if_pos write).trans ?_
  by_cases first : n = 0
  · rw [if_pos first, if_pos first]
    rfl
  · rw [if_neg first, if_neg first]
    rfl

theorem State.resume_read {job : Job} (n : Nat) (read : job.isWrite = false) : s.resume ⟨job, n⟩ = { s with
    rsc := { s.rsc with preempted := none, running := some ⟨job, n⟩ } } :=
  if_neg (by rw [show (⟨job, n⟩ : ActiveJob).job.isWrite = false from read]; decide)

theorem State.startRecord_eq (q : IntervalRecord) : s.startRecord q = { s with
    rsc := { s.rsc with
      running := some ⟨.record q s.rsc.nextSlot, 1⟩
      oldest := if 4096 - s.rsc.map.badSlots.length ≤ s.rsc.newest + 1 - s.rsc.oldest then s.rsc.oldest + 1
        else s.rsc.oldest } } := by
  unfold startRecord startJob updRsc Controller.makeRoom
  by_cases full : s.rsc.logCount ≥ s.rsc.logCapacity
  · rw [if_pos full]
    exact congrArg (fun o => { s with rsc := { s.rsc with
      running := some ⟨.record q s.rsc.nextSlot, 1⟩, oldest := o } }) (if_pos full).symm
  · rw [if_neg full]
    exact congrArg (fun o => { s with rsc := { s.rsc with
      running := some ⟨.record q s.rsc.nextSlot, 1⟩, oldest := o } }) (if_neg full).symm

theorem State.startConfig_other {c : ConfigContent} (g : Nat) (other : c.table ≠ .patrol) :
    s.startConfig ⟨c, g⟩ = { s with rsc := { s.rsc with running := some ⟨.config c g, 1⟩ } } := by
  cases c with
  | patrol period map => exact absurd rfl other
  | _ => rfl

/-- The patrol reads the first unit of the round that has no job (R143). -/
theorem State.startPatrol_reads {skipped later : List PatrolPos} {u : PatrolPos}
    (round : s.rsc.roundFrom s.rsc.patrolPos = skipped ++ u :: later)
    (jobs : ∀ x ∈ skipped, s.rsc.busy x = true) (free : s.rsc.busy u = false) : s.startPatrol = { s with
      rsc := { s.rsc with patrolQueued := false, patrolPos := u, running := some ⟨.patrol u false, 1⟩ } } := by
  have found : (s.rsc.roundFrom s.rsc.patrolPos).find? (fun u => !s.rsc.busy u) = some u := by
    rw [round, List.find?_append, List.find?_eq_none.2 fun x mem => by simp [jobs x mem]]
    simp [free]
  unfold startPatrol
  dsimp only
  rw [show ((s.updRsc fun r => { r with patrolQueued := false }).rsc.roundFrom
    (s.updRsc fun r => { r with patrolQueued := false }).rsc.patrolPos).find?
      (fun u => !(s.updRsc fun r => { r with patrolQueued := false }).rsc.busy u) = some u from found]
  rfl

theorem State.startPatrol_ends (jobs : ∀ x ∈ s.rsc.roundFrom s.rsc.patrolPos, s.rsc.busy x = true) :
    s.startPatrol = { s with rsc := { s.rsc with patrolQueued := false, patrolPos := .account 0 } } := by
  have found : (s.rsc.roundFrom s.rsc.patrolPos).find? (fun u => !s.rsc.busy u) = none :=
    List.find?_eq_none.2 fun x mem => by simp [jobs x mem]
  unfold startPatrol
  dsimp only
  rw [show ((s.updRsc fun r => { r with patrolQueued := false }).rsc.roundFrom
    (s.updRsc fun r => { r with patrolQueued := false }).rsc.patrolPos).find?
      (fun u => !(s.updRsc fun r => { r with patrolQueued := false }).rsc.busy u) = none from found]
  rfl

/-- A save that preempts a read starts at once; where no other job stood preempted it saves the same records
(R134). -/
theorem State.startNext_preempt {j : SaveJob} {v : ReadVerdict} {n : Nat} (save : s.rsc.saveQueue = some j)
    (reading : s.rsc.running = some ⟨.read v false, n⟩) (alone : s.rsc.preempted = none) :
    (s.preempt ⟨.read v true, n⟩).startNext = { s with
      rsc := { s.rsc with
        saveQueue := none, running := some ⟨.save (s.saveContent j), 1⟩
        preempted := some ⟨.read v true, n⟩ } } := by
  have records : (s.preempt ⟨.read v true, n⟩).rsc.records = s.rsc.records := by
    unfold Controller.records
    rw [reading, alone]
    rfl
  have content : (s.preempt ⟨.read v true, n⟩).saveContent j = s.saveContent j := by
    cases j with
    | save => exact congrArg (fun r => SaveBlock.saved { s.savedState with records := r }) records
    | _ => rfl
  rw [State.startNext_save (s := s.preempt ⟨.read v true, n⟩) save, content]
  rfl

/-- Beside a running read no job stands preempted (R134). -/
theorem State.jobsOk.alone {v : ReadVerdict} {n : Nat} (ok : s.jobsOk)
    (reading : s.rsc.running = some ⟨.read v false, n⟩) : s.rsc.preempted = none := by
  by_contra some
  obtain none | ⟨b, m, saving⟩ := ok some
  · exact nomatch reading.symm.trans none
  · exact nomatch reading.symm.trans saving

end

/-- Settles O57: the arbiter's branches, from the save down to the patrol. -/
theorem storeJobStarts : Obligations.StoreJobStarts := by
  unfold Obligations.StoreJobStarts
  intro s up work
  dsimp only
  refine ⟨fun q q' n j ok reading save => ?_, fun idle => ?_⟩
  · rw [exec_storeJobStart_between up work reading (by rw [save]; rfl), State.startNext_preempt save reading (ok.alone reading)]
  have start := exec_storeJobStart_idle up work idle
  refine ⟨fun j save => start.trans (congrArg _ (State.startNext_save save)), fun save => ⟨fun job n preempted => ?_,
    fun preempted => ⟨fun c rest blocks => start.trans (congrArg _ (State.startNext_block save preempted blocks)),
      fun blocks => ⟨fun q rest records => ?_, fun records => ⟨fun c g rest configs => ?_, fun configs => ?_⟩⟩⟩⟩⟩
  · have resumes := start.trans (congrArg _ (State.startNext_preempted save preempted))
    exact ⟨fun write => resumes.trans (congrArg _ (State.resume_write n write)),
      fun read => resumes.trans (congrArg _ (State.resume_read n read))⟩
  · refine start.trans (congrArg _ ((State.startNext_record save preempted blocks records).trans ?_))
    rw [State.startRecord_eq]
    rfl
  · have begins := start.trans (congrArg _ (State.startNext_config save preempted blocks records configs))
    refine ⟨fun other => begins.trans ?_, fun period m patrol => begins.trans ?_⟩
    · rw [State.startConfig_other g other]
      rfl
    · subst patrol
      rfl
  · have empty : s.rsc.QueuesEmpty := ⟨save, preempted, blocks, records, configs⟩
    refine ⟨fun j read => start.trans (congrArg _ (State.startNext_read empty read)), fun read none => ?_,
      fun read queued => ?_⟩
    · refine start.trans (congrArg _ ((State.startNext_last empty read).trans ?_))
      rw [if_neg (by rw [none]; decide)]
    · have patrols := start.trans (congrArg _ ((State.startNext_last empty read).trans (if_pos queued)))
      exact ⟨fun skipped u later round jobs free => patrols.trans (congrArg _ (State.startPatrol_reads round jobs free)),
        fun jobs => patrols.trans (congrArg _ (State.startPatrol_ends jobs))⟩

end Sys2Proof.Machine
end

section
/-! Settling O58: what a verified write leaves (R42, R134, R135, R147, R171, R172). -/

namespace Sys2Proof.Machine

section
variable {s : State}

/-! ## Controllers in which no job runs -/

/-- No job runs in `q`, and its counters, its map and its save-failure memory are those of `r`. -/
def Controller.Idles (r q : Controller) : Prop :=
  q.running = none ∧ q.counters = r.counters ∧ q.map = r.map ∧ q.saveFailed = r.saveFailed

theorem Controller.Idles.trans {r q p : Controller} (h : r.Idles q) (k : q.Idles p) : r.Idles p :=
  ⟨k.1, k.2.1.trans h.2.1, k.2.2.1.trans h.2.2.1, k.2.2.2.trans h.2.2.2⟩

theorem State.refuse_rsc (reason : Reason) (t : State) : (t.refuse reason).rsc = t.rsc := by simp

/-- The entry into HALTED ends the reads of the log (R148). -/
theorem State.enterHalted_rsc (work : s.rsc.halted = false) : s.enterHalted.rsc = { s.rsc with
    halted := true, readQueue := none, running := dropRead s.rsc.running
    preempted := dropRead s.rsc.preempted } := by
  unfold State.enterHalted
  rw [if_neg (by rw [work]; decide)]
  dsimp only
  split
  · exact (State.refuse_rsc _ _).trans (by simp [State.updRsc, State.updWa])
  · simp [State.updRsc, State.updWa]

theorem State.enterHalted_idles (idle : s.rsc.running = none) : s.rsc.Idles s.enterHalted.rsc := by
  by_cases halted : s.rsc.halted = true
  · rw [State.enterHalted, if_pos halted]
    exact ⟨idle, rfl, rfl, rfl⟩
  · rw [State.enterHalted_rsc (Bool.eq_false_iff.2 halted), idle]
    exact ⟨rfl, rfl, rfl, rfl⟩

theorem State.raiseEvent_idles (e : CloseEvent) (idle : s.rsc.running = none) :
    s.rsc.Idles (s.raiseEvent e).rsc := by
  unfold State.raiseEvent
  split
  · exact ⟨idle, rfl, rfl, rfl⟩
  · split
    · exact State.enterHalted_idles (s := s.waitEvent e) idle
    · rw [State.runEvent_controller e s]
      exact ⟨idle, rfl, rfl, rfl⟩

/-- The return to NORMAL writes to the store through its queues only (R34, R172). -/
theorem State.returnToNormal_idles (idle : s.rsc.running = none) : s.rsc.Idles s.returnToNormal.rsc := by
  cases pending : s.ia.pendingBoundary with
  | none =>
    rw [State.returnToNormal_none pending]
    exact ⟨idle, rfl, rfl, rfl⟩
  | some b =>
    have kept : s.pendingTaken.rsc = { s.rsc with saveQueue := some .running } := rfl
    have before : s.rsc.Idles s.pendingTaken.rsc := by
      rw [kept]
      exact ⟨idle, rfl, rfl, rfl⟩
    rw [State.returnToNormal_pending pending]
    generalize s.pendingTaken = t at before ⊢
    split
    · exact before
    · exact before.trans (State.raiseEvent_idles _ before.1)

theorem State.returnToNormal_sm (s : State) : s.returnToNormal.sm =
    { s.sm with state := .normal, deassertHeld := false } := by
  cases pending : s.ia.pendingBoundary with
  | none => rw [State.returnToNormal_none pending]; rfl
  | some b =>
    rw [State.returnToNormal_pending pending]
    split
    · rfl
    · exact (State.raiseEvent_frame _ _).2.2.2.2.2.2.2.2.2.2.2.1

/-! ## The outcome of a save -/

theorem State.saveComplete_idles (verified : Bool) (time : TimeStamp) (idle : s.rsc.running = none) :
    s.rsc.Idles (s.saveComplete verified time).rsc := by
  unfold State.saveComplete
  dsimp only
  split
  · split
    · exact State.returnToNormal_idles (s := s.updSm fun m => { m with lastSave := some (verified, time) }) idle
    · exact ⟨idle, rfl, rfl, rfl⟩
  · exact ⟨idle, rfl, rfl, rfl⟩

/-- With no deassertion held the outcome of a save changes the supply monitor alone (R172). -/
theorem State.saveComplete_unheld (verified : Bool) (time : TimeStamp) (unheld : s.sm.deassertHeld = false) :
    s.saveComplete verified time = { s with sm := { s.sm with
      lastSave := some (verified, time)
      state := if s.sm.state = .saving ∧ s.rsc.saveQueue ≠ some .save then .saved else s.sm.state } } := by
  by_cases moves : s.sm.state = .saving ∧ s.rsc.saveQueue ≠ some .save
  · refine ((if_pos moves).trans (if_neg fun held => Bool.false_ne_true (unheld.symm.trans held))).trans ?_
    rw [if_pos moves]
    rfl
  · refine (if_neg moves).trans ?_
    rw [if_neg moves]
    rfl

theorem State.saveComplete_held (verified : Bool) (time : TimeStamp) (held : s.sm.deassertHeld = true)
    (saving : s.sm.state = .saving) (last : s.rsc.saveQueue ≠ some .save) : s.saveComplete verified time =
      (s.updSm fun m => { m with lastSave := some (verified, time) }).returnToNormal :=
  (if_pos ⟨saving, last⟩).trans (if_pos held)

/-! ## The consumption of a save -/

theorem State.consume_none (f : Consumption → Consumption) (none : s.rsc.consumption = none) : s.consume f = s := by
  unfold State.consume
  rw [none]

/-- The last of the writes that the load queued from a SAVED block has the RUNNING write queued (R147). -/
theorem State.consume_last {k : Consumption} (f : Consumption → Consumption) (some : s.rsc.consumption = some k)
    (last : (f k).blocks = [] ∧ (f k).records = []) : s.consume f = { s with rsc := { s.rsc with
      consumption := none, saveQueue := if s.sm.saveCalled then s.rsc.saveQueue else Option.some .running } } := by
  unfold State.consume
  rw [some]
  dsimp only
  rw [last.1, last.2]
  refine (if_pos rfl).trans ?_
  by_cases called : s.sm.saveCalled = true
  · rw [if_pos called]
    exact if_pos called
  · rw [if_neg called]
    exact if_neg called

theorem State.consume_more {k : Consumption} (f : Consumption → Consumption) (some : s.rsc.consumption = some k)
    (more : ¬ ((f k).blocks = [] ∧ (f k).records = [])) :
    s.consume f = { s with rsc := { s.rsc with consumption := Option.some (f k) } } := by
  unfold State.consume
  rw [some]
  refine if_neg fun both => more ?_
  obtain ⟨blocks, records⟩ := Bool.and_eq_true_iff.1 both
  exact ⟨List.isEmpty_iff.1 blocks, List.isEmpty_iff.1 records⟩

/-- Of the store controller a consumed write changes what it has left to consume and the save's queue. -/
theorem State.consume_rsc (f : Consumption → Consumption) (s : State) : (s.consume f).rsc = { s.rsc with
    consumption := (s.consume f).rsc.consumption, saveQueue := (s.consume f).rsc.saveQueue } := by
  cases h : s.rsc.consumption with
  | none => rw [s.consume_none f h]
  | some k =>
    by_cases last : (f k).blocks = [] ∧ (f k).records = []
    · rw [s.consume_last f h last]
    · rw [s.consume_more f h last]

/-! ## The close in flight -/

/-- A close in flight stays so while the account has a block owed or a record unwritten (R42). -/
theorem State.settleFlight_inFlight (a : AccountId) (s : State) : ((s.settleFlight a).ia.accounts[a]).inFlight =
    ((s.ia.accounts[a]).inFlight && ((s.ia.accounts[a]).blockOwed || s.rsc.records.any (·.account == a))) := by
  unfold State.settleFlight
  dsimp only
  split
  next ends =>
    simp only [Bool.and_eq_true, Bool.not_eq_true'] at ends
    obtain ⟨⟨-, owed⟩, left⟩ := ends
    refine (congrArg Account.inFlight (vector_set_same s.ia.accounts a _)).trans ?_
    rw [owed, left, Bool.or_false, Bool.and_false]
  next goes =>
    cases flying : (s.ia.accounts[a]).inFlight
    · rfl
    · cases owed : (s.ia.accounts[a]).blockOwed <;> cases left : s.rsc.records.any (·.account == a) <;>
        simp_all

theorem State.updAccount_energies (a b : AccountId) {f : Account → Account}
    (kept : ∀ x, (f x).regs = x.regs ∧ (f x).residues = x.residues ∧ (f x).interval = x.interval) :
    (s.updAccount a f).energies b = s.energies b := by
  have account : (s.updAccount a f).ia.accounts[b] = (s.ia.accounts.set a (f s.ia.accounts[a]))[b] := rfl
  obtain ⟨regs, residues, interval⟩ := kept s.ia.accounts[a]
  unfold State.energies
  rw [account]
  by_cases same : b = a
  · subst same
    rw [vector_set_same, regs, residues, interval]
  · rw [vector_set_other _ _ same]

theorem State.settleFlight_energies (a b : AccountId) (s : State) : (s.settleFlight a).energies b = s.energies b := by
  unfold State.settleFlight
  dsimp only
  split
  · exact s.updAccount_energies a b fun x => ⟨rfl, rfl, rfl⟩
  · rfl

/-! ## The report of a verified write -/

/-- What the verified write leaves of the consumption of a save, in the statement's terms (R147). -/
def State.Consumed (s : State) (f : Consumption → Consumption) (t : State) : Prop :=
  (s.rsc.consumption = none → t.rsc.consumption = none ∧ t.rsc.saveQueue = s.rsc.saveQueue) ∧
  ∀ k, s.rsc.consumption = some k →
    ((f k).blocks = [] ∧ (f k).records = [] → t.rsc.consumption = none ∧
      t.rsc.saveQueue = if s.sm.saveCalled then s.rsc.saveQueue else some .running) ∧
    (¬ ((f k).blocks = [] ∧ (f k).records = []) →
      t.rsc.consumption = some (f k) ∧ t.rsc.saveQueue = s.rsc.saveQueue)

theorem State.consume_consumed (f : Consumption → Consumption) (s : State) : s.Consumed f (s.consume f) :=
  ⟨fun none => by rw [s.consume_none f none]; exact ⟨none, rfl⟩, fun k some =>
    ⟨fun last => by rw [s.consume_last f some last]; exact ⟨rfl, rfl⟩,
      fun more => by rw [s.consume_more f some more]; exact ⟨rfl, rfl⟩⟩⟩

/-- The report of a block or a record: the close in flight is settled, and the write consumed (R42, R147). -/
structure State.Reported (u : State) (a : AccountId) (f : Consumption → Consumption) (t : State) : Prop where
  consumed : u.Consumed f t
  rsc : t.rsc = { u.rsc with consumption := t.rsc.consumption, saveQueue := t.rsc.saveQueue }
  inFlight : (t.ia.accounts[a]).inFlight =
    ((u.ia.accounts[a]).inFlight && ((u.ia.accounts[a]).blockOwed || u.rsc.records.any (·.account == a)))
  energies : ∀ b, t.energies b = u.energies b
  mlc : t.mlc = u.mlc
  store : t.store = u.store

theorem State.settleFlight_consume_reported (u : State) (a : AccountId) (f : Consumption → Consumption) :
    u.Reported a f ((u.settleFlight a).consume f) where
  consumed := by
    have settled := (u.settleFlight a).consume_consumed f
    unfold State.Consumed at settled
    rw [show (u.settleFlight a).rsc = u.rsc by simp, show (u.settleFlight a).sm = u.sm by simp] at settled
    exact settled
  rsc := by
    have rsc := (u.settleFlight a).consume_rsc f
    rw [show (u.settleFlight a).rsc = u.rsc by simp] at rsc
    exact rsc
  inFlight := by
    rw [show ((u.settleFlight a).consume f).ia = (u.settleFlight a).ia by simp]
    exact u.settleFlight_inFlight a
  energies b := by
    unfold State.energies
    rw [show ((u.settleFlight a).consume f).ia = (u.settleFlight a).ia by simp]
    exact u.settleFlight_energies a b
  mlc := by simp
  store := by simp

/-- The state before a verified record is reported (R134, R137). -/
def State.recordStands (s : State) (q : IntervalRecord) (slot : Nat) : State :=
  ((s.updStore (·.put (.record q slot))).jobEnds).updRsc fun r => { r with
    oldest := if r.newest < r.oldest then q.seq else r.oldest, newest := q.seq, newestSlot := slot }

/-- The state before a verified block is reported (R42). -/
def State.blockStands (s : State) (c : RegContent) (loc : BlockLoc) : State :=
  ((s.updStore (·.put (.block c loc))).jobEnds).updAccount c.account fun acc =>
    { acc with blockOwed := acc.blockOwed && s.rsc.blockQueue.any (·.account == c.account) }

theorem State.verified_record (q : IntervalRecord) (slot : Nat) (s : State) : (s.recordStands q slot).Reported
    q.account (fun k => { k with records := k.records.filter (· != q.seq) }) (s.verified (.record q slot)) :=
  State.settleFlight_consume_reported _ _ _

theorem State.verified_block (c : RegContent) (loc : BlockLoc) (s : State) : (s.blockStands c loc).Reported
    c.account (fun k => { k with blocks := k.blocks.filter (· != c.account) }) (s.verified (.block c loc)) :=
  State.settleFlight_consume_reported _ _ _

theorem State.blockStands_energies (c : RegContent) (loc : BlockLoc) (a : AccountId) (s : State) :
    (s.blockStands c loc).energies a = s.energies a :=
  State.updAccount_energies (s := (s.updStore (·.put (.block c loc))).jobEnds) _ _ fun _ => ⟨rfl, rfl, rfl⟩

theorem State.blockStands_account (c : RegContent) (loc : BlockLoc) (s : State) :
    (s.blockStands c loc).ia.accounts[c.account] = { s.ia.accounts[c.account] with
      blockOwed := (s.ia.accounts[c.account]).blockOwed && s.rsc.blockQueue.any (·.account == c.account) } :=
  vector_set_same s.ia.accounts c.account _

/-- The state in which a verified save is reported (R171). -/
def State.saveStands (s : State) (saved : SavedState) : State :=
  ((s.updStore (·.put (.save (.saved saved)))).jobEnds).updRsc fun r => { r with saveFailed := false }

theorem State.verified_saved (saved : SavedState) (s : State) :
    s.verified (.save (.saved saved)) = (s.saveStands saved).saveComplete true saved.time := rfl

/-! ## What every verified write leaves -/

/-- What a verified write leaves whatever its unit is (R135). -/
def State.Verified (s : State) (job : Job) (t : State) : Prop :=
  t.store = s.store.put job ∧ t.rsc.running = none ∧ t.rsc.counters = s.rsc.counters ∧ t.rsc.map = s.rsc.map ∧
    (s.sm.deassertHeld = false → t.mlc = s.mlc ∧ ∀ a : AccountId, t.energies a = s.energies a)

theorem State.Reported.verified {job : Job} {u t : State} {a : AccountId} {f : Consumption → Consumption}
    (reported : u.Reported a f t) (store : u.store = s.store.put job)
    (idles : u.rsc.running = none ∧ u.rsc.counters = s.rsc.counters ∧ u.rsc.map = s.rsc.map)
    (mlc : u.mlc = s.mlc) (energies : ∀ a, u.energies a = s.energies a) : s.Verified job t := by
  obtain ⟨-, rsc, -, kept, mlc', store'⟩ := reported
  unfold State.Verified
  rw [rsc]
  exact ⟨store'.trans store, idles.1, idles.2.1, idles.2.2,
    fun _ => ⟨mlc'.trans mlc, fun a => (kept a).trans (energies a)⟩⟩

theorem State.verified_saved_verified (saved : SavedState) (s : State) :
    s.Verified (.save (.saved saved)) (s.verified (.save (.saved saved))) := by
  rw [State.verified_saved]
  obtain ⟨running, counters, map, -⟩ := State.saveComplete_idles (s := s.saveStands saved) true saved.time rfl
  refine ⟨?_, running, counters, map, fun unheld => ?_⟩
  · exact (State.saveComplete_frame true saved.time (s.saveStands saved)).2.2.2.2.2.2.2.2.2.1
  · rw [State.saveComplete_unheld (s := s.saveStands saved) true saved.time unheld]
    exact ⟨rfl, fun a => rfl⟩

theorem State.verified_verified {job : Job} (write : job.isWrite = true) (s : State) :
    s.Verified job (s.verified job) := by
  cases job with
  | save b =>
    cases b with
    | saved saved => exact s.verified_saved_verified saved
    | _ => exact ⟨rfl, rfl, rfl, rfl, fun _ => ⟨rfl, fun _ => rfl⟩⟩
  | config c g => exact ⟨rfl, rfl, rfl, rfl, fun _ => ⟨rfl, fun _ => rfl⟩⟩
  | block c loc =>
    exact (s.verified_block c loc).verified rfl ⟨rfl, rfl, rfl⟩ rfl fun a => s.blockStands_energies c loc a
  | record q slot => exact (s.verified_record q slot).verified rfl ⟨rfl, rfl, rfl⟩ rfl fun _ => rfl
  | read v second => exact nomatch write
  | patrol u second => exact nomatch write

theorem exec_storeWriteAttemptDone_verified {job : Job} {n : Nat} (up : s.powered = true)
    (running : s.rsc.running = some ⟨job, n⟩) (write : job.isWrite = true) :
    exec (.storeWriteAttemptDone .verified) s = .next (s.verified job) := by
  show execStoreWriteAttemptDone .verified s = _
  unfold execStoreWriteAttemptDone
  rw [running]
  exact if_neg (by rw [up, write]; decide)

end

section
variable {s : State}

/-- The outcome of a verified save: it is shown, and SAVING is left unless a later save is called (R171, R172). -/
theorem State.verified_saved_outcome (saved : SavedState) (s : State) :
    let t := s.verified (.save (.saved saved))
    t.rsc.saveFailed = false ∧ t.sm.lastSave = some (true, saved.time) ∧
      (s.sm.state = .saving → s.sm.deassertHeld = false → s.rsc.saveQueue ≠ some .save → t.sm.state = .saved) ∧
      (s.sm.state = .saving → s.sm.deassertHeld = true → s.rsc.saveQueue ≠ some .save → t.sm.state = .normal) := by
  dsimp only
  rw [State.verified_saved]
  obtain ⟨-, -, -, failed⟩ := State.saveComplete_idles (s := s.saveStands saved) true saved.time rfl
  refine ⟨failed, ?_, fun saving unheld last => ?_, fun saving held last => ?_⟩
  · unfold State.saveComplete
    dsimp only
    split
    · split
      · rw [State.returnToNormal_sm]
        rfl
      · rfl
    · rfl
  · rw [State.saveComplete_unheld (s := s.saveStands saved) true saved.time unheld]
    exact if_pos ⟨saving, last⟩
  · rw [State.saveComplete_held (s := s.saveStands saved) true saved.time held saving last, State.returnToNormal_sm]

/-- The block that is verified, in the statement's terms (R42, R147). -/
theorem State.verified_block_report (c : RegContent) (loc : BlockLoc) (s : State) :
    let t := s.verified (.block c loc)
    s.Consumed (fun k => { k with blocks := k.blocks.filter (· != c.account) }) t ∧
      (t.ia.accounts[c.account]).inFlight = ((s.ia.accounts[c.account]).inFlight &&
        (((s.ia.accounts[c.account]).blockOwed && s.rsc.blockQueue.any (·.account == c.account)) ||
          t.rsc.records.any (·.account == c.account))) := by
  obtain ⟨consumed, rsc, inFlight, -, -, -⟩ := s.verified_block c loc
  dsimp only
  generalize s.verified (.block c loc) = t at consumed rsc inFlight ⊢
  refine ⟨consumed, ?_⟩
  rw [inFlight, s.blockStands_account c loc, rsc]
  rfl

/-- The record that is verified, in the statement's terms (R42, R134, R137, R147). -/
theorem State.verified_record_report (q : IntervalRecord) (slot : Nat) (s : State) :
    let t := s.verified (.record q slot)
    s.Consumed (fun k => { k with records := k.records.filter (· != q.seq) }) t ∧
      t.rsc.newest = q.seq ∧ t.rsc.newestSlot = slot ∧
      t.rsc.oldest = (if s.rsc.newest < s.rsc.oldest then q.seq else s.rsc.oldest) ∧
      (t.ia.accounts[q.account]).inFlight = ((s.ia.accounts[q.account]).inFlight &&
        ((s.ia.accounts[q.account]).blockOwed || t.rsc.records.any (·.account == q.account))) := by
  obtain ⟨consumed, rsc, inFlight, -, -, -⟩ := s.verified_record q slot
  dsimp only
  generalize s.verified (.record q slot) = t at consumed rsc inFlight ⊢
  refine ⟨consumed, ?_, ?_, ?_, ?_⟩
  · rw [rsc]; rfl
  · rw [rsc]; rfl
  · rw [rsc]; rfl
  · rw [inFlight, rsc]
    rfl

end

/-- Settles O58: what every verified write leaves, and the report of each kind of unit. -/
theorem writeVerifies : Obligations.WriteVerifies := by
  unfold Obligations.WriteVerifies
  intro s job n up running write
  dsimp only
  obtain ⟨store, idle, counters, map, quiet⟩ := s.verified_verified write
  refine ⟨s.verified job, exec_storeWriteAttemptDone_verified up running write, store, idle, counters, map,
    (State.verified_frame job s).2.2.2.2.2.2.1, by simp, by simp, quiet, ?_, ?_, ?_, ?_, ?_⟩
  · rintro c g rfl
    rfl
  · rintro (rfl | rfl) <;> rfl
  · rintro q slot rfl
    exact s.verified_record_report q slot
  · rintro c loc rfl
    exact s.verified_block_report c loc
  · rintro saved rfl
    exact s.verified_saved_outcome saved

end Sys2Proof.Machine
end

section
/-! Settling O59: the next attempt, preemption, and the failure of each kind of unit (R134, R135, R138 to
R140, R148). -/

namespace Sys2Proof.Machine

section
variable {s : State} {job : Job} {n : Nat}

/-! ## The next attempt -/

theorem exec_storeWriteAttemptDone_mismatch (left : UnitLeft) (up : s.powered = true)
    (running : s.rsc.running = some ⟨job, n⟩) (write : job.isWrite = true) :
    exec (.storeWriteAttemptDone (.mismatch left)) s =
      if n < 20 then .next ((s.updStore (·.leave left job)).nextAttempt job n)
      else .next ((s.updStore (·.leave left job)).writeFailed job) := by
  show execStoreWriteAttemptDone (.mismatch left) s = _
  unfold execStoreWriteAttemptDone
  rw [running]
  exact if_neg (by rw [up, write]; decide)

theorem Job.class_eq_one : job.class = 1 ↔ ∃ b, job = .save b := by
  cases job with
  | save b => exact ⟨fun _ => ⟨b, rfl⟩, fun _ => rfl⟩
  | _ => simp [Job.class]

/-- A job that no queued save preempts goes on with its next attempt (R134, R135). -/
theorem State.nextAttempt_goesOn (n : Nat) (empty : s.rsc.saveQueue = none) (other : job.class ≠ 1) :
    s.nextAttempt job n = (if n = 0 then s else s.countRetry).updRsc fun r => { r with
      running := some ⟨job, n + 1⟩ } := by
  unfold State.nextAttempt
  rw [empty]
  cases job with
  | save b => exact absurd rfl other
  | _ => rfl

theorem State.nextAttempt_retries (first : 1 ≤ n) (free : s.rsc.saveQueue = none ∨ job.class = 1) :
    s.nextAttempt job n = s.countRetry.updRsc fun r => { r with running := some ⟨job, n + 1⟩ } := by
  by_cases save : job.class = 1
  · obtain ⟨b, rfl⟩ := Job.class_eq_one.1 save
    rfl
  · rw [State.nextAttempt_goesOn n (free.resolve_right save) save, if_neg (Nat.ne_of_gt first)]

theorem State.nextAttempt_preempted (called : s.rsc.saveQueue ≠ none) (other : job.class ≠ 1) :
    s.nextAttempt job n = s.preempt ⟨job, n⟩ := by
  obtain ⟨j, save⟩ := Option.ne_none_iff_exists'.1 called
  unfold State.nextAttempt
  rw [save]
  cases job with
  | save b => exact absurd rfl other
  | _ => rfl

/-! ## Failures that take the part to HALTED -/

/-- The part has entered HALTED over the store `st`, its accounts standing (R148). -/
def State.Halts (s : State) (st : Store) (t : State) : Prop :=
  t.rsc.halted = true ∧ t.rsc.running = none ∧ t.wa.processing = none ∧ t.cu.sources[0] = true ∧
    t.store = st ∧ t.ia = s.ia

theorem State.enterHalted_halts (work : s.rsc.halted = false) (idle : s.rsc.running = none) :
    s.Halts s.store s.enterHalted := by
  obtain ⟨halted, fatal, wa⟩ := State.enterHalted_entered work
  exact ⟨halted, (State.enterHalted_idles idle).1, by rw [wa], fatal, by simp, by simp⟩

theorem State.blockFailed_halts {c : RegContent} (work : s.rsc.halted = false)
    (taken : ∀ i : SpareId, s.rsc.map.spares[i] ≠ .free) : s.Halts s.store (s.blockFailed c) := by
  have none : (List.finRange 4).find? (fun i => s.rsc.map.spares[i] == .free) = none :=
    List.find?_eq_none.2 fun i _ => by simp only [beq_iff_eq]; exact taken i
  unfold State.blockFailed
  rw [none]
  exact State.enterHalted_halts (s := s.jobEnds) work rfl

theorem State.slotFailed_halts {q : IntervalRecord} {slot : Nat} (work : s.rsc.halted = false)
    (full : 64 ≤ s.rsc.map.badSlots.length) : s.Halts s.store (s.slotFailed q slot) := by
  unfold State.slotFailed
  rw [if_pos (show s.rsc.map.badSlots.length ≥ Config.badSlotPlaces from full)]
  exact State.enterHalted_halts (s := s.jobEnds.updRsc fun r => { r with recordQueue := q :: r.recordQueue }) work rfl

/-! ## Failures that move the write to another unit -/

/-- The part goes on over the store `st`, its accounts standing, and the store map is to be written (R138,
R139). -/
def State.GoesOn (s : State) (st : Store) (t : State) : Prop :=
  t.rsc.halted = false ∧ t.store = st ∧ t.ia = s.ia ∧ ∃ j ∈ t.rsc.configQueue, j.content.table = .patrol

/-- The spares once account `a` has moved to spare `i` (R139). -/
theorem StoreMap.assign_spares (i j : SpareId) (a : AccountId) (m : StoreMap) : (m.assign i a).spares[j] =
    if j = i then .assigned a else if m.spares[j] = .assigned a then .retired else m.spares[j] :=
  Vector.getElem_ofFn j.isLt

/-- The part before the block is written to spare `i` (R139). -/
def State.moved (s : State) (i : SpareId) (a : AccountId) : State :=
  (s.updRsc fun r => { r with map := r.map.assign i a }).handConfig .patrol

theorem lowest_free {i : SpareId} {m : StoreMap} (free : m.spares[i] = .free)
    (lowest : ∀ j : SpareId, j < i → m.spares[j] ≠ .free) :
    (List.finRange 4).find? (fun i => m.spares[i] == .free) = some i := by
  refine List.find?_eq_some_iff_getElem.2 ⟨beq_iff_eq.2 free, i.val, by simp, by simp, fun j below => ?_⟩
  rw [Bool.not_eq_true', List.getElem_finRange]
  exact beq_eq_false_iff_ne.2 (lowest _ below)

theorem State.blockFailed_moves {c : RegContent} {i : SpareId} (empty : s.rsc.saveQueue = none)
    (free : s.rsc.map.spares[i] = .free) (lowest : ∀ j : SpareId, j < i → s.rsc.map.spares[j] ≠ .free) :
    s.blockFailed c = (s.moved i c.account).updRsc fun r => { r with running := some ⟨.block c (.spare i), 1⟩ } := by
  unfold State.blockFailed
  rw [lowest_free free lowest]
  exact State.nextAttempt_goesOn (s := s.moved i c.account) 0 empty (mt Job.class_eq_one.1 fun ⟨_, h⟩ => nomatch h)

/-- The part before the record is written to the next slot (R138). -/
def State.slotDropped (s : State) (slot : Nat) : State :=
  ((s.updRsc fun r => { r with map := { r.map with badSlots := r.map.badSlots ++ [slot] } }).updRsc
    Controller.makeRoom).handConfig .patrol

theorem Controller.makeRoom_eq (r : Controller) : r.makeRoom = { r with oldest := r.makeRoom.oldest } := by
  unfold Controller.makeRoom
  split <;> rfl

theorem State.slotDropped_rsc (slot : Nat) (s : State) : (s.slotDropped slot).rsc = { s.rsc with
    map := { s.rsc.map with badSlots := s.rsc.map.badSlots ++ [slot] }
    oldest := (s.slotDropped slot).rsc.oldest
    configQueue := (s.slotDropped slot).rsc.configQueue } := by
  unfold State.slotDropped State.handConfig State.updRsc
  dsimp only
  rw [Controller.makeRoom_eq]

theorem State.slotFailed_moves {q : IntervalRecord} {slot : Nat} (empty : s.rsc.saveQueue = none)
    (places : s.rsc.map.badSlots.length < 64) : s.slotFailed q slot = (s.slotDropped slot).updRsc fun r => { r with
      running := some ⟨.record q ((s.slotDropped slot).rsc.map.goodFrom (slot + 1)), 1⟩ } := by
  have kept : (s.slotDropped slot).rsc.saveQueue = none := by
    rw [s.slotDropped_rsc slot]
    exact empty
  have map : (s.slotDropped slot).rsc.map = { s.rsc.map with badSlots := s.rsc.map.badSlots ++ [slot] } := by
    rw [s.slotDropped_rsc slot]
  unfold State.slotFailed
  rw [if_neg (show ¬ s.rsc.map.badSlots.length ≥ Config.badSlotPlaces from Nat.not_le.2 places)]
  exact State.nextAttempt_goesOn (s := s.slotDropped slot) 0 kept (mt Job.class_eq_one.1 fun ⟨_, h⟩ => nomatch h)

/-! ## A save that fails -/

/-- A save that has failed is remembered and counted, and the save block holds nothing usable (R140, R149). -/
theorem State.saveWriteFailed_failed (b : SaveBlock) (s : State) :
    (s.saveWriteFailed b).rsc.saveFailed = true ∧ (s.saveWriteFailed b).store = { s.store with save := none } ∧
      (s.saveWriteFailed b).rsc.running = none ∧ (s.saveWriteFailed b).rsc.counters =
        { s.rsc.counters with saveFailures := countUp s.rsc.counters.saveFailures } := by
  have store : (s.saveWriteFailed b).store = { s.store with save := none } :=
    (State.saveWriteFailed_frame b s).2.2.2.2.2.2.2.2.2.1
  cases b with
  | saved saved =>
    obtain ⟨running, counters, -, failed⟩ := State.saveComplete_idles
      (s := ((s.updStore (·.tear (.save (.saved saved)))).jobEnds.updRsc fun r => { r with
        saveFailed := true }).updStoreCounters fun c => { c with saveFailures := countUp c.saveFailures })
      false saved.time rfl
    exact ⟨failed, store, running, counters⟩
  | _ => exact ⟨rfl, store, rfl, rfl⟩

/-! ## The state of the part after each failure -/

theorem State.moved_goesOn {i : SpareId} {a : AccountId} (job : Option ActiveJob) (work : s.rsc.halted = false) :
    s.GoesOn s.store ((s.moved i a).updRsc fun r => { r with running := job }) :=
  ⟨work, rfl, rfl, _, joinConfig_self _ _, rfl⟩

theorem State.slotDropped_goesOn (slot : Nat) (job : Option ActiveJob) (work : s.rsc.halted = false) :
    s.GoesOn s.store ((s.slotDropped slot).updRsc fun r => { r with running := job }) := by
  have halted : (s.slotDropped slot).rsc.halted = false := by
    rw [s.slotDropped_rsc slot]
    exact work
  have store : (s.slotDropped slot).store = s.store := rfl
  have ia : (s.slotDropped slot).ia = s.ia := rfl
  obtain ⟨j, mem, patrol⟩ : ∃ j ∈ (s.slotDropped slot).rsc.configQueue, j.content.table = .patrol :=
    ⟨_, joinConfig_self _ _, rfl⟩
  generalize s.slotDropped slot = t at halted store ia mem ⊢
  exact ⟨halted, store, ia, j, mem, patrol⟩

/-- The record goes to the next slot that is not bad, the failed one listed (R138). -/
theorem State.slotFailed_goesOn {q : IntervalRecord} {slot : Nat} (empty : s.rsc.saveQueue = none)
    (work : s.rsc.halted = false) (places : s.rsc.map.badSlots.length < 64) :
    s.GoesOn s.store (s.slotFailed q slot) ∧
      (s.slotFailed q slot).rsc.map.badSlots = s.rsc.map.badSlots ++ [slot] ∧
      (s.slotFailed q slot).rsc.running =
        some ⟨.record q ((s.slotFailed q slot).rsc.map.goodFrom (slot + 1)), 1⟩ := by
  have bad : (s.slotDropped slot).rsc.map.badSlots = s.rsc.map.badSlots ++ [slot] := by rw [s.slotDropped_rsc slot]
  rw [State.slotFailed_moves empty places]
  refine ⟨State.slotDropped_goesOn slot _ work, ?_⟩
  generalize s.slotDropped slot = t at bad ⊢
  exact ⟨bad, rfl⟩

end

/-- Settles O59: the next attempt by what is queued, and the failure by the kind of the unit. -/
theorem writeMismatches : Obligations.WriteMismatches := by
  unfold Obligations.WriteMismatches
  intro s job n left up running write
  dsimp only
  rw [exec_storeWriteAttemptDone_mismatch left up running write]
  refine ⟨fun first below => ⟨fun free => ?_, fun called other => ?_⟩, fun last work empty => ?_⟩
  · rw [if_pos below, State.nextAttempt_retries (s := s.updStore (·.leave left job)) first free]
    rfl
  · rw [if_pos below, State.nextAttempt_preempted (s := s.updStore (·.leave left job)) called other]
    rfl
  subst last
  rw [if_neg (Nat.lt_irrefl 20)]
  refine ⟨?_, ?_, ?_, ?_, ?_, ?_⟩
  · rintro c g rfl
    exact ⟨_, rfl, State.enterHalted_halts (s := (s.updStore (·.leave left (.config c g))).jobEnds) work rfl⟩
  · rintro c loc rfl taken
    exact ⟨_, rfl, State.blockFailed_halts (s := s.updStore (·.leave left (.block c loc))) work taken⟩
  · rintro c loc i rfl free lowest
    refine ⟨_, congrArg _ (State.blockFailed_moves (s := s.updStore (·.leave left (.block c loc))) empty free lowest),
      State.moved_goesOn (s := s.updStore (·.leave left (.block c loc))) _ work, rfl, ?_, fun j other => ?_⟩
    · exact (StoreMap.assign_spares i i _ _).trans (if_pos rfl)
    · exact (StoreMap.assign_spares i j _ _).trans (if_neg other)
  · rintro q slot rfl full
    exact ⟨_, rfl, State.slotFailed_halts (s := s.updStore (·.leave left (.record q slot))) work full⟩
  · rintro q slot rfl places
    exact ⟨_, rfl, State.slotFailed_goesOn (s := s.updStore (·.leave left (.record q slot))) empty work places⟩
  · rintro b rfl
    obtain ⟨failed, store, idle, counters⟩ := (s.updStore (·.leave left (.save b))).saveWriteFailed_failed b
    exact ⟨_, rfl, failed, store, idle, counters⟩

end Sys2Proof.Machine
end

section
/-! Settling O60: the patrol's steps and reads (R134, R143 to R145, R149). -/

namespace Sys2Proof.Machine

section
variable {s : State}

/-! ## A step that falls due -/

theorem State.advance_rsc {dt : Nat} (powered : s.powered = true) :
    (s.advance dt).rsc = { s.rsc with patrolTimer := s.rsc.patrolTimer - dt } := by
  unfold State.advance
  rw [if_pos powered]
  split <;> rfl

theorem exec_patrolStepDue (up : s.powered = true) (work : s.rsc.halted = false) (serving : s.mlc.resetTaken = false) :
    exec .patrolStepDue s = .next ((s.advance s.rsc.patrolTimer).updRsc fun r => { r with
      patrolTimer := (s.advance s.rsc.patrolTimer).patrolInterval, patrolQueued := true }) :=
  if_neg (by rw [up, work, serving]; decide)

/-- Time leaves the step interval of the patrol as it is (R143). -/
theorem State.advance_patrolInterval {dt : Nat} (powered : s.powered = true) :
    (s.advance dt).patrolInterval = s.patrolInterval := by
  unfold State.patrolInterval
  rw [State.advance_rsc powered, show (s.advance dt).cm = s.cm by simp]

/-! ## The end of a step -/

/-- The store controller after a step that checked unit `u` (R143 to R145). -/
def Controller.stepped (u : PatrolPos) (mismatch : Bool) (r : Controller) : Controller :=
  { r with
    running := none
    counters := { r.counters with patrolSteps := countUp r.counters.patrolSteps }
    history := historyStep mismatch r.history
    alert := alertStep mismatch r.history r.alert
    patrolPos := r.positionAfter u }

theorem Controller.positionAfter_congr {r q : Controller} (u : PatrolPos) (oldest : q.oldest = r.oldest)
    (newest : q.newest = r.newest) : q.positionAfter u = r.positionAfter u := by
  have record (n : Nat) : q.patrolRecord n = r.patrolRecord n := by
    unfold Controller.patrolRecord
    rw [oldest, newest]
  cases u with
  | record n => simp only [Controller.positionAfter, newest]
  | _ => simp only [Controller.positionAfter, Controller.roundFrom, record, oldest]

theorem State.stepEnds_eq (u : PatrolPos) (mismatch : Bool) (s : State) : s.stepEnds u mismatch = { s with
    rsc := s.rsc.stepped u mismatch
    cu := s.cu.give s.cm.tables.notice .storeAlert (alertStep mismatch s.rsc.history s.rsc.alert) } := by
  unfold State.stepEnds Controller.stepped
  rw [show s.rsc.positionAfter u = s.jobEnds.rsc.positionAfter u from
    (Controller.positionAfter_congr u rfl rfl).symm]
  rfl

/-- When STORE-ALERT stands after a step (R145). -/
theorem alertStep_iff (lasting : Bool) (history : List Nat) (alert : Bool) :
    alertStep lasting history alert = true ↔
      if lasting then alert = true ∨ 2 ≤ ((history.map (· + 1)).filter (· ≤ 1023)).length
      else alert = true ∧ ∃ d ∈ history.map (· + 1), d < 1024 := by
  have span (l : List Nat) : l.filter (· ≤ 1023) = l.filter (· < Config.alertSpan) :=
    List.filter_congr fun d _ => decide_eq_decide.2 Nat.lt_succ_iff.symm
  cases lasting with
  | true => rw [if_pos rfl, span]; simp [alertStep]
  | false =>
    rw [if_neg Bool.false_ne_true]
    simp only [alertStep, Bool.false_eq_true, if_false, Bool.and_eq_true, List.any_eq_true, decide_eq_true_eq]
    exact Iff.rfl

/-- What a step that checked unit `u` leaves, `c` being the counters that its read counted in (R143 to R145). -/
def State.PatrolMoved (s : State) (u : PatrolPos) (lasting : Bool) (c : StoreCounters) (t : State) : Prop :=
  t.rsc = { s.rsc with
    running := none, patrolPos := s.rsc.positionAfter u
    counters := { c with patrolSteps := countUp s.rsc.counters.patrolSteps }
    history := if lasting then (0 :: s.rsc.history.map (· + 1)).take 2 else s.rsc.history.map (· + 1)
    alert := t.rsc.alert, blockQueue := t.rsc.blockQueue, configQueue := t.rsc.configQueue } ∧
  (t.rsc.alert = true ↔
    if lasting then s.rsc.alert = true ∨ 2 ≤ ((s.rsc.history.map (· + 1)).filter (· ≤ 1023)).length
    else s.rsc.alert = true ∧ ∃ d ∈ s.rsc.history.map (· + 1), d < 1024) ∧
  t.cu.sources[10] = t.rsc.alert ∧
  t = { s with store := t.store, rsc := t.rsc, cu := t.cu }

theorem State.PatrolMoved.of_eq {u : PatrolPos} {lasting : Bool} {c : StoreCounters} {st : Store}
    {blocks : List RegContent} {configs : List ConfigJob} {cu : ConditionUnit}
    (source : cu.sources[10] = alertStep lasting s.rsc.history s.rsc.alert) : s.PatrolMoved u lasting c { s with
      store := st, cu := cu
      rsc := { s.rsc.stepped u lasting with
        counters := { c with patrolSteps := countUp s.rsc.counters.patrolSteps }
        blockQueue := blocks, configQueue := configs } } := by
  refine ⟨?_, alertStep_iff _ _ _, source, rfl⟩
  unfold Controller.stepped historyStep
  rfl

/-- STORE-ALERT's source as a step leaves it, in the condition unit `cu` (R145). -/
def State.alertGiven (s : State) (lasting : Bool) : ConditionUnit :=
  s.cu.give s.cm.tables.notice .storeAlert (alertStep lasting s.rsc.history s.rsc.alert)

theorem State.alertGiven_source (lasting : Bool) (s : State) :
    (s.alertGiven lasting).sources[10] = alertStep lasting s.rsc.history s.rsc.alert :=
  ConditionUnit.give_source s.cm.tables.notice .storeAlert _ s.cu

/-! ## The reads -/

theorem exec_patrolReadDone {u : PatrolPos} {second : Bool} {n : Nat} (agrees : Bool) (up : s.powered = true)
    (running : s.rsc.running = some ⟨.patrol u second, n⟩) : exec (.patrolReadDone agrees) s =
      if agrees && s.unitIntact u then
        if second then
          .next ((s.updStoreCounters fun c => { c with transients := countUp c.transients }).stepEnds u false)
        else .next (s.stepEnds u false)
      else if second then .next (((s.spoil u).stepEnds u true).repair u)
      else if s.rsc.saveQueue.isSome then .next (s.preempt ⟨.patrol u true, n⟩)
      else .next (s.updRsc fun r => { r with running := some ⟨.patrol u true, n⟩ }) := by
  show execPatrolReadDone agrees s = _
  unfold execPatrolReadDone
  rw [running]
  exact if_neg (by rw [up]; decide)

/-- A read that agrees ends the step; one that agrees after a mismatch is counted as transient (R144). -/
theorem State.agreed_moved (u : PatrolPos) (c : StoreCounters) (steps : c.patrolSteps = s.rsc.counters.patrolSteps) :
    ∃ t, (s.updStoreCounters fun _ => c).stepEnds u false = t ∧ t.store = s.store ∧
      t.rsc.blockQueue = s.rsc.blockQueue ∧ t.rsc.configQueue = s.rsc.configQueue ∧ s.PatrolMoved u false c t := by
  have ends : (s.updStoreCounters fun _ => c).stepEnds u false = { s with
      cu := s.alertGiven false
      rsc := { s.rsc.stepped u false with
        counters := { c with patrolSteps := countUp s.rsc.counters.patrolSteps } } } := by
    rw [State.stepEnds_eq, ← steps]
    unfold Controller.stepped
    rw [Controller.positionAfter_congr (r := s.rsc) u rfl rfl]
    rfl
  exact ⟨_, ends, rfl, rfl, rfl, .of_eq (st := s.store) (blocks := s.rsc.blockQueue)
    (configs := s.rsc.configQueue) (s.alertGiven_source false)⟩

theorem State.spoil_eq (u : PatrolPos) (s : State) : s.spoil u = { s with store := (s.spoil u).store } := by
  cases u with
  | record q =>
    unfold State.spoil
    dsimp only
    split <;> rfl
  | _ => rfl

/-- The part after a step that found unit `u` not to match twice, before the repair (R144). -/
theorem State.spoiled_stepEnds (u : PatrolPos) (s : State) : (s.spoil u).stepEnds u true = { s with
    store := (s.spoil u).store, cu := s.alertGiven true, rsc := s.rsc.stepped u true } := by
  have kept := s.spoil_eq u
  generalize (s.spoil u).store = st at kept ⊢
  rw [kept, State.stepEnds_eq]
  rfl

/-- The condition unit after a STORE-REPAIR pulse in the step that raised it (R144, R145). -/
def State.repairPulsed (s : State) : ConditionUnit :=
  (s.alertGiven true).rise s.cm.tables.notice.masked .storeRepair

theorem State.repairPulsed_source (s : State) :
    s.repairPulsed.sources[10] = alertStep true s.rsc.history s.rsc.alert := by
  rw [State.repairPulsed, ConditionUnit.rise_sources]
  exact s.alertGiven_source true

theorem State.repairPulsed_flag (s : State) : s.repairPulsed.flags[11] = true :=
  ConditionUnit.rise_flag s.cm.tables.notice.masked .storeRepair (s.alertGiven true)

/-- An account's block image is queued again (R144). -/
theorem State.repair_account (a : AccountId) (s : State) :
    ((s.spoil (.account a)).stepEnds (.account a) true).repair (.account a) = { s with
      store := s.store.setBlock (s.rsc.map.blockOf a) none, cu := s.repairPulsed
      rsc := { s.rsc.stepped (.account a) true with
        counters := { s.rsc.counters with
          repairs := countUp s.rsc.counters.repairs, patrolSteps := countUp s.rsc.counters.patrolSteps }
        blockQueue := joinBlock s.rsc.images[a] s.rsc.blockQueue } } := by
  rw [State.spoiled_stepEnds]
  rfl

theorem State.contentOf_stepped (x : TableId) (u : PatrolPos) (st : Store) (cu : ConditionUnit) (s : State) :
    State.contentOf { s with store := st, cu := cu, rsc := s.rsc.stepped u true } x = s.contentOf x := by
  cases x <;> rfl

/-- The configuration table is queued again (R144). -/
theorem State.repair_config (x : TableId) (s : State) :
    ((s.spoil (.config x)).stepEnds (.config x) true).repair (.config x) = { s with
      store := { s.store with config := s.store.config.set x.idx none }, cu := s.repairPulsed
      rsc := { s.rsc.stepped (.config x) true with
        counters := { s.rsc.counters with
          repairs := countUp s.rsc.counters.repairs, patrolSteps := countUp s.rsc.counters.patrolSteps }
        configQueue := joinConfig ⟨s.contentOf x, s.cm.generation⟩ s.rsc.configQueue } } := by
  rw [State.spoiled_stepEnds, ← State.contentOf_stepped x (.config x)
    { s.store with config := s.store.config.set x.idx none } (s.alertGiven true) s]
  cases x <;> rfl

/-- A record is counted as an error (R144). -/
theorem State.repair_record (q : Nat) (s : State) :
    ((s.spoil (.record q)).stepEnds (.record q) true).repair (.record q) = { s with
      store := (s.spoil (.record q)).store, cu := s.alertGiven true
      rsc := { s.rsc.stepped (.record q) true with
        counters := { s.rsc.counters with
          recordErrors := countUp s.rsc.counters.recordErrors
          patrolSteps := countUp s.rsc.counters.patrolSteps } } } := by
  rw [State.spoiled_stepEnds]
  rfl

theorem State.spoil_record_none {q : Nat} (none : s.store.findRecord s.rsc.map.badSlots q = none) :
    (s.spoil (.record q)).store = s.store := by
  simp only [State.spoil, none]

theorem State.spoil_record_some {q slot : Nat} {r : IntervalRecord}
    (found : s.store.findRecord s.rsc.map.badSlots q = some (slot, r)) :
    (s.spoil (.record q)).store = { s.store with slots := eraseSlot slot s.store.slots } := by
  simp only [State.spoil, found]
  rfl

end

/-- Settles O60: the step that falls due, and the read by its outcome and the kind of its unit. -/
theorem patrolChecks : Obligations.PatrolChecks := by
  unfold Obligations.PatrolChecks
  intro s up
  dsimp only
  refine ⟨fun work serving => ?_, fun u second agrees n running => ⟨fun agree intact => ?_, fun fails => ?_⟩⟩
  · have interval := State.advance_patrolInterval (dt := s.rsc.patrolTimer) up
    have rsc := State.advance_rsc (dt := s.rsc.patrolTimer) up
    have time := State.advance_timeBase (dt := s.rsc.patrolTimer) up
    refine ⟨_, exec_patrolStepDue up work serving, rfl, interval, time, rfl, ?_⟩
    generalize s.advance s.rsc.patrolTimer = t at rsc ⊢
    show ({ t.rsc with patrolTimer := t.patrolInterval, patrolQueued := true } : Controller) = _
    rw [rsc]
    rfl
  · have both : (agrees && s.unitIntact u) = true := by rw [agree, intact]; rfl
    rw [exec_patrolReadDone agrees up running, if_pos both, both, Bool.not_true, Bool.and_false]
    cases second with
    | true =>
      obtain ⟨t, ends, moved⟩ := s.agreed_moved u
        { s.rsc.counters with transients := countUp s.rsc.counters.transients } rfl
      exact ⟨t, congrArg Host.Outcome.next ends, moved⟩
    | false =>
      obtain ⟨t, ends, moved⟩ := s.agreed_moved u s.rsc.counters rfl
      exact ⟨t, congrArg Host.Outcome.next ends, moved⟩
  · have not_both : (agrees && s.unitIntact u) = false := by
      rcases fails with no | no
      · rw [no, Bool.false_and]
      · rw [no, Bool.and_false]
    rw [exec_patrolReadDone agrees up running, not_both, if_neg Bool.false_ne_true, Bool.not_false, Bool.and_true]
    refine ⟨fun first empty => ?_, fun first called => ?_, fun last => ?_⟩
    · rw [if_neg (by rw [first]; decide), if_neg (by rw [empty]; decide)]
      rfl
    · rw [if_neg (by rw [first]; decide), if_pos (Option.isSome_iff_ne_none.2 called)]
      rfl
    · subst last
      rw [if_pos rfl]
      refine ⟨_, rfl, ?_, ?_, ?_⟩
      · rintro a rfl
        rw [State.repair_account]
        exact ⟨rfl, rfl, rfl, s.repairPulsed_flag, State.PatrolMoved.of_eq (blocks := joinBlock s.rsc.images[a] s.rsc.blockQueue)
          (configs := s.rsc.configQueue) (c := { s.rsc.counters with repairs := countUp s.rsc.counters.repairs })
          s.repairPulsed_source⟩
      · rintro x rfl
        rw [State.repair_config]
        exact ⟨rfl, rfl, rfl, s.repairPulsed_flag, State.PatrolMoved.of_eq (blocks := s.rsc.blockQueue)
          (configs := joinConfig ⟨s.contentOf x, s.cm.generation⟩ s.rsc.configQueue)
          (c := { s.rsc.counters with repairs := countUp s.rsc.counters.repairs }) s.repairPulsed_source⟩
      · rintro q rfl
        rw [State.repair_record]
        exact ⟨State.spoil_record_none, fun slot r => State.spoil_record_some, rfl, rfl,
          State.PatrolMoved.of_eq (blocks := s.rsc.blockQueue) (configs := s.rsc.configQueue)
            (c := { s.rsc.counters with recordErrors := countUp s.rsc.counters.recordErrors })
            (s.alertGiven_source true)⟩

end Sys2Proof.Machine
end

section
/-! What the start-up load finds in a store: tables, generation, store map and log (R146, R147, R152). -/

namespace Sys2Proof.Machine

/-! ## Tables -/

theorem Store.configBlock_table {st : Store} {x : TableId} {b : ConfigBlock} (block : st.configBlock x = some b) :
    b.content.table = x := by
  unfold Store.configBlock at block
  split at block
  · split at block
    next named => exact Option.some.inj block ▸ named
    next => cases block
  · cases block

/-- The manager with the usable blocks of the tables `ts` taken (R146). -/
def Store.loadTables (st : Store) (ts : List TableId) (m : Manager) : Manager :=
  (ts.filterMap st.configBlock).foldl (fun m b => m.load b.content) m

theorem Store.loadTables_none {st : Store} {x : TableId} (ts : List TableId) (m : Manager)
    (none : st.configBlock x = none) : st.loadTables (x :: ts) m = st.loadTables ts m := by
  unfold Store.loadTables
  rw [List.filterMap_cons_none none]

theorem Store.loadTables_some {st : Store} {x : TableId} {b : ConfigBlock} (ts : List TableId) (m : Manager)
    (block : st.configBlock x = some b) : st.loadTables (x :: ts) m = st.loadTables ts (m.load b.content) := by
  unfold Store.loadTables
  rw [List.filterMap_cons_some block, List.foldl_cons]

section
variable {α : Type} {x : TableId} {get : Manager → α} {pick : ConfigContent → Option α} {st : Store}

/-- A part of the working copy that only the block of `x` gives stands where no such block is taken. -/
theorem Store.loadTables_other (other : ∀ c m, ConfigContent.table c ≠ x → get (Manager.load c m) = get m)
    (ts : List TableId) (m : Manager) (absent : x ∉ ts ∨ st.configBlock x = none) :
    get (st.loadTables ts m) = get m := by
  induction ts generalizing m with
  | nil => rfl
  | cons y ts ih =>
    have later : x ∉ ts ∨ st.configBlock x = none := absent.imp (mt (List.mem_cons_of_mem y)) id
    cases block : st.configBlock y with
    | none => rw [Store.loadTables_none ts m block, ih m later]
    | some b =>
      rw [Store.loadTables_some ts m block, ih _ later]
      refine other _ _ fun named => ?_
      have same : y = x := (Store.configBlock_table block).symm.trans named
      rcases absent with out | none
      · exact out (same ▸ List.mem_cons_self)
      · exact nomatch (same ▸ block).symm.trans none

theorem Store.loadTables_own (own : ∀ c m, ConfigContent.table c = x → pick c = some (get (Manager.load c m)))
    (other : ∀ c m, ConfigContent.table c ≠ x → get (Manager.load c m) = get m) {b : ConfigBlock}
    (ts : List TableId) (m : Manager) (mem : x ∈ ts) (block : st.configBlock x = some b) :
    pick b.content = some (get (st.loadTables ts m)) := by
  induction ts generalizing m with
  | nil => cases mem
  | cons y ts ih =>
    by_cases later : x ∈ ts
    · cases first : st.configBlock y with
      | none => rw [Store.loadTables_none ts m first]; exact ih _ later
      | some c => rw [Store.loadTables_some ts m first]; exact ih _ later
    · obtain rfl : x = y := (List.mem_cons.1 mem).resolve_right later
      rw [Store.loadTables_some ts m block, Store.loadTables_other other ts _ (.inl later)]
      exact own _ _ (Store.configBlock_table block)

theorem TableId.mem_all (x : TableId) : x ∈ TableId.all := by
  cases x <;> decide

theorem Store.gives_load (own : ∀ c m, ConfigContent.table c = x → pick c = some (get (Manager.load c m)))
    (other : ∀ c m, ConfigContent.table c ≠ x → get (Manager.load c m) = get m) :
    st.gives x pick (get Manager.blank) (get (st.loadTables TableId.all Manager.blank)) := by
  unfold Store.gives
  split
  next b block => exact Store.loadTables_own own other _ _ (TableId.mem_all x) block
  next none => exact Store.loadTables_other other _ _ (.inr none)

end

/-- Every table is given by its block or by its defaults (R146). -/
theorem Store.givesTables_load (st : Store) : st.givesTables st.loadManager.tables st.loadManager.stored := by
  refine ⟨?_, ?_, ?_, ?_, ?_, ?_, ?_, ?_, ?_, ?_⟩
  · refine Store.gives_load (get := fun m => m.tables.links) (fun c m own => ?_) fun c m other => ?_
    · cases c with
      | links t => rfl
      | _ => exact nomatch own
    · cases c with
      | links t => exact absurd rfl other
      | _ => rfl
  · refine Store.gives_load (get := fun m => (m.tables.points, m.stored)) (fun c m own => ?_) fun c m other => ?_
    · cases c with
      | points t u => rfl
      | _ => exact nomatch own
    · cases c with
      | points t u => exact absurd rfl other
      | _ => rfl
  · refine Store.gives_load (get := fun m => m.tables.breakers) (fun c m own => ?_) fun c m other => ?_
    · cases c with
      | breakers t => rfl
      | _ => exact nomatch own
    · cases c with
      | breakers t => exact absurd rfl other
      | _ => rfl
  · refine Store.gives_load (get := fun m => m.tables.topology) (fun c m own => ?_) fun c m other => ?_
    · cases c with
      | topology t => rfl
      | _ => exact nomatch own
    · cases c with
      | topology t => exact absurd rfl other
      | _ => rfl
  · refine Store.gives_load (get := fun m => m.tables.composition) (fun c m own => ?_) fun c m other => ?_
    · cases c with
      | composition t => rfl
      | _ => exact nomatch own
    · cases c with
      | composition t => exact absurd rfl other
      | _ => rfl
  · refine Store.gives_load (get := fun m => m.tables.bands) (fun c m own => ?_) fun c m other => ?_
    · cases c with
      | bands t => rfl
      | _ => exact nomatch own
    · cases c with
      | bands t => exact absurd rfl other
      | _ => rfl
  · refine Store.gives_load (get := fun m => m.tables.contract) (fun c m own => ?_) fun c m other => ?_
    · cases c with
      | contract t u v => rfl
      | _ => exact nomatch own
    · cases c with
      | contract t u v => exact absurd rfl other
      | _ => rfl
  · refine Store.gives_load (get := fun m => m.tables.health) (fun c m own => ?_) fun c m other => ?_
    · cases c with
      | health t => rfl
      | _ => exact nomatch own
    · cases c with
      | health t => exact absurd rfl other
      | _ => rfl
  · refine Store.gives_load (get := fun m => m.tables.notice) (fun c m own => ?_) fun c m other => ?_
    · cases c with
      | notice t => rfl
      | _ => exact nomatch own
    · cases c with
      | notice t => exact absurd rfl other
      | _ => rfl
  · refine Store.gives_load (get := fun m => m.tables.patrol) (fun c m own => ?_) fun c m other => ?_
    · cases c with
      | patrol t u => rfl
      | _ => exact nomatch own
    · cases c with
      | patrol t u => exact absurd rfl other
      | _ => rfl

/-- The stored mode and lock are the CONTRACT block's, or the defaults (R152). -/
theorem Store.givesMode_load (st : Store) : st.givesMode st.loadManager.mode st.loadManager.locked := by
  refine Store.gives_load (get := fun m => (m.mode, m.locked)) (fun c m own => ?_) fun c m other => ?_
  · cases c with
    | contract t u v => rfl
    | _ => exact nomatch own
  · cases c with
    | contract t u v => exact absurd rfl other
    | _ => rfl

/-- The load gives the manager its tables, stored values, generation, mode and lock, and nothing else. -/
theorem Manager.load_blank (c : ConfigContent) (m : Manager)
    (blank : m = { Manager.blank with tables := m.tables, stored := m.stored, mode := m.mode, locked := m.locked }) :
    m.load c = { Manager.blank with
      tables := (m.load c).tables, stored := (m.load c).stored, mode := (m.load c).mode
      locked := (m.load c).locked } := by
  rw [blank]
  cases c <;> rfl

theorem Store.loadTables_blank (st : Store) (ts : List TableId) {m : Manager}
    (blank : m = { Manager.blank with tables := m.tables, stored := m.stored, mode := m.mode, locked := m.locked }) :
    st.loadTables ts m = { Manager.blank with
      tables := (st.loadTables ts m).tables, stored := (st.loadTables ts m).stored
      mode := (st.loadTables ts m).mode, locked := (st.loadTables ts m).locked } := by
  induction ts generalizing m with
  | nil => exact blank
  | cons y ts ih =>
    cases block : st.configBlock y with
    | none => rw [Store.loadTables_none ts m block]; exact ih blank
    | some b => rw [Store.loadTables_some ts m block]; exact ih (Manager.load_blank _ _ blank)

theorem Store.loadManager_blank (st : Store) : st.loadManager = { Manager.blank with
    tables := st.loadManager.tables, stored := st.loadManager.stored, generation := st.highestGeneration
    mode := st.loadManager.mode, locked := st.loadManager.locked } :=
  congrArg (fun m : Manager => { m with generation := st.highestGeneration }) (st.loadTables_blank TableId.all rfl)

/-! ## Greatest and least -/

theorem le_foldl_max {α : Type} (f : α → Nat) (l : List α) (n : Nat) :
    n ≤ l.foldl (fun k x => max k (f x)) n ∧ ∀ x ∈ l, f x ≤ l.foldl (fun k x => max k (f x)) n := by
  induction l generalizing n with
  | nil => exact ⟨Nat.le_refl n, fun x mem => nomatch mem⟩
  | cons y l ih =>
    obtain ⟨start, rest⟩ := ih (max n (f y))
    refine ⟨(Nat.le_max_left n (f y)).trans start, fun x mem => ?_⟩
    rcases List.mem_cons.1 mem with rfl | mem
    · exact (Nat.le_max_right n (f x)).trans start
    · exact rest x mem

theorem foldl_max_le {α : Type} {f : α → Nat} {l : List α} {n m : Nat} (start : n ≤ m) (all : ∀ x ∈ l, f x ≤ m) :
    l.foldl (fun k x => max k (f x)) n ≤ m := by
  induction l generalizing n with
  | nil => exact start
  | cons y l ih =>
    exact ih (Nat.max_le.2 ⟨start, all y List.mem_cons_self⟩) fun x mem => all x (List.mem_cons_of_mem y mem)

theorem foldl_max_mem {α : Type} (f : α → Nat) (l : List α) (n : Nat) :
    l.foldl (fun k x => max k (f x)) n = n ∨ ∃ x ∈ l, f x = l.foldl (fun k x => max k (f x)) n := by
  induction l generalizing n with
  | nil => exact .inl rfl
  | cons y l ih =>
    rcases ih (max n (f y)) with start | ⟨x, mem, attained⟩
    · rw [List.foldl_cons, start]
      rcases Nat.le_total n (f y) with le | le
      · exact .inr ⟨y, List.mem_cons_self, (Nat.max_eq_right le).symm⟩
      · exact .inl (Nat.max_eq_left le)
    · exact .inr ⟨x, List.mem_cons_of_mem y mem, attained⟩

theorem Store.mem_blocks {st : Store} {b : ConfigBlock} :
    b ∈ TableId.all.filterMap st.configBlock ↔ ∃ x, st.configBlock x = some b := by
  simp [List.mem_filterMap, TableId.mem_all]

/-- No block has a generation above the highest (R152). -/
theorem Store.le_highestGeneration {st : Store} {x : TableId} {b : ConfigBlock} (block : st.configBlock x = some b) :
    b.generation ≤ st.highestGeneration :=
  (le_foldl_max ConfigBlock.generation _ 0).2 b (Store.mem_blocks.2 ⟨x, block⟩)

theorem Store.highestGeneration_attained (st : Store) :
    st.highestGeneration = 0 ∨ ∃ x b, st.configBlock x = some b ∧ b.generation = st.highestGeneration := by
  refine (foldl_max_mem ConfigBlock.generation _ 0).imp_right fun ⟨b, mem, attained⟩ => ?_
  obtain ⟨x, block⟩ := Store.mem_blocks.1 mem
  exact ⟨x, b, block, attained⟩

theorem lowest_eq_none {l : List Nat} : lowest l = none ↔ l = [] := by
  cases l with
  | nil => exact ⟨fun _ => rfl, fun _ => rfl⟩
  | cons x l =>
    refine ⟨fun none => ?_, fun e => nomatch e⟩
    unfold lowest at none
    split at none <;> cases none

theorem lowest_spec {l : List Nat} {n : Nat} (low : lowest l = some n) : n ∈ l ∧ ∀ m ∈ l, n ≤ m := by
  induction l generalizing n with
  | nil => cases low
  | cons x l ih =>
    unfold lowest at low
    split at low
    next none =>
      obtain rfl := Option.some.inj low
      rw [lowest_eq_none.1 none]
      exact ⟨List.mem_singleton_self _, fun m mem => (List.mem_singleton.1 mem).ge⟩
    next r some =>
      obtain rfl := Option.some.inj low
      obtain ⟨mem, least⟩ := ih some
      refine ⟨?_, fun m hm => ?_⟩
      · rcases Nat.le_total x r with le | le
        · rw [Nat.min_eq_left le]; exact List.mem_cons_self
        · rw [Nat.min_eq_right le]; exact List.mem_cons_of_mem _ mem
      · rcases List.mem_cons.1 hm with rfl | hm
        · exact Nat.min_le_left _ _
        · exact (Nat.min_le_right _ _).trans (least m hm)

theorem highest_eq_none {l : List (Nat × IntervalRecord)} : highest l = none ↔ l = [] := by
  cases l with
  | nil => exact ⟨fun _ => rfl, fun _ => rfl⟩
  | cons x l =>
    refine ⟨fun none => ?_, fun e => nomatch e⟩
    unfold highest at none
    split at none
    · cases none
    · split at none <;> cases none

theorem highest_spec {l : List (Nat × IntervalRecord)} {p : Nat × IntervalRecord} (high : highest l = some p) :
    p ∈ l ∧ ∀ q ∈ l, q.2.seq ≤ p.2.seq := by
  induction l generalizing p with
  | nil => cases high
  | cons x l ih =>
    unfold highest at high
    split at high
    next none =>
      obtain rfl := Option.some.inj high
      rw [highest_eq_none.1 none]
      exact ⟨List.mem_singleton_self _, fun q mem => by rw [List.mem_singleton.1 mem]⟩
    next r some =>
      obtain ⟨mem, most⟩ := ih some
      split at high
      next less =>
        obtain rfl := Option.some.inj high
        refine ⟨List.mem_cons_of_mem _ mem, fun q hq => ?_⟩
        rcases List.mem_cons.1 hq with rfl | hq
        · exact less.le
        · exact most q hq
      next more =>
        obtain rfl := Option.some.inj high
        refine ⟨List.mem_cons_self, fun q hq => ?_⟩
        rcases List.mem_cons.1 hq with rfl | hq
        · exact Nat.le_refl _
        · exact (most q hq).trans (Nat.le_of_not_lt more)

/-! ## The store map -/

theorem Store.loadMap_block {st : Store} {period : Nat} {m : StoreMap} {g : Nat}
    (block : st.configBlock .patrol = some ⟨.patrol period m, g⟩) : st.loadMap = m := by
  unfold Store.loadMap
  rw [block]

theorem Store.loadMap_none {st : Store} (none : st.configBlock .patrol = none) : st.loadMap = st.recoverMap := by
  unfold Store.loadMap
  rw [none]

theorem Store.recoverMap_floor (st : Store) : (st.slots = [] → st.recoverMap.logFloor = 1) ∧
    (∀ p ∈ st.slots, st.recoverMap.logFloor ≤ p.2.seq) ∧
    (st.slots ≠ [] → ∃ p ∈ st.slots, p.2.seq = st.recoverMap.logFloor) := by
  cases low : lowest (st.slots.map fun p => p.2.seq) with
  | none =>
    have empty : st.slots = [] := List.map_eq_nil_iff.1 (lowest_eq_none.1 low)
    exact ⟨fun _ => by unfold Store.recoverMap; rw [low]; rfl, fun p mem => absurd mem (empty ▸ List.not_mem_nil),
      fun some => absurd empty some⟩
  | some n =>
    obtain ⟨mem, least⟩ := lowest_spec low
    have floor : st.recoverMap.logFloor = n := by unfold Store.recoverMap; rw [low]; rfl
    rw [floor]
    obtain ⟨p, hp, e⟩ := List.mem_map.1 mem
    exact ⟨fun empty => absurd hp (empty ▸ List.not_mem_nil), fun q hq => least _ (List.mem_map.2 ⟨q, hq, rfl⟩),
      fun _ => ⟨p, hp, e⟩⟩

theorem Store.recoveredSpare_none {st : Store} {i : SpareId} (none : st.spares[i] = none) :
    st.recoveredSpare i = .free := by
  unfold Store.recoveredSpare
  rw [none]

/-- A recovered map gives a spare to the account that it names, unless a higher one names it too (R146). -/
theorem Store.recoveredSpare_some {st : Store} {i : SpareId} {c : RegContent} (some : st.spares[i] = some c) :
    st.recoveredSpare i =
      if ∃ j : SpareId, i < j ∧ (st.spares[j]).map (·.account) = Option.some c.account then .retired
      else .assigned c.account := by
  unfold Store.recoveredSpare
  rw [some]
  refine if_congr ?_ rfl rfl
  simp only [List.any_eq_true, List.mem_finRange, true_and, Bool.and_eq_true, decide_eq_true_eq, Option.map_eq_some_iff]
  refine exists_congr fun j => and_congr Iff.rfl ?_
  cases st.spares[j] with
  | none => simp
  | some d => simp

theorem Store.givesMap_load (st : Store) : st.givesMap st.loadMap := by
  refine ⟨fun period m g block => Store.loadMap_block block, fun none => ?_⟩
  obtain ⟨empty, least, attained⟩ := st.recoverMap_floor
  rw [Store.loadMap_none none]
  refine ⟨rfl, rfl, rfl, empty, least, attained, fun i => ?_⟩
  refine (Vector.getElem_ofFn i.isLt).trans ?_
  cases spare : st.spares[i] with
  | none => exact Store.recoveredSpare_none spare
  | some c => exact Store.recoveredSpare_some spare

end Sys2Proof.Machine
end

section
/-! What the accounting load finds in a store: the log, the registers, the pending records and the next record
sequence (R147). -/

namespace Sys2Proof.Machine

section
variable {st : Store} {map : StoreMap}

/-! ## The log -/

theorem Store.findLog_eq_none : st.findLog map = none ↔ st.members map = [] := by
  unfold Store.findLog
  rw [← highest_eq_none]
  dsimp only
  split
  next none => exact iff_of_true rfl none
  next some => exact iff_of_false (fun h => nomatch h) fun none => nomatch some.symm.trans none

/-- The sequences of the log that its capacity admits, `newest` being the highest (R147). -/
def Store.admitted (st : Store) (map : StoreMap) (newest : Nat) : List Nat :=
  ((st.members map).map fun p => p.2.seq).filter fun q => decide (newest + 1 ≤ q + (4096 - map.badSlots.length))

theorem Store.findLog_some {f : FoundLog} (found : st.findLog map = some f) :
    (∃ p ∈ st.members map, p.2.seq = f.newest ∧ p.1 = f.newestSlot) ∧
      (∀ p ∈ st.members map, p.2.seq ≤ f.newest) ∧
      f.oldest = (lowest (st.admitted map f.newest)).getD f.newest := by
  unfold Store.findLog at found
  dsimp only at found
  split at found
  next => cases found
  next slot r high =>
    obtain ⟨mem, most⟩ := highest_spec high
    obtain rfl := Option.some.inj found
    exact ⟨⟨_, mem, rfl, rfl⟩, most, rfl⟩

/-- The oldest record that the capacity admits (R147). -/
theorem Store.findLog_oldest {f : FoundLog} (found : st.findLog map = some f) (places : map.badSlots.length < 4096) :
    (∃ p ∈ st.members map, p.2.seq = f.oldest) ∧ f.newest < f.oldest + (4096 - map.badSlots.length) ∧
      ∀ p ∈ st.members map, f.newest < p.2.seq + (4096 - map.badSlots.length) → f.oldest ≤ p.2.seq := by
  obtain ⟨⟨p, mem, seq, -⟩, -, oldest⟩ := Store.findLog_some found
  have admits {q : Nat × IntervalRecord} (hq : q ∈ st.members map)
      (fits : f.newest < q.2.seq + (4096 - map.badSlots.length)) : q.2.seq ∈ st.admitted map f.newest :=
    List.mem_filter.2 ⟨List.mem_map.2 ⟨q, hq, rfl⟩, decide_eq_true fits⟩
  have own : f.newest ∈ st.admitted map f.newest := seq ▸ admits mem (by omega)
  cases low : lowest (st.admitted map f.newest) with
  | none => exact absurd own (lowest_eq_none.1 low ▸ List.not_mem_nil)
  | some n =>
    rw [low, Option.getD_some] at oldest
    obtain ⟨admitted, least⟩ := lowest_spec low
    obtain ⟨inLog, fits⟩ := List.mem_filter.1 admitted
    obtain ⟨q, hq, e⟩ := List.mem_map.1 inLog
    rw [oldest]
    exact ⟨⟨q, hq, e⟩, Nat.lt_of_succ_le (of_decide_eq_true fits), fun x hx below => least _ (admits hx below)⟩

/-- The log bounds of a controller that took them from the found log (R147). -/
theorem Store.givesLog_found {r : Controller}
    (some : ∀ f, st.findLog r.map = some f → r.oldest = f.oldest ∧ r.newest = f.newest ∧ r.newestSlot = f.newestSlot)
    (none : st.findLog r.map = none → r.newest + 1 = r.oldest) : st.givesLog r := by
  unfold Store.givesLog
  dsimp only
  refine ⟨fun empty => none (Store.findLog_eq_none.2 empty), fun members => ?_⟩
  obtain ⟨f, found⟩ := Option.ne_none_iff_exists'.1 (mt Store.findLog_eq_none.1 members)
  obtain ⟨oldest, newest, slot⟩ := some f found
  obtain ⟨own, most, -⟩ := Store.findLog_some found
  rw [oldest, newest, slot]
  exact ⟨own, most, Store.findLog_oldest found⟩

/-! ## The registers -/

theorem Store.loadAccount_account (log : Option FoundLog) (saved : Option SavedState) (a : AccountId) :
    (st.loadAccount map log saved a).1.account = a := by
  cases saved with
  | some c => rfl
  | none =>
    unfold Store.loadAccount
    dsimp only
    split
    · rfl
    · split <;> rfl

/-- A block is written with what the load finds exactly where the account's block failed (R147). -/
theorem Store.loadAccount_rewrites (log : Option FoundLog) (saved : Option SavedState) (a : AccountId) :
    (st.loadAccount map log saved a).2 = (st.block (map.blockOf a)).isNone := by
  cases saved with
  | some c => rfl
  | none =>
    unfold Store.loadAccount
    dsimp only
    split
    next some => rw [some]; rfl
    next none =>
      rw [none]
      split <;> rfl

theorem Store.givesRegisters_found {r : Controller} (a : AccountId)
    (oldest : ∀ f, st.findLog r.map = some f → r.oldest = f.oldest) :
    st.givesRegisters r a (st.loadAccount r.map (st.findLog r.map) none a).1.regs
      (st.loadAccount r.map (st.findLog r.map) none a).1.residues := by
  have own : ((st.members r.map).filter fun p =>
        p.2.account == a && decide (((st.findLog r.map).map (·.oldest)).getD 0 ≤ p.2.seq)) =
      (st.members r.map).filter fun p => p.2.account == a && decide (r.oldest ≤ p.2.seq) := by
    cases found : st.findLog r.map with
    | none => rw [Store.findLog_eq_none.1 found]; rfl
    | some f => rw [oldest f found]; rfl
  unfold Store.givesRegisters Store.loadAccount
  dsimp only
  rw [own]
  generalize (st.members r.map).filter (fun p => p.2.account == a && decide (r.oldest ≤ p.2.seq)) = l
  cases st.block (r.map.blockOf a) with
  | some b => exact ⟨rfl, rfl⟩
  | none =>
    cases high : highest l with
    | none =>
      have empty := highest_eq_none.1 high
      exact ⟨rfl, fun _ => rfl, fun some => absurd empty some⟩
    | some p =>
      obtain ⟨mem, most⟩ := highest_spec high
      refine ⟨rfl, fun empty => absurd mem (empty ▸ List.not_mem_nil), fun _ => ⟨p, mem, most, fun i => ?_⟩⟩
      exact Vector.getElem_ofFn i.isLt

/-! ## The pending records -/

theorem perm_insertRecord (r : IntervalRecord) (l : List IntervalRecord) : (insertRecord r l).Perm (r :: l) := by
  induction l with
  | nil => exact List.Perm.refl _
  | cons q l ih =>
    unfold insertRecord
    split
    · exact List.Perm.refl _
    · exact (ih.cons q).trans (List.Perm.swap r q l)

theorem sorted_insertRecord {r : IntervalRecord} {l : List IntervalRecord}
    (sorted : l.Pairwise fun x y => x.seq ≤ y.seq) : (insertRecord r l).Pairwise fun x y => x.seq ≤ y.seq := by
  induction l with
  | nil => exact List.pairwise_singleton _ r
  | cons q l ih =>
    obtain ⟨head, tail⟩ := List.pairwise_cons.1 sorted
    unfold insertRecord
    split
    next less =>
      refine List.pairwise_cons.2 ⟨fun x mem => ?_, sorted⟩
      rcases List.mem_cons.1 mem with rfl | mem
      · exact less.le
      · exact less.le.trans (head x mem)
    next more =>
      refine List.pairwise_cons.2 ⟨fun x mem => ?_, ih tail⟩
      rcases List.mem_cons.1 ((perm_insertRecord r l).mem_iff.1 mem) with rfl | mem
      · exact Nat.le_of_not_lt more
      · exact head x mem

theorem perm_foldr_insertRecord (l : List IntervalRecord) : (l.foldr insertRecord []).Perm l := by
  induction l with
  | nil => exact List.Perm.refl _
  | cons r l ih => exact (perm_insertRecord r _).trans (ih.cons r)

theorem sorted_foldr_insertRecord (l : List IntervalRecord) :
    (l.foldr insertRecord []).Pairwise fun x y => x.seq ≤ y.seq := by
  induction l with
  | nil => exact List.Pairwise.nil
  | cons r l ih => exact sorted_insertRecord ih

/-- The pending records are those of the save above the newest of the log, in ascending sequence (R147). -/
theorem pendingRecords_saved (c : SavedState) (n : Nat) :
    (pendingRecords (some c) n).Perm (c.records.filter fun r => decide (n < r.seq)) ∧
      (pendingRecords (some c) n).Pairwise fun x y => x.seq ≤ y.seq :=
  ⟨perm_foldr_insertRecord _, sorted_foldr_insertRecord _⟩

theorem lt_of_mem_pendingRecords {saved : Option SavedState} {n : Nat} {r : IntervalRecord}
    (mem : r ∈ pendingRecords saved n) : n < r.seq := by
  cases saved with
  | none => cases mem
  | some c =>
    exact of_decide_eq_true (List.mem_filter.1 ((pendingRecords_saved c n).1.mem_iff.1 mem)).2

/-! ## The next record sequence -/

/-- The next record sequence of the load is the least above all that the log and the save hold (R147). -/
theorem Store.givesNextSeq_loaded (st : Store) (map : StoreMap) :
    st.givesNextSeq map (loadedNextSeq map (st.findLog map) (SaveBlock.saved? st.save)) := by
  have log (m : Nat) : ((st.findLog map).map fun f : FoundLog => f.newest + 1).getD 0 ≤ m ↔
      ∀ p ∈ st.members map, p.2.seq < m := by
    cases found : st.findLog map with
    | none =>
      rw [Store.findLog_eq_none.1 found]
      exact iff_of_true (Nat.zero_le m) fun p mem => nomatch mem
    | some f =>
      obtain ⟨⟨p, mem, seq, -⟩, most, -⟩ := Store.findLog_some found
      exact ⟨fun le q hq => Nat.lt_of_le_of_lt (most q hq) le, fun all => (show f.newest < m from seq ▸ all p mem)⟩
  have start (m : Nat) : max 1 (max map.nextSeq (((st.findLog map).map fun f : FoundLog => f.newest + 1).getD 0)) ≤ m ↔
      1 ≤ m ∧ map.nextSeq ≤ m ∧ ∀ p ∈ st.members map, p.2.seq < m := by
    rw [Nat.max_le, Nat.max_le, log]
  unfold Store.givesNextSeq loadedNextSeq
  dsimp only
  cases saved : SaveBlock.saved? st.save with
  | none =>
    dsimp only
    obtain ⟨one, seq, members⟩ := (start _).1 (Nat.le_refl _)
    exact ⟨⟨one, seq, members, fun c h => nomatch h⟩, fun m ok => (start m).2 ⟨ok.1, ok.2.1, ok.2.2.1⟩⟩
  | some c =>
    dsimp only
    rw [List.foldl_map]
    obtain ⟨above, records⟩ := le_foldl_max (fun r : IntervalRecord => r.seq + 1) c.records
      (max 1 (max map.nextSeq (((st.findLog map).map fun f : FoundLog => f.newest + 1).getD 0)))
    obtain ⟨one, seq, members⟩ := (start _).1 above
    refine ⟨⟨one, seq, members, fun d h r mem => ?_⟩, fun m ok => ?_⟩
    · obtain rfl := Option.some.inj h
      exact records r mem
    · obtain ⟨one, seq, members, all⟩ := ok
      exact foldl_max_le ((start m).2 ⟨one, seq, members⟩) fun r mem => all c rfl r mem

end

end Sys2Proof.Machine
end

section
/-! The condition unit through a start-up: what rises, rises from clear flags, and nothing falls (R182 to R188). -/

namespace Sys2Proof.Machine

section
variable {masked : Vector Bool 16} {cu : ConditionUnit} {c : Condition}

/-- ALERT stands for the latched unmasked flags, and a notice is pending exactly while it does. -/
def ConditionUnit.Told (masked : Vector Bool 16) (cu : ConditionUnit) : Prop :=
  cu.Lit masked ∧ cu.noticePending = cu.alert

theorem ConditionUnit.reset_told (masked : Vector Bool 16) : ConditionUnit.reset.Told masked := by
  refine ⟨⟨fun lit => (nomatch lit), fun ⟨i, flag, _⟩ => ?_⟩, rfl⟩
  exact absurd (flag.symm.trans (Vector.getElem_replicate i.isLt)) (by decide)

/-- A rise tells of an unmasked flag that it sets (R183, R187, R188). -/
theorem ConditionUnit.rise_told (told : cu.Told masked) : (cu.rise masked c).Told masked := by
  obtain ⟨lit, pending⟩ := told
  obtain ⟨flag, others, latched, unlatched⟩ := cu.rise_risen masked c
  by_cases was : cu.flags[c.idx] = true
  · obtain ⟨-, alert, notice⟩ := latched was
    have same (j : Fin 16) : (cu.rise masked c).flags[j] = cu.flags[j] := by
      by_cases here : j = c.idx
      · rw [here, flag, was]
      · exact (others j here).1
    refine ⟨?_, notice.trans (pending.trans alert.symm)⟩
    unfold ConditionUnit.Lit
    simp only [alert, same]
    exact lit
  · obtain ⟨-, risen, notice⟩ := unlatched (Bool.eq_false_iff.2 was)
    refine ⟨risen, ?_⟩
    rw [notice, pending, Bool.eq_iff_iff, Bool.or_eq_true, Bool.not_eq_true']
    refine Iff.trans ?_ risen.symm
    constructor
    · rintro (alert | unmasked)
      · obtain ⟨j, set, open_⟩ := lit.1 alert
        have elsewhere : j ≠ c.idx := fun e => was (e ▸ set)
        exact ⟨j, (others j elsewhere).1.trans set, open_⟩
      · exact ⟨c.idx, flag, unmasked⟩
    · rintro ⟨j, set, open_⟩
      by_cases here : j = c.idx
      · exact .inr (here ▸ open_)
      · exact .inl (lit.2 ⟨j, (others j here).1.symm.trans set, open_⟩)

/-- A source that is given without a fall tells as a rise does. -/
theorem ConditionUnit.give_told {n : NoticeTable} {v : Bool} (told : cu.Told n.masked)
    (stays : cu.sources[c.idx] = true → v = true) : (cu.give n c v).Told n.masked := by
  by_cases same : cu.sources[c.idx] = v
  · rw [ConditionUnit.give_same same]
    exact told
  · have low : cu.sources[c.idx] = false := Bool.eq_false_iff.2 fun high => same (high.trans (stays high).symm)
    have high : v = true := Bool.eq_true_of_not_eq_false fun e => same (low.trans e.symm)
    rw [high, ConditionUnit.give_rise low]
    exact ConditionUnit.rise_told (cu := { cu with sources := cu.sources.set c.idx true }) told

/-- The flag of a level condition shows its source, as long as the source has not fallen (R183). -/
def ConditionUnit.ShowsAt (i : Fin 16) (cu : ConditionUnit) : Prop := cu.flags[i] = cu.sources[i]

theorem ConditionUnit.give_shows {n : NoticeTable} {v : Bool} (shows : cu.ShowsAt c.idx)
    (stays : cu.sources[c.idx] = true → v = true) : (cu.give n c v).ShowsAt c.idx := by
  by_cases same : cu.sources[c.idx] = v
  · rw [ConditionUnit.give_same same]
    exact shows
  · have low : cu.sources[c.idx] = false := Bool.eq_false_iff.2 fun high => same (high.trans (stays high).symm)
    have high : v = true := Bool.eq_true_of_not_eq_false fun e => same (low.trans e.symm)
    have source := ConditionUnit.give_source n c v cu
    unfold ConditionUnit.ShowsAt
    rw [source, high, ConditionUnit.give_rise low]
    exact ConditionUnit.rise_flag _ _ _

/-- Flag and source of condition `i` stand. -/
def ConditionUnit.KeepsAt (i : Fin 16) (cu t : ConditionUnit) : Prop :=
  t.flags[i] = cu.flags[i] ∧ t.sources[i] = cu.sources[i]

theorem ConditionUnit.KeepsAt.refl (i : Fin 16) (cu : ConditionUnit) : ConditionUnit.KeepsAt i cu cu := ⟨rfl, rfl⟩

theorem ConditionUnit.KeepsAt.trans {i : Fin 16} {a b : ConditionUnit} (h : cu.KeepsAt i a) (k : a.KeepsAt i b) :
    cu.KeepsAt i b :=
  ⟨k.1.trans h.1, k.2.trans h.2⟩

theorem ConditionUnit.KeepsAt.shows {i : Fin 16} {a : ConditionUnit} (h : cu.KeepsAt i a) (shows : cu.ShowsAt i) :
    a.ShowsAt i :=
  h.1.trans (shows.trans h.2.symm)

theorem ConditionUnit.rise_sources_at (masked : Vector Bool 16) (i : Fin 16) (c : Condition) (cu : ConditionUnit) :
    (cu.rise masked c).sources[i] = cu.sources[i] := by
  rw [ConditionUnit.rise_sources]

theorem ConditionUnit.rise_keeps {i : Fin 16} (other : i ≠ c.idx) : cu.KeepsAt i (cu.rise masked c) :=
  ⟨(ConditionUnit.rise_standsAt masked other).1, cu.rise_sources_at masked i c⟩

theorem ConditionUnit.give_keeps {n : NoticeTable} {v : Bool} {i : Fin 16} (other : i ≠ c.idx) :
    cu.KeepsAt i (cu.give n c v) :=
  ⟨(ConditionUnit.give_standsAt n v other).1, ConditionUnit.give_source_other n v cu other⟩

/-- A level condition that is given without a fall shows its new source. -/
theorem ConditionUnit.give_level {n : NoticeTable} {v : Bool} (told : cu.Told n.masked) (shows : cu.ShowsAt c.idx)
    (stays : cu.sources[c.idx] = true → v = true) : (cu.give n c v).Told n.masked ∧
      (cu.give n c v).ShowsAt c.idx ∧ (cu.give n c v).sources[c.idx] = v ∧
      ∀ i, i ≠ c.idx → cu.KeepsAt i (cu.give n c v) :=
  ⟨ConditionUnit.give_told told stays, ConditionUnit.give_shows shows stays, ConditionUnit.give_source n c v cu,
    fun _ other => ConditionUnit.give_keeps other⟩

end

/-! ## Marked registers -/

theorem Accountant.marked_iff {ia : Accountant} :
    ia.marked = true ↔ ∃ (a : AccountId) (i : Fin 25), (((ia.accounts[a]).regs)[i]).marked = true := by
  unfold Accountant.marked
  rw [vector_any_iff]
  exact exists_congr fun a => vector_any_iff

/-- A close takes no mark from a register (R25, R38). -/
theorem Register.add_marked {r : Register} (amount : Nat) (clamped : Bool) (marked : r.marked = true) :
    (r.add amount clamped).marked = true := by
  unfold Register.add
  split
  · simp only [Register.marked, Bool.or_eq_true] at marked ⊢
    exact marked.imp_left (Or.imp_left .inl)
  · rfl

theorem closedRegs_marked (ratio : Nat) (iv : Interval) {regs : Vector Register 25} {i : Fin 25}
    (marked : (regs[i]).marked = true) : ((closedRegs ratio iv regs)[i]).marked = true := by
  rw [show (closedRegs ratio iv regs)[i] = (regs[i]).add (iv.closing ratio)[i] iv.clamped[i] from
    Vector.getElem_ofFn i.isLt]
  exact Register.add_marked _ _ marked

/-- The closes of accounts leave a marked register marked. -/
theorem State.closeAccount_marked (cause : EndCause) (endTime : Nat) (reopen : Reopen) (a : AccountId) {s : State}
    (marked : s.ia.marked = true) : (s.closeAccount cause endTime reopen a).ia.marked = true := by
  obtain ⟨b, i, h⟩ := Accountant.marked_iff.1 marked
  refine Accountant.marked_iff.2 ⟨b, i, ?_⟩
  by_cases here : b = a
  · subst here
    cases interval : (s.ia.accounts[b]).interval with
    | none => rw [s.closeAccount_none cause endTime reopen interval]; exact h
    | some iv =>
      rw [(s.closeAccount_some cause endTime reopen interval).1]
      refine (congrArg (fun x : Account => ((x.regs)[i]).marked) (vector_set_same s.ia.accounts b _)).trans ?_
      exact closedRegs_marked _ iv h
  · rw [s.closeAccount_other cause endTime reopen here]
    exact h

/-! ## The closes of a start-up -/

/-- A close pulses INTERVAL-CLOSED and gives REGISTER-FLAG anew (R25, R36). -/
theorem State.closeAccount_cu {cause : EndCause} {endTime : Nat} {reopen : Reopen} {a : AccountId} {s : State}
    {iv : Interval} (interval : (s.ia.accounts[a]).interval = some iv) :
    (s.closeAccount cause endTime reopen a).cu = (s.cu.rise s.cm.tables.notice.masked .intervalClosed).give
      s.cm.tables.notice .registerFlag (s.closeAccount cause endTime reopen a).ia.marked := by
  have given (v : State) (cu : v.cu = s.cu) (cm : v.cm = s.cm) : (v.pulse .intervalClosed).giveRegisterFlag.cu =
      (s.cu.rise s.cm.tables.notice.masked .intervalClosed).give s.cm.tables.notice .registerFlag
        (v.pulse .intervalClosed).giveRegisterFlag.ia.marked := by
    rw [← cu, ← cm]
    rfl
  unfold State.closeAccount
  rw [interval]
  refine given _ ?_ ?_
  · rw [State.handRecord_cu, State.handBlock_cu]
    split <;> simp
  · rw [State.handRecord_cm, State.handBlock_cm]
    split <;> simp

/-- REGISTER-FLAG has risen only where a register is marked, and shows it (R25). -/
def State.flagsMarks (s : State) : Prop :=
  s.cu.Told s.cm.tables.notice.masked ∧ s.cu.ShowsAt 12 ∧ (s.cu.sources[12] = true → s.ia.marked = true)

theorem State.closeAccount_flagsMarks (cause : EndCause) (endTime : Nat) (reopen : Reopen) (a : AccountId) {s : State}
    (flags : s.flagsMarks) : (s.closeAccount cause endTime reopen a).flagsMarks ∧
      ∀ i : Fin 16, i ≠ 9 → i ≠ 12 → s.cu.KeepsAt i (s.closeAccount cause endTime reopen a).cu := by
  cases interval : (s.ia.accounts[a]).interval with
  | none => rw [s.closeAccount_none cause endTime reopen interval]; exact ⟨flags, fun i _ _ => .refl i _⟩
  | some iv =>
    obtain ⟨told, shows, risen⟩ := flags
    have pulsed : s.cu.KeepsAt 12 (s.cu.rise s.cm.tables.notice.masked .intervalClosed) :=
      ConditionUnit.rise_keeps (by decide)
    have stays : (s.cu.rise s.cm.tables.notice.masked .intervalClosed).sources[Condition.registerFlag.idx] = true →
        (s.closeAccount cause endTime reopen a).ia.marked = true :=
      fun high => s.closeAccount_marked cause endTime reopen a (risen (pulsed.2.symm.trans high))
    obtain ⟨told', shows', source, kept⟩ := ConditionUnit.give_level (n := s.cm.tables.notice)
      (ConditionUnit.rise_told (c := .intervalClosed) told) (c := .registerFlag) (pulsed.shows shows) stays
    have cm : (s.closeAccount cause endTime reopen a).cm = s.cm := by simp
    unfold State.flagsMarks
    rw [cm, State.closeAccount_cu interval]
    exact ⟨⟨told', shows', fun high => source.symm.trans high⟩,
      fun i closed flag => (ConditionUnit.rise_keeps closed).trans (kept i flag)⟩

theorem State.closeList_flagsMarks (cause : EndCause) (endTime : Nat) (reopen : Reopen) (l : List AccountId)
    {s : State} (flags : s.flagsMarks) : (s.closeList cause endTime reopen l).flagsMarks ∧
      ∀ i : Fin 16, i ≠ 9 → i ≠ 12 → s.cu.KeepsAt i (s.closeList cause endTime reopen l).cu := by
  induction l generalizing s with
  | nil => exact ⟨flags, fun i _ _ => .refl i _⟩
  | cons a l ih =>
    obtain ⟨first, kept⟩ := State.closeAccount_flagsMarks cause endTime reopen a flags
    obtain ⟨all, others⟩ := ih first
    exact ⟨all, fun i closed flag => (kept i closed flag).trans (others i closed flag)⟩

end Sys2Proof.Machine
end

section
/-! The configuration load and the accounting load of a start-up (R146, R147, R178). -/

namespace Sys2Proof.Machine

/-! ## STORE-REPAIR pulses -/

/-- `t` is `cu` after STORE-REPAIR pulses, some of them if `some` holds (R146, R147). -/
structure ConditionUnit.Repaired (masked : Vector Bool 16) (some : Prop) (cu t : ConditionUnit) : Prop where
  told : cu.Told masked → t.Told masked
  keeps : ∀ i : Fin 16, i ≠ 11 → cu.KeepsAt i t
  flag : t.flags[11] = true ↔ cu.flags[11] = true ∨ some

theorem ConditionUnit.Repaired.refl (masked : Vector Bool 16) (cu : ConditionUnit) : cu.Repaired masked False cu :=
  ⟨id, fun i _ => .refl i cu, (or_iff_left not_false).symm⟩

theorem ConditionUnit.Repaired.trans {masked : Vector Bool 16} {p q : Prop} {cu a b : ConditionUnit}
    (h : cu.Repaired masked p a) (k : a.Repaired masked q b) : cu.Repaired masked (p ∨ q) b where
  told := fun told => k.told (h.told told)
  keeps i other := (h.keeps i other).trans (k.keeps i other)
  flag := by rw [k.flag, h.flag, or_assoc]

theorem ConditionUnit.Repaired.congr {masked : Vector Bool 16} {p q : Prop} {cu a : ConditionUnit}
    (h : cu.Repaired masked p a) (iff : p ↔ q) : cu.Repaired masked q a :=
  ⟨h.told, h.keeps, h.flag.trans (or_congr_right iff)⟩

theorem ConditionUnit.rise_repaired (masked : Vector Bool 16) (cu : ConditionUnit) :
    cu.Repaired masked True (cu.rise masked .storeRepair) :=
  ⟨ConditionUnit.rise_told, fun _ other => ConditionUnit.rise_keeps other,
    iff_of_true (cu.rise_flag masked .storeRepair) (.inr trivial)⟩

/-! ## The configuration queue -/

theorem mem_joinConfig {job j : ConfigJob} {l : List ConfigJob} (mem : j ∈ joinConfig job l) : j = job ∨ j ∈ l := by
  induction l with
  | nil => exact .inl (List.mem_singleton.1 mem)
  | cons x l ih =>
    unfold joinConfig at mem
    split at mem
    · exact (List.mem_cons.1 mem).imp_right (List.mem_cons_of_mem x)
    · rcases List.mem_cons.1 mem with rfl | mem
      · exact .inr List.mem_cons_self
      · exact (ih mem).imp_right (List.mem_cons_of_mem x)

/-- A job of table `x` is queued. -/
def Controller.queues (r : Controller) (x : TableId) : Prop := ∃ j ∈ r.configQueue, j.content.table = x

theorem joinConfig_tables {job : ConfigJob} {l : List ConfigJob} {x : TableId} :
    (∃ j ∈ joinConfig job l, j.content.table = x) ↔ (∃ j ∈ l, j.content.table = x) ∨ job.content.table = x := by
  constructor
  · rintro ⟨j, mem, table⟩
    rcases mem_joinConfig mem with rfl | mem
    · exact .inr table
    · exact .inl ⟨j, mem, table⟩
  · rintro (⟨j, mem, table⟩ | own)
    · by_cases same : j.content.table = job.content.table
      · exact ⟨job, joinConfig_self job l, same.symm.trans table⟩
      · exact ⟨j, joinConfig_other mem same, table⟩
    · exact ⟨job, joinConfig_self job l, own⟩

section
variable {s : State}

theorem State.handConfig_queues {x y : TableId} :
    (s.handConfig x).rsc.queues y ↔ s.rsc.queues y ∨ x = y := by
  refine joinConfig_tables.trans (or_congr_right ?_)
  rw [State.contentOf_table]

/-- A job of the queue carries its table's content as it stands (R141). -/
def State.jobCurrent (s : State) (j : ConfigJob) : Prop := j = ⟨s.contentOf j.content.table, s.cm.generation⟩

theorem State.handConfig_jobs {x : TableId} {j : ConfigJob} (mem : j ∈ (s.handConfig x).rsc.configQueue) :
    s.jobCurrent j ∨ j ∈ s.rsc.configQueue := by
  refine (mem_joinConfig mem).imp_left ?_
  rintro rfl
  unfold State.jobCurrent
  rw [State.contentOf_table]

/-- The default of a table that failed is queued, with a STORE-REPAIR pulse (R146). -/
def State.writeDefault (s : State) (x : TableId) : State := (s.handConfig x).pulse .storeRepair

theorem State.writeDefault_contentOf (x y : TableId) : (s.writeDefault x).contentOf y = s.contentOf y := by
  cases y <;> rfl

/-- What the load of defaults for the tables `ts` leaves (R146). -/
structure State.Defaults (s : State) (ts : List TableId) (t : State) : Prop where
  frame : t = { s with rsc := { s.rsc with configQueue := t.rsc.configQueue }, cu := t.cu }
  jobs : ∀ j ∈ t.rsc.configQueue, s.jobCurrent j ∨ j ∈ s.rsc.configQueue
  queues : ∀ x, t.rsc.queues x ↔ s.rsc.queues x ∨ x ∈ ts
  cu : s.cu.Repaired s.cm.tables.notice.masked (ts ≠ []) t.cu

theorem State.writeDefaults_defaults (ts : List TableId) (s : State) : s.Defaults ts (s.writeDefaults ts) := by
  induction ts generalizing s with
  | nil => exact ⟨rfl, fun j mem => .inr mem, fun x => (or_iff_left List.not_mem_nil).symm,
      (ConditionUnit.Repaired.refl _ _).congr (iff_of_false id fun h => h rfl)⟩
  | cons x ts ih =>
    obtain ⟨frame, jobs, queues, cu⟩ := ih (s.writeDefault x)
    refine ⟨?_, fun j mem => ?_, fun y => ?_, ?_⟩
    · exact frame
    · rcases jobs j mem with current | mem
      · refine .inl ?_
        unfold State.jobCurrent at current
        rw [State.writeDefault_contentOf] at current
        exact current
      · exact State.handConfig_jobs (x := x) mem
    · refine (queues y).trans ?_
      rw [show (s.writeDefault x).rsc.queues y ↔ _ from State.handConfig_queues (x := x), or_assoc, List.mem_cons,
        eq_comm (a := x)]
    · exact ((ConditionUnit.rise_repaired _ s.cu).trans cu).congr
        (iff_of_true (.inl trivial) (List.cons_ne_nil x ts))

theorem Store.mem_failedTables {st : Store} {x : TableId} : x ∈ st.failedTables ↔ st.configBlock x = none := by
  unfold Store.failedTables
  rw [List.mem_filter, Option.isNone_iff_eq_none]
  exact and_iff_right (TableId.mem_all x)

theorem Store.failedTables_ne_nil {st : Store} : st.failedTables ≠ [] ↔ ∃ x, st.configBlock x = none := by
  refine ⟨fun some => ?_, fun ⟨x, failed⟩ => List.ne_nil_of_mem (Store.mem_failedTables.2 failed)⟩
  obtain ⟨x, mem⟩ := List.exists_mem_of_ne_nil _ some
  exact ⟨x, Store.mem_failedTables.1 mem⟩

/-- The configuration load: tables, stored values and store map as the store gives them, the points in their stored
mode, and the defaults queued (R146). -/
structure State.ConfigLoaded (s t : State) : Prop where
  frame : t = { s with
    cm := s.store.loadManager
    points := Vector.ofFn fun p => Point.reset s.store.loadManager.stored[p]
    rsc := { s.rsc with
      map := s.store.loadMap, patrolTimer := s.store.loadManager.tables.patrol, configQueue := t.rsc.configQueue }
    cu := t.cu }
  jobs : ∀ j ∈ t.rsc.configQueue, t.jobCurrent j
  queues : ∀ x, t.rsc.queues x ↔ s.store.configBlock x = none
  cu : s.cu.Repaired s.store.loadManager.tables.notice.masked (∃ x, s.store.configBlock x = none) t.cu

/-- The state of the configuration load before the defaults are queued. -/
def State.tablesTaken (s : State) : State :=
  { s with
    cm := s.store.loadManager
    points := Vector.ofFn fun p => Point.reset s.store.loadManager.stored[p]
    rsc := { s.rsc with map := s.store.loadMap, patrolTimer := s.store.loadManager.tables.patrol } }

theorem State.contentOf_congr {t : State} (cm : t.cm = s.cm) (map : t.rsc.map = s.rsc.map) (x : TableId) :
    t.contentOf x = s.contentOf x := by
  unfold State.contentOf
  rw [cm, map]

theorem State.jobCurrent.congr {t : State} {j : ConfigJob} (current : s.jobCurrent j) (cm : t.cm = s.cm)
    (map : t.rsc.map = s.rsc.map) : t.jobCurrent j := by
  unfold State.jobCurrent
  rw [State.contentOf_congr cm map, cm]
  exact current

theorem State.loadConfig_eq (s : State) : s.loadConfig = s.tablesTaken.writeDefaults s.store.failedTables := by
  unfold State.loadConfig State.tablesTaken State.updRsc
  dsimp only

theorem State.loadConfig_loaded (empty : s.rsc.configQueue = []) : s.ConfigLoaded s.loadConfig := by
  have defaults := s.tablesTaken.writeDefaults_defaults s.store.failedTables
  rw [← s.loadConfig_eq] at defaults
  generalize s.loadConfig = t at defaults ⊢
  obtain ⟨frame, jobs, queues, cu⟩ := defaults
  have none_queued (x : TableId) : ¬ s.tablesTaken.rsc.queues x := by
    rintro ⟨j, mem, -⟩
    exact absurd mem (by rw [show s.tablesTaken.rsc.configQueue = [] from empty]; exact List.not_mem_nil)
  have cm : t.cm = s.tablesTaken.cm := by rw [frame]
  have map : t.rsc.map = s.tablesTaken.rsc.map := by rw [frame]
  constructor
  case jobs =>
    exact fun j mem => ((jobs j mem).resolve_right fun queued => none_queued _ ⟨j, queued, rfl⟩).congr cm map
  case queues =>
    exact fun x => (queues x).trans ((or_iff_right (none_queued x)).trans Store.mem_failedTables)
  case cu =>
    unfold State.tablesTaken at cu
    dsimp only at cu
    exact cu.congr Store.failedTables_ne_nil
  case frame =>
    unfold State.tablesTaken at frame
    dsimp only at frame
    exact frame

end

end Sys2Proof.Machine
end

section
/-! The accounting load of a start-up (R147, R178). -/

namespace Sys2Proof.Machine

/-! ## Blocks written back -/

theorem joinBlock_new {c : RegContent} {l : List RegContent} (new : c.account ∉ l.map (·.account)) :
    joinBlock c l = l ++ [c] := by
  induction l with
  | nil => rfl
  | cons x l ih =>
    obtain ⟨here, later⟩ := not_or.1 (mt List.mem_cons.2 new)
    unfold joinBlock
    rw [if_neg fun same => here same.symm, ih later]
    rfl

/-- What the load leaves when it writes the contents `l` back (R147). -/
structure State.WrittenBack (s : State) (l : List RegContent) (t : State) : Prop where
  frame : t = { s with rsc := { s.rsc with blockQueue := t.rsc.blockQueue }, cu := t.cu }
  queue : (s.rsc.blockQueue.map (·.account) ++ l.map (·.account)).Nodup → t.rsc.blockQueue = s.rsc.blockQueue ++ l
  cu : s.cu.Repaired s.cm.tables.notice.masked (l ≠ []) t.cu

theorem State.writeBlocks_writtenBack (l : List RegContent) (s : State) : s.WrittenBack l (s.writeBlocks l) := by
  induction l generalizing s with
  | nil => exact ⟨rfl, fun _ => (List.append_nil _).symm,
      (ConditionUnit.Repaired.refl _ _).congr (iff_of_false id fun h => h rfl)⟩
  | cons c l ih =>
    obtain ⟨frame, queue, cu⟩ := ih ((s.queueBlock c).pulse .storeRepair)
    refine ⟨frame, fun distinct => ?_, ((ConditionUnit.rise_repaired _ s.cu).trans cu).congr
      (iff_of_true (.inl trivial) (List.cons_ne_nil c l))⟩
    obtain ⟨-, -, apart⟩ := List.nodup_append.1 distinct
    have new : joinBlock c s.rsc.blockQueue = s.rsc.blockQueue ++ [c] :=
      joinBlock_new fun mem => apart _ mem _ List.mem_cons_self rfl
    have joined : ((s.queueBlock c).pulse .storeRepair).rsc.blockQueue = s.rsc.blockQueue ++ [c] := new
    refine (queue ?_).trans ?_
    · rw [joined, List.map_append, List.append_assoc]
      exact distinct
    · rw [joined, List.append_assoc]
      rfl

/-! ## What the store gives the accounts -/

section
variable (st : Store) (map : StoreMap)

/-- What the load finds for account `a`, and whether its block is written with it (R147). -/
def Store.found (a : AccountId) : RegContent × Bool :=
  st.loadAccount map (st.findLog map) (SaveBlock.saved? st.save) a

/-- The accounts whose block failed (R147). -/
def Store.failedBlocks : List AccountId :=
  (List.finRange 8).filter fun a => (st.block (map.blockOf a)).isNone

/-- The contents that the load writes back (R147). -/
def Store.rewritten : List RegContent := (st.failedBlocks map).map fun a => (st.found map a).1

theorem Store.found_account (a : AccountId) : (st.found map a).1.account = a := Store.loadAccount_account _ _ a

theorem Store.rewritten_eq :
    (((Vector.ofFn (st.found map)).toList.filter (·.2)).map (·.1)) = st.rewritten map := by
  rw [Vector.toList_ofFn, List.ofFn_eq_map, List.filter_map, List.map_map]
  unfold Store.rewritten Store.failedBlocks
  refine congrArg (List.map _) (List.filter_congr fun a _ => ?_)
  exact Store.loadAccount_rewrites _ _ a

theorem Store.rewritten_accounts : (st.rewritten map).map (·.account) = st.failedBlocks map := by
  unfold Store.rewritten
  rw [List.map_map]
  refine (List.map_congr_left fun a _ => ?_).trans (List.map_id _)
  exact st.found_account map a

theorem Store.mem_failedBlocks {st : Store} {map : StoreMap} {a : AccountId} :
    a ∈ st.failedBlocks map ↔ st.block (map.blockOf a) = none := by
  unfold Store.failedBlocks
  rw [List.mem_filter, Option.isNone_iff_eq_none]
  exact and_iff_right (List.mem_finRange a)

/-- The pending records of the load (R147). -/
def Store.pending : List IntervalRecord :=
  pendingRecords (SaveBlock.saved? st.save) (((st.findLog map).map (·.newest)).getD 0)

/-- The next record sequence of the load (R147). -/
def Store.nextSeq : Nat := loadedNextSeq map (st.findLog map) (SaveBlock.saved? st.save)

/-- The oldest sequence of the load: the log's, or that of the records to come (R147). -/
def Store.oldest : Nat :=
  ((st.findLog map).map (·.oldest)).getD ((lowest ((st.pending map).map (·.seq))).getD (st.nextSeq map))

/-- The newest sequence of the load (R147). -/
def Store.newest : Nat := ((st.findLog map).map (·.newest)).getD (st.oldest map - 1)

theorem Store.oldest_pos (none : st.findLog map = none) : 1 ≤ st.oldest map := by
  unfold Store.oldest
  rw [none]
  cases low : lowest ((st.pending map).map (·.seq)) with
  | none => exact (st.givesNextSeq_loaded map).1.1
  | some n =>
    obtain ⟨r, mem, e⟩ := List.mem_map.1 (lowest_spec low).1
    have := lt_of_mem_pendingRecords mem
    exact e ▸ Nat.one_le_of_lt this

/-- The pending records are those above the newest sequence (R147). -/
theorem Store.pending_above (c : SavedState) (saved : SaveBlock.saved? st.save = some c) :
    c.records.filter (fun r => decide (((st.findLog map).map (·.newest)).getD 0 < r.seq)) =
      c.records.filter fun r => decide (st.newest map < r.seq) := by
  cases found : st.findLog map with
  | some f =>
    have newest : st.newest map = f.newest := by unfold Store.newest; rw [found]; rfl
    rw [newest]
    rfl
  | none =>
    have newest : st.newest map = st.oldest map - 1 := by unfold Store.newest; rw [found]; rfl
    refine List.filter_congr fun r mem => decide_eq_decide.2 ⟨fun pos => ?_, fun above => Nat.zero_lt_of_lt above⟩
    have pending : r ∈ st.pending map := by
      unfold Store.pending
      rw [saved, found]
      exact (pendingRecords_saved c 0).1.mem_iff.2 (List.mem_filter.2 ⟨mem, decide_eq_true pos⟩)
    have least : st.oldest map ≤ r.seq := by
      have mem : r.seq ∈ (st.pending map).map (·.seq) := List.mem_map.2 ⟨r, pending, rfl⟩
      unfold Store.oldest
      rw [found]
      cases low : lowest ((st.pending map).map (·.seq)) with
      | none => exact absurd mem (lowest_eq_none.1 low ▸ List.not_mem_nil)
      | some n => exact (lowest_spec low).2 _ mem
    have := st.oldest_pos map found
    rw [newest]
    omega

theorem Store.pending_perm (c : SavedState) (saved : SaveBlock.saved? st.save = some c) :
    (st.pending map).Perm (c.records.filter fun r => decide (st.newest map < r.seq)) ∧
      (st.pending map).Pairwise fun q r => q.seq ≤ r.seq := by
  rw [← st.pending_above map c saved]
  unfold Store.pending
  rw [saved]
  exact pendingRecords_saved c _

end

/-! ## The load -/

/-- The consumption of the save begins with jobs that the load queues from it (R147). -/
def Store.consumption (st : Store) (map : StoreMap) : Option Consumption :=
  if (SaveBlock.saved? st.save).isSome && !((st.failedBlocks map).isEmpty && (st.pending map).isEmpty) then
    some ⟨st.failedBlocks map, (st.pending map).map (·.seq)⟩
  else none

/-- An account as the load finds it (R147, R178). -/
def Store.foundAccount (st : Store) (map : StoreMap) (a : AccountId) : Account :=
  ⟨none, (st.found map a).1.regs, (st.found map a).1.residues, (markerFound st.save).unclean, false, false⟩

/-- The store controller after the accounting load (R147). -/
def Controller.accountsLoaded (st : Store) (r : Controller) : Controller :=
  { r with
    oldest := st.oldest r.map
    newest := st.newest r.map
    newestSlot := ((st.findLog r.map).map (·.newestSlot)).getD 0
    images := Vector.ofFn fun a => (st.found r.map a).1
    recordQueue := st.pending r.map
    blockQueue := st.rewritten r.map
    consumption := st.consumption r.map
    saveQueue := if st.consumption r.map = none then some .running else none }

section
variable {s : State}

/-- The state of the accounting load before blocks are written back, with the oldest sequence `oldest`. -/
def State.accountsTaken (oldest : Nat) (s : State) : State :=
  (s.updRsc fun r => { r with
    oldest := oldest
    newest := ((s.store.findLog s.rsc.map).map (·.newest)).getD (oldest - 1)
    newestSlot := ((s.store.findLog s.rsc.map).map (·.newestSlot)).getD 0
    images := Vector.ofFn fun a => (Vector.ofFn (s.store.found s.rsc.map))[a].1
    recordQueue := s.store.pending s.rsc.map }).updIa fun ia => { ia with
      nextSeq := s.store.nextSeq s.rsc.map
      accounts := Vector.ofFn fun a => { Account.idle (Vector.ofFn (s.store.found s.rsc.map))[a].1.regs
        (Vector.ofFn (s.store.found s.rsc.map))[a].1.residues with gapMark := (markerFound s.store.save).unclean } }

theorem State.loadAccounts_eq (s : State) : s.loadAccounts =
    ((s.accountsTaken (s.store.oldest s.rsc.map)).writeBlocks (s.store.rewritten s.rsc.map)).endLoad
      (SaveBlock.saved? s.store.save).isSome (s.store.failedBlocks s.rsc.map)
      ((s.store.pending s.rsc.map).map (·.seq)) := by
  rw [← s.store.rewritten_accounts s.rsc.map, ← s.store.rewritten_eq s.rsc.map]
  refine Eq.trans (b := ((s.accountsTaken _).writeBlocks _).endLoad _ _ _) rfl ?_
  refine congrArg (fun o => ((s.accountsTaken o).writeBlocks _).endLoad _ _ _) ?_
  unfold Store.oldest Store.pending Store.nextSeq
  cases s.store.findLog s.rsc.map with
  | none => rfl
  | some f => rfl

theorem Store.found_get (st : Store) (map : StoreMap) (a : AccountId) : (Vector.ofFn (st.found map))[a] = st.found map a :=
  Vector.getElem_ofFn a.isLt

theorem State.accountsTaken_eq (s : State) : s.accountsTaken (s.store.oldest s.rsc.map) = { s with
    rsc := { s.rsc with
      oldest := s.store.oldest s.rsc.map
      newest := s.store.newest s.rsc.map
      newestSlot := ((s.store.findLog s.rsc.map).map (·.newestSlot)).getD 0
      images := Vector.ofFn fun a => (s.store.found s.rsc.map a).1
      recordQueue := s.store.pending s.rsc.map }
    ia := { s.ia with
      nextSeq := s.store.nextSeq s.rsc.map
      accounts := Vector.ofFn (s.store.foundAccount s.rsc.map) } } := by
  unfold State.accountsTaken
  simp only [Store.found_get]
  rfl

/-- The end of the load: the jobs that the RUNNING write waits for, or that write (R147). -/
theorem State.endLoad_eq (saved : Bool) (blocks : List AccountId) (records : List Nat) (s : State)
    (consumption : s.rsc.consumption = none) (save : s.rsc.saveQueue = none) :
    s.endLoad saved blocks records = { s with rsc := { s.rsc with
      consumption := if saved && !(blocks.isEmpty && records.isEmpty) then some ⟨blocks, records⟩ else none
      saveQueue := if (if saved && !(blocks.isEmpty && records.isEmpty) then some (⟨blocks, records⟩ : Consumption)
        else none) = none then some .running else none } } := by
  by_cases waits : (saved && !(blocks.isEmpty && records.isEmpty)) = true
  · refine (if_pos waits).trans ?_
    rw [if_pos waits, if_neg (Option.some_ne_none _), ← save]
    rfl
  · refine (if_neg waits).trans ?_
    rw [if_neg waits, if_pos rfl]
    exact congrArg (fun c => { s with rsc := { s.rsc with consumption := c, saveQueue := some .running } }) consumption

/-- What the accounting load leaves (R147, R178). -/
structure State.AccountsLoaded (s t : State) : Prop where
  frame : t = { s with
    rsc := s.rsc.accountsLoaded s.store
    ia := { s.ia with
      nextSeq := s.store.nextSeq s.rsc.map
      accounts := Vector.ofFn (s.store.foundAccount s.rsc.map) }
    cu := t.cu }
  cu : s.cu.Repaired s.cm.tables.notice.masked (∃ a : AccountId, s.store.block (s.rsc.map.blockOf a) = none) t.cu

theorem State.loadAccounts_loaded (blocks : s.rsc.blockQueue = []) (consumption : s.rsc.consumption = none)
    (save : s.rsc.saveQueue = none) : s.AccountsLoaded s.loadAccounts := by
  have written := (s.accountsTaken (s.store.oldest s.rsc.map)).writeBlocks_writtenBack (s.store.rewritten s.rsc.map)
  rw [s.loadAccounts_eq]
  rw [s.accountsTaken_eq] at written ⊢
  generalize State.writeBlocks (s.store.rewritten s.rsc.map) _ = t at written ⊢
  obtain ⟨frame, queue, cu⟩ := written
  dsimp only at frame queue cu
  rw [blocks] at queue
  have distinct : ((s.store.rewritten s.rsc.map).map (·.account)).Nodup := by
    rw [s.store.rewritten_accounts]
    exact (List.nodup_finRange 8).filter _
  have joined : t.rsc.blockQueue = s.store.rewritten s.rsc.map := (queue distinct).trans (List.nil_append _)
  rw [joined] at frame
  have idle : t.rsc.consumption = none := by rw [frame]; exact consumption
  have free : t.rsc.saveQueue = none := by rw [frame]; exact save
  rw [t.endLoad_eq _ _ _ idle free]
  have records : ((s.store.pending s.rsc.map).map (·.seq)).isEmpty = (s.store.pending s.rsc.map).isEmpty :=
    List.isEmpty_map
  constructor
  case frame =>
    rw [records, frame]
    rfl
  case cu =>
    refine cu.congr ⟨fun some => ?_, fun ⟨a, failed⟩ => ?_⟩
    · obtain ⟨c, mem⟩ := List.exists_mem_of_ne_nil _ some
      obtain ⟨a, failed, -⟩ := List.mem_map.1 mem
      exact ⟨a, Store.mem_failedBlocks.1 failed⟩
    · exact List.ne_nil_of_mem (List.mem_map.2 ⟨a, Store.mem_failedBlocks.2 failed, rfl⟩)

end

end Sys2Proof.Machine
end

section
/-! The mode and the lock that a start-up settles on (R146, R152, R177, R179). -/

namespace Sys2Proof.Machine

section
variable {s t : State} {st : Store}

theorem State.stale_iff {saved : Option SavedState} :
    s.stale saved = true ↔ ∃ c, saved = some c ∧ s.store.highestGeneration < c.generation := by
  cases saved with
  | none => exact iff_of_false (fun h => nomatch h) fun ⟨c, h, _⟩ => nomatch h
  | some c =>
    exact decide_eq_true_iff.trans ⟨fun less => ⟨c, rfl, less⟩, fun ⟨d, same, less⟩ => Option.some.inj same ▸ less⟩

/-- When start-up forces COMMISSIONING (R146, R177). -/
theorem State.forced_iff : s.forced (SaveBlock.saved? s.store.save) = true ↔
    s.store.forces s.store.highestGeneration := by
  unfold State.forced Store.forces
  rw [Bool.or_eq_true, State.stale_iff, or_comm, Bool.not_eq_true', ← Bool.not_eq_true, List.isEmpty_iff,
    ← ne_eq, Store.failedTables_ne_nil]

theorem State.settled_forced {saved : Option SavedState} (forced : s.forced saved = true) :
    s.settled saved = (.commissioning, s.cm.locked) := if_pos forced

theorem State.settled_free {saved : Option SavedState} (free : s.forced saved = false) : s.settled saved =
    ((saved.map (·.mode)).getD s.cm.mode, (saved.map (·.locked)).getD s.cm.locked) := by
  unfold State.settled
  rw [if_neg (by rw [free]; decide)]
  cases saved <;> rfl

/-- Without its CONTRACT block the part settles on the defaults of the load (R146). -/
theorem State.settled_of_contract_failed (cm : s.cm = s.store.loadManager)
    (failed : s.store.configBlock .contract = none) :
    s.settled (SaveBlock.saved? s.store.save) = (s.cm.mode, s.cm.locked) := by
  have defaults := s.store.givesMode_load
  unfold Store.givesMode Store.gives at defaults
  rw [failed] at defaults
  obtain ⟨mode, locked⟩ := Prod.mk.inj defaults
  rw [State.settled_forced (State.forced_iff.2 (.inl ⟨.contract, failed⟩)), cm, mode]

/-- What the part is settled with: mode and lock, the CONTRACT block queued where they changed, and CHANGE-REJECTED
where the saved generation is above the blocks' (R152, R177, R179). -/
structure State.ManagerSettled (s t : State) : Prop where
  frame : t = { s with
    cm := { s.cm with
      mode := (s.settled (SaveBlock.saved? s.store.save)).1, locked := (s.settled (SaveBlock.saved? s.store.save)).2 }
    rsc := { s.rsc with configQueue := t.rsc.configQueue }, cu := t.cu }
  jobs : ∀ j ∈ t.rsc.configQueue, t.jobCurrent j
  queues : ∀ x, t.rsc.queues x ↔ s.store.configBlock x = none ∨
    (x = .contract ∧ s.settled (SaveBlock.saved? s.store.save) ≠ (s.cm.mode, s.cm.locked))
  told : s.cu.Told s.cm.tables.notice.masked → t.cu.Told s.cm.tables.notice.masked
  keeps : ∀ i : Fin 16, i ≠ 13 → s.cu.KeepsAt i t.cu
  flag : t.cu.flags[13] = true ↔ s.cu.flags[13] = true ∨
    ∃ c, SaveBlock.saved? s.store.save = some c ∧ s.store.highestGeneration < c.generation

/-- The state with CHANGE-REJECTED pulsed where the save is stale (R177). -/
def State.rejected (s : State) : State :=
  if s.stale (SaveBlock.saved? s.store.save) then s.pulse .changeRejected else s

theorem State.rejected_cu (s : State) :
    s.rejected = { s with cu := s.rejected.cu } ∧
      (s.cu.Told s.cm.tables.notice.masked → s.rejected.cu.Told s.cm.tables.notice.masked) ∧
      (∀ i : Fin 16, i ≠ 13 → s.cu.KeepsAt i s.rejected.cu) ∧
      (s.rejected.cu.flags[13] = true ↔ s.cu.flags[13] = true ∨
        ∃ c, SaveBlock.saved? s.store.save = some c ∧ s.store.highestGeneration < c.generation) := by
  unfold State.rejected
  by_cases stale : s.stale (SaveBlock.saved? s.store.save) = true
  · rw [if_pos stale]
    exact ⟨rfl, ConditionUnit.rise_told, fun i other => ConditionUnit.rise_keeps other,
      iff_of_true (s.cu.rise_flag s.cm.tables.notice.masked .changeRejected) (.inr (State.stale_iff.1 stale))⟩
  · rw [if_neg stale]
    exact ⟨rfl, id, fun i _ => .refl i _, (or_iff_left (mt State.stale_iff.2 stale)).symm⟩

theorem State.settleManager_eq (s : State) : s.settleManager (SaveBlock.saved? s.store.save) =
    if s.settled (SaveBlock.saved? s.store.save) = (s.cm.mode, s.cm.locked) then s.rejected
    else (s.rejected.updCm fun m => { m with
      mode := (s.settled (SaveBlock.saved? s.store.save)).1
      locked := (s.settled (SaveBlock.saved? s.store.save)).2 }).handConfig .contract := by
  unfold State.settleManager State.rejected
  split
  · rfl
  · rfl

theorem State.contentOf_mode {x : TableId} (other : x ≠ .contract) (mode : DeviceMode) (locked : Bool)
    (cu : ConditionUnit) (jobs : List ConfigJob) (s : State) :
    State.contentOf { s with
      cm := { s.cm with mode := mode, locked := locked }, cu := cu, rsc := { s.rsc with configQueue := jobs } } x =
      s.contentOf x := by
  cases x with
  | contract => exact absurd rfl other
  | _ => rfl

theorem State.settleManager_settled (cm : s.cm = s.store.loadManager)
    (jobs : ∀ j ∈ s.rsc.configQueue, s.jobCurrent j)
    (queues : ∀ x, s.rsc.queues x ↔ s.store.configBlock x = none) :
    s.ManagerSettled (s.settleManager (SaveBlock.saved? s.store.save)) := by
  obtain ⟨frame, told, keeps, flag⟩ := s.rejected_cu
  rw [s.settleManager_eq]
  generalize s.rejected = u at frame told keeps flag ⊢
  by_cases same : s.settled (SaveBlock.saved? s.store.save) = (s.cm.mode, s.cm.locked)
  · rw [if_pos same]
    refine ⟨?_, ?_, fun x => ?_, told, keeps, flag⟩
    · rw [same, frame]
    · rw [frame]
      exact jobs
    · rw [frame]
      exact (queues x).trans (or_iff_left fun ⟨_, other⟩ => other same).symm
  · rw [if_neg same]
    have contract : s.store.configBlock .contract ≠ none := fun failed =>
      same (State.settled_of_contract_failed cm failed)
    rw [frame]
    refine ⟨rfl, fun j mem => ?_, fun y => ?_, told, keeps, flag⟩
    · rcases State.handConfig_jobs mem with current | old
      · exact current
      · have current := jobs j old
        have other : j.content.table ≠ .contract := fun table => contract ((queues _).1 ⟨j, old, table⟩)
        unfold State.jobCurrent at current ⊢
        refine current.trans (congrArg (fun c => (⟨c, s.cm.generation⟩ : ConfigJob)) ?_)
        exact (State.contentOf_mode other _ _ u.cu _ s).symm
    · refine (State.handConfig_queues (s := _) (x := .contract)).trans (or_congr (queues y) ?_)
      exact ⟨fun e => ⟨e.symm, same⟩, fun ⟨e, _⟩ => e.symm⟩

end

end Sys2Proof.Machine
end

section
/-! What the saved intervals leave of the part, however they are treated (R42, R147, R148, R177). -/

namespace Sys2Proof.Machine

/-! ## Block images -/

theorem joinBlock_accounts (c : RegContent) (l : List RegContent) : (joinBlock c l).map (·.account) =
    if c.account ∈ l.map (·.account) then l.map (·.account) else l.map (·.account) ++ [c.account] := by
  induction l with
  | nil => rfl
  | cons x l ih =>
    unfold joinBlock
    by_cases same : x.account = c.account
    · have here : c.account ∈ (x :: l).map (·.account) := List.mem_map.2 ⟨x, List.mem_cons_self, same⟩
      rw [if_pos same, if_pos here, List.map_cons, List.map_cons, same]
    · rw [if_neg same, List.map_cons, ih]
      by_cases later : c.account ∈ l.map (·.account)
      · have here : c.account ∈ (x :: l).map (·.account) := List.mem_cons_of_mem _ later
        rw [if_pos later, if_pos here, List.map_cons]
      · have absent : c.account ∉ (x :: l).map (·.account) := fun mem =>
          (List.mem_cons.1 mem).elim (fun e => same e.symm) later
        rw [if_neg later, if_neg absent, List.map_cons, List.cons_append]

theorem mem_joinBlock_of_nodup {c x : RegContent} {l : List RegContent} (distinct : (l.map (·.account)).Nodup)
    (mem : x ∈ joinBlock c l) : x = c ∨ (x ∈ l ∧ x.account ≠ c.account) := by
  induction l with
  | nil => exact .inl (List.mem_singleton.1 mem)
  | cons y l ih =>
    obtain ⟨apart, distinct⟩ := List.nodup_cons.1 distinct
    unfold joinBlock at mem
    split at mem
    next same =>
      rcases List.mem_cons.1 mem with rfl | mem
      · exact .inl rfl
      · exact .inr ⟨List.mem_cons_of_mem y mem, fun e => apart (List.mem_map.2 ⟨x, mem, e.trans same.symm⟩)⟩
    next other =>
      rcases List.mem_cons.1 mem with rfl | mem
      · exact .inr ⟨List.mem_cons_self, other⟩
      · exact (ih distinct mem).imp_right fun ⟨old, e⟩ => ⟨List.mem_cons_of_mem y old, e⟩

/-- The block images are those of the accounts, and each queued block, one of an account at most, is one of
them (R144, R147). -/
def State.imagesMatch (s : State) : Prop :=
  (∀ a : AccountId, s.rsc.images[a] = ⟨a, (s.ia.accounts[a]).regs, (s.ia.accounts[a]).residues⟩) ∧
  (∀ c ∈ s.rsc.blockQueue, c = s.rsc.images[c.account]) ∧ (s.rsc.blockQueue.map (·.account)).Nodup

/-- A block of account `a` is queued. -/
def State.queuesBlock (s : State) (a : AccountId) : Prop := a ∈ s.rsc.blockQueue.map (·.account)

theorem State.closeAccount_images (cause : EndCause) (endTime : Nat) (reopen : Reopen) (a : AccountId) {s : State}
    (images : s.imagesMatch) : (s.closeAccount cause endTime reopen a).imagesMatch ∧
      ∀ b, s.queuesBlock b → (s.closeAccount cause endTime reopen a).queuesBlock b := by
  cases interval : (s.ia.accounts[a]).interval with
  | none => rw [s.closeAccount_none cause endTime reopen interval]; exact ⟨images, fun _ => id⟩
  | some iv =>
    obtain ⟨own, queued, distinct⟩ := images
    obtain ⟨ia, rsc⟩ := s.closeAccount_some cause endTime reopen interval
    unfold State.imagesMatch State.queuesBlock
    rw [ia, rsc]
    generalize (s.ia.accounts[a]).closed s.cm.tables.contract.ratio s.tk.valid
      (reopen.start s.tk.seconds endTime) iv = after
    dsimp only
    refine ⟨⟨fun b => ?_, fun c mem => ?_, ?_⟩, fun b mem => ?_⟩
    · by_cases here : b = a
      · subst here
        rw [vector_set_same, vector_set_same]
      · rw [vector_set_other _ _ here, vector_set_other _ _ here]
        exact own b
    · rcases mem_joinBlock_of_nodup distinct mem with rfl | ⟨old, other⟩
      · exact (vector_set_same _ _ _).symm
      · rw [vector_set_other _ _ other]
        exact queued c old
    · rw [joinBlock_accounts]
      split
      · exact distinct
      next new => exact List.nodup_append.2 ⟨distinct, List.nodup_singleton _, fun x mem y single e =>
          new ((List.mem_singleton.1 single ▸ e) ▸ mem)⟩
    · rw [joinBlock_accounts]
      split
      · exact mem
      · exact List.mem_append_left _ mem

theorem State.closeList_images (cause : EndCause) (endTime : Nat) (reopen : Reopen) (l : List AccountId) {s : State}
    (images : s.imagesMatch) : (s.closeList cause endTime reopen l).imagesMatch ∧
      ∀ b, s.queuesBlock b → (s.closeList cause endTime reopen l).queuesBlock b := by
  induction l generalizing s with
  | nil => exact ⟨images, fun _ => id⟩
  | cons a l ih =>
    obtain ⟨first, queued⟩ := State.closeAccount_images cause endTime reopen a images
    obtain ⟨all, rest⟩ := ih first
    exact ⟨all, fun b mem => rest b (queued b mem)⟩

/-! ## The part while its saved intervals are treated -/

/-- Nothing runs, waits in the reads of the log, is in processing or in service. -/
def State.quiet (s : State) : Prop :=
  s.rsc.readQueue = none ∧ s.rsc.running = none ∧ s.rsc.preempted = none ∧ s.wa.processing = none ∧
    s.mlc.inService = none

/-- FATAL shows whether the part is HALTED (R148). -/
def State.fatalShown (s : State) : Prop := s.cu.ShowsAt 0 ∧ s.cu.sources[0] = s.rsc.halted

/-- What the treatment of saved intervals leaves of the part. -/
structure State.Resumes (u t : State) : Prop where
  rsc : t.rsc = { u.rsc with
    blockQueue := t.rsc.blockQueue, recordQueue := t.rsc.recordQueue, images := t.rsc.images, halted := t.rsc.halted }
  wa : t.wa = u.wa
  mlc : t.mlc = u.mlc
  cm : t.cm = u.cm
  records : ∃ closes, t.rsc.recordQueue = u.rsc.recordQueue ++ closes
  images : u.imagesMatch → t.imagesMatch ∧ ∀ a, u.queuesBlock a → t.queuesBlock a
  pendingBoundary : t.ia.pendingBoundary = u.ia.pendingBoundary
  waiting : (∀ e ∈ u.ia.waiting, e.cause ≠ .boundary) → ∀ e ∈ t.ia.waiting, e.cause ≠ .boundary
  flags : u.flagsMarks → u.fatalShown → t.flagsMarks ∧ t.fatalShown
  keeps : u.flagsMarks → u.fatalShown → ∀ i : Fin 16, i ≠ 0 → i ≠ 9 → i ≠ 12 → u.cu.KeepsAt i t.cu

section
variable {u v t s : State}

theorem State.Resumes.refl (u : State) : u.Resumes u :=
  ⟨rfl, rfl, rfl, rfl, ⟨[], (List.append_nil _).symm⟩, fun h => ⟨h, fun _ => id⟩, rfl, id, fun h k => ⟨h, k⟩,
    fun _ _ i _ _ _ => .refl i _⟩

theorem Controller.idle_eq {r : Controller} (read : r.readQueue = none) (running : r.running = none)
    (preempted : r.preempted = none) : { r with readQueue := none, running := none, preempted := none } = r := by
  cases r
  cases read
  cases running
  cases preempted
  rfl

theorem State.enterHalted_quiet (work : s.rsc.halted = false) (quiet : s.quiet) : s.enterHalted = { s with
    rsc := { s.rsc with halted := true }, cu := s.cu.give s.cm.tables.notice .fatal true } := by
  obtain ⟨read, running, preempted, processing, service⟩ := quiet
  have still : s.wa = { s.wa with processing := none } := by rw [← processing]
  have rsc : ({ s.rsc with
      halted := true, readQueue := none, running := dropRead s.rsc.running
      preempted := dropRead s.rsc.preempted } : Controller) = { s.rsc with halted := true } := by
    rw [running, preempted]
    exact congrArg (fun r : Controller => { r with halted := true }) (Controller.idle_eq read running preempted)
  unfold State.enterHalted
  refine (if_neg (by rw [work]; decide)).trans ((if_neg (c := s.mlc.inService = some .logRead) ?_).trans ?_)
  · rw [service]
    exact fun h => nomatch h
  · show ({ s with
      rsc := { s.rsc with
        halted := true, readQueue := none, running := dropRead s.rsc.running
        preempted := dropRead s.rsc.preempted }
      wa := { s.wa with processing := none } } : State).giveFatal = _
    rw [rsc, ← still]
    rfl

/-- An event that waits is one of close, not of a boundary, where its cause is (R170). -/
theorem State.waitEvent_resumes {e : CloseEvent} (cause : e.cause ≠ .boundary) (u : State) :
    u.Resumes (u.waitEvent e) :=
  { State.Resumes.refl u with
    waiting := fun all x mem => (List.mem_append.1 mem).elim (all x) fun own =>
      (List.mem_singleton.1 own).symm ▸ cause }

theorem State.enterHalted_resumes (work : u.rsc.halted = false) (quiet : u.quiet) : u.Resumes u.enterHalted := by
  rw [State.enterHalted_quiet work quiet]
  refine { State.Resumes.refl u with rsc := rfl, flags := fun flags fatal => ?_, keeps := fun _ _ i fatal _ _ => ?_ }
  · obtain ⟨told, shows, risen⟩ := flags
    obtain ⟨told', shows', source, kept⟩ := ConditionUnit.give_level (c := .fatal) (v := true) told fatal.1 fun _ => rfl
    have twelve := kept 12 (by decide)
    exact ⟨⟨told', twelve.shows shows, fun high => risen (twelve.2.symm.trans high)⟩, shows', source⟩
  · exact ConditionUnit.give_keeps fatal

/-- The closes of the saved intervals (R177). -/
theorem State.closeList_resumes (cause : EndCause) (endTime : Nat) (reopen : Reopen) {l : List AccountId}
    (distinct : l.Nodup) (u : State) : u.Resumes (u.closeList cause endTime reopen l) := by
  have controller := u.closeList_controller cause endTime reopen l
  have spec := u.closeList_spec cause endTime reopen l distinct
  have images := fun h : u.imagesMatch => State.closeList_images cause endTime reopen l h
  have flags := fun h : u.flagsMarks => State.closeList_flagsMarks cause endTime reopen l h
  have frame := u.closeList_frame cause endTime reopen l
  dsimp only at spec
  generalize u.closeList cause endTime reopen l = t at spec controller images flags frame ⊢
  obtain ⟨-, -, -, -, -, -, wa, -, -, -, -, cm, -, mlc, -⟩ := frame
  obtain ⟨-, -, -, ia, rs, queue, -⟩ := spec
  exact {
    rsc := by rw [controller]
    wa := wa
    mlc := mlc
    cm := cm
    records := ⟨rs, queue⟩
    images := images
    pendingBoundary := by rw [ia]
    waiting := fun all => by rw [ia]; exact all
    flags := fun h fatal => by
      obtain ⟨marks, kept⟩ := flags h
      have zero := kept 0 (by decide) (by decide)
      exact ⟨marks, zero.shows fatal.1, zero.2.trans (fatal.2.trans (by rw [controller]))⟩
    keeps := fun h _ i _ closed flag => (flags h).2 i closed flag }

theorem State.Resumes.trans (h : u.Resumes v) (k : v.Resumes t) : u.Resumes t where
  rsc := by rw [k.rsc, h.rsc]
  wa := k.wa.trans h.wa
  mlc := k.mlc.trans h.mlc
  cm := k.cm.trans h.cm
  records := by
    obtain ⟨first, eq⟩ := h.records
    obtain ⟨then_, eq'⟩ := k.records
    exact ⟨first ++ then_, by rw [eq', eq, List.append_assoc]⟩
  images own := by
    obtain ⟨middle, kept⟩ := h.images own
    obtain ⟨last, kept'⟩ := k.images middle
    exact ⟨last, fun a mem => kept' a (kept a mem)⟩
  pendingBoundary := k.pendingBoundary.trans h.pendingBoundary
  waiting all := k.waiting (h.waiting all)
  flags marks fatal := k.flags (h.flags marks fatal).1 (h.flags marks fatal).2
  keeps marks fatal i not_fatal closed flag := (h.keeps marks fatal i not_fatal closed flag).trans
    (k.keeps (h.flags marks fatal).1 (h.flags marks fatal).2 i not_fatal closed flag)

/-- An event of closes, not a boundary's, that opens no boundary afresh. -/
theorem State.raiseEvent_resumes {e : CloseEvent} (cause : e.cause ≠ .boundary) (stands : e.fresh = false)
    (work : u.rsc.halted = false) (quiet : u.quiet) : u.Resumes (u.raiseEvent e) := by
  unfold State.raiseEvent
  split
  · exact State.waitEvent_resumes cause u
  · split
    · exact (State.waitEvent_resumes cause u).trans (State.enterHalted_resumes (u := u.waitEvent e) work quiet)
    · unfold State.runEvent State.closeAll
      dsimp only
      rw [if_neg (by rw [stands]; decide)]
      exact State.closeList_resumes _ _ _ (List.nodup_finRange 8) u

/-- The saved interval stands in the account, with OUTAGE (R177). -/
theorem Accountant.takeSaved_account (c : SavedState) (ia : Accountant) (a : AccountId) :
    (ia.takeSaved c).accounts[a] = { ia.accounts[a] with
      interval := (c.accounts[a]).interval.map fun iv => { iv with outage := true } } :=
  Vector.getElem_ofFn a.isLt

theorem Accountant.takeSaved_marked (c : SavedState) (ia : Accountant) : (ia.takeSaved c).marked = ia.marked := by
  rw [Bool.eq_iff_iff, Accountant.marked_iff, Accountant.marked_iff]
  refine exists_congr fun a => exists_congr fun i => ?_
  rw [Accountant.takeSaved_account]

/-- The saved intervals taken, with the next boundary that is to stand (R177). -/
theorem State.takeSaved_resumes (c : SavedState) (next : Option Nat) (u : State) :
    u.Resumes (u.updIa fun ia => { ia.takeSaved c with nextBoundary := next }) :=
  { State.Resumes.refl u with
    images := fun ⟨own, queued, distinct⟩ => ⟨⟨fun a => (own a).trans (by
      rw [show (u.updIa fun ia => { ia.takeSaved c with nextBoundary := next }).ia.accounts[a] = _ from
        u.ia.takeSaved_account c a]), queued, distinct⟩, fun _ => id⟩
    flags := fun ⟨told, shows, risen⟩ fatal =>
      ⟨⟨told, shows, fun high => (u.ia.takeSaved_marked c).trans (risen high)⟩, fatal⟩ }

/-- What the treatment of the saved intervals leaves, whatever it is (R177). -/
theorem State.resumeSaved_resumes (c : SavedState) (outcome : Option SavedOutcome) (work : u.rsc.halted = false)
    (quiet : u.quiet) : u.Resumes (u.resumeSaved c outcome) := by
  have taken := u.takeSaved_resumes c u.ia.nextBoundary
  have closes (reopen : Reopen) (endTime : Nat) : u.Resumes
      (if (u.updIa (·.takeSaved c)).openCount = 0 then u.updIa (·.takeSaved c)
        else (u.updIa (·.takeSaved c)).raiseEvent ⟨.outage, endTime, reopen, false, false⟩) := by
    split
    · exact taken
    · exact taken.trans (State.raiseEvent_resumes (u := u.updIa (·.takeSaved c))
        (fun boundary => (nomatch boundary)) rfl work quiet)
  cases outcome with
  | none => exact .refl u
  | some o =>
    cases o with
    | continued => exact u.takeSaved_resumes c c.nextBoundary
    | closed => exact closes .atCount _
    | forcedClosed => exact closes .nothing _

end

end Sys2Proof.Machine
end

section
/-! How a start-up treats the saved intervals: continued, closed, or closed with none opening (R40, R177). -/

namespace Sys2Proof.Machine

section
variable {s u t : State} {c : SavedState}

theorem SavedState.anyOpen_iff : c.anyOpen = true ↔ c.opens ≠ [] := by
  unfold SavedState.anyOpen SavedState.opens
  rw [vector_any_iff, ne_eq, List.filter_eq_nil_iff]
  simp only [List.mem_finRange, true_imp_iff, not_forall, not_not]

theorem SavedState.mem_opens {a : AccountId} : a ∈ c.opens ↔ (c.account a).interval ≠ none := by
  unfold SavedState.opens
  rw [List.mem_filter, and_iff_right (List.mem_finRange a), Option.isSome_iff_ne_none]
  exact not_congr Option.map_eq_none_iff.symm

/-! ## The outcome -/

theorem State.savedOutcome_forced : s.savedOutcome true c = some .forcedClosed := if_pos rfl

theorem State.savedOutcome_commissioning (mode : c.mode = .commissioning) :
    s.savedOutcome false c = if c.opens = [] then none else some .forcedClosed := by
  unfold State.savedOutcome
  rw [if_neg Bool.false_ne_true, mode]
  by_cases opens : c.opens = []
  · rw [if_pos opens]
    exact if_neg (mt SavedState.anyOpen_iff.1 (not_not.2 opens))
  · rw [if_neg opens]
    exact if_pos (SavedState.anyOpen_iff.2 opens)

theorem State.savedOutcome_metering (mode : c.mode = .metering) :
    (c.continues s.tk → s.savedOutcome false c = some .continued) ∧
      (¬ c.continues s.tk → s.savedOutcome false c = some .closed) := by
  unfold State.savedOutcome
  rw [if_neg Bool.false_ne_true, mode]
  dsimp only
  cases next : c.nextBoundary with
  | none =>
    refine ⟨fun ⟨_, _, _, b, boundary, _⟩ => ?_, fun _ => rfl⟩
    exact nomatch next.symm.trans boundary
  | some b =>
    have iff : (s.tk.valid && !c.boundaryPending &&
        decide (c.time.seconds * 1000 + c.time.millis ≤ s.tk.ms ∧ s.tk.seconds < b)) = true ↔ c.continues s.tk := by
      unfold SavedState.continues Timekeeper.ms
      rw [Bool.and_eq_true, Bool.and_eq_true, decide_eq_true_eq, Bool.not_eq_true', next]
      simp only [Option.some.injEq, exists_eq_left', and_assoc]
    exact ⟨fun continues => if_pos (iff.2 continues), fun stops => if_neg (mt iff.1 stops)⟩

/-! ## The accounts as the save holds them -/

/-- Before the saved intervals are taken the accounts hold the saved registers and residues (R147). -/
def State.holdsSaved (u : State) (c : SavedState) : Prop :=
  ∀ a : AccountId, u.ia.accounts[a] = { c.account a with interval := none }

theorem State.takeSaved_account (holds : u.holdsSaved c) (a : AccountId) :
    (u.ia.takeSaved c).accounts[a] = c.account a := by
  rw [Accountant.takeSaved_account, holds a]
  rfl

theorem State.takeSaved_opens (holds : u.holdsSaved c) :
    (List.finRange 8).filter (fun a => (((u.ia.takeSaved c).accounts[a]).interval).isSome) = c.opens := by
  refine List.filter_congr fun a _ => ?_
  rw [State.takeSaved_account holds a]
  exact Option.isSome_map

theorem State.takeSaved_openCount (holds : u.holdsSaved c) :
    (u.updIa (·.takeSaved c)).openCount = c.opens.length :=
  congrArg List.length (State.takeSaved_opens holds)

/-! ## The closes -/

/-- The closes of the saved intervals, opening as `reopen` says (R177). -/
def State.closeSaved (c : SavedState) (reopen : Reopen) (u : State) : State :=
  if (u.updIa (·.takeSaved c)).openCount = 0 then u.updIa (·.takeSaved c)
  else (u.updIa (·.takeSaved c)).raiseEvent
    ⟨.outage, if c.time.valid then c.time.seconds else 0, reopen, false, false⟩

theorem State.resumeSaved_closed : u.resumeSaved c (some .closed) = u.closeSaved c .atCount := rfl

theorem State.resumeSaved_forced : u.resumeSaved c (some .forcedClosed) = u.closeSaved c .nothing := rfl

/-- What the closes leave where they are made at once (R40, R177). -/
structure State.ClosedSaved (u : State) (c : SavedState) (start : Option Nat) (t : State) : Prop where
  closes : ∃ closes, t.rsc.recordQueue = u.rsc.recordQueue ++ closes ∧
    t.savedClosed c start u.ia.nextSeq closes
  others : ∀ a : AccountId, a ∉ c.opens → t.ia.accounts[a] = c.account a

theorem State.closeSaved_none {reopen : Reopen} (none : (u.updIa (·.takeSaved c)).openCount = 0) :
    u.closeSaved c reopen = u.updIa (·.takeSaved c) := if_pos none

theorem State.closeSaved_made {reopen : Reopen} (some : (u.updIa (·.takeSaved c)).openCount ≠ 0)
    (ready : (u.updIa (·.takeSaved c)).closesReady) : u.closeSaved c reopen =
      (u.updIa (·.takeSaved c)).closeList .outage (if c.time.valid then c.time.seconds else 0) reopen
        (List.finRange 8) := by
  unfold State.closeSaved
  rw [if_neg some, State.raiseEvent_of_closesReady ready]
  unfold State.runEvent State.closeAll
  dsimp only
  rw [if_neg Bool.false_ne_true]

theorem State.closeSaved_closed {reopen : Reopen} (holds : u.holdsSaved c) (waiting : u.ia.waiting = [])
    (normal : u.sm.state = .normal) (work : u.rsc.halted = false)
    (places : u.rsc.records.length + c.opens.length ≤ 16) (seq : u.ia.nextSeq + c.opens.length ≤ 4294967296) :
    u.ClosedSaved c (reopen.start u.tk.seconds (if c.time.valid then c.time.seconds else 0))
      (u.closeSaved c reopen) := by
  have opens := State.takeSaved_openCount holds
  by_cases shut : (u.updIa (·.takeSaved c)).openCount = 0
  · have empty : c.opens = [] := List.eq_nil_of_length_eq_zero (opens.symm.trans shut)
    rw [State.closeSaved_none shut]
    refine ⟨⟨[], (List.append_nil _).symm, ?_, waiting, work, ?_, empty.symm, fun r mem => (nomatch mem), fun a mem => ?_⟩,
      fun a _ => State.takeSaved_account holds a⟩
    · rw [empty]; rfl
    · rw [empty]; rfl
    · exact absurd mem (empty ▸ List.not_mem_nil)
  · have free : (u.updIa (·.takeSaved c)).rsc.freePlaces = 16 - u.rsc.records.length := rfl
    have ready : (u.updIa (·.takeSaved c)).closesReady := by
      refine ⟨normal, work, waiting, ?_, ?_⟩
      · rw [opens, free]
        omega
      · rw [opens]
        exact seq
    rw [State.closeSaved_made shut ready]
    have accounts (a : AccountId) : (u.updIa (·.takeSaved c)).ia.accounts[a] = c.account a :=
      State.takeSaved_account holds a
    have among : (u.updIa (·.takeSaved c)).openAmong (List.finRange 8) = c.opens.length := opens
    have filtered : (List.finRange 8).filter (fun a => ((u.updIa (·.takeSaved c)).ia.accounts[a]).interval.isSome) =
      c.opens := State.takeSaved_opens holds
    have spec := (u.updIa (·.takeSaved c)).closeList_spec .outage (if c.time.valid then c.time.seconds else 0)
      reopen (List.finRange 8) (List.nodup_finRange 8)
    have controller := (u.updIa (·.takeSaved c)).closeList_controller .outage
      (if c.time.valid then c.time.seconds else 0) reopen (List.finRange 8)
    have frame := (u.updIa (·.takeSaved c)).closeList_frame .outage
      (if c.time.valid then c.time.seconds else 0) reopen (List.finRange 8)
    dsimp only at spec
    generalize (u.updIa (·.takeSaved c)).closeList .outage (if c.time.valid then c.time.seconds else 0) reopen
      (List.finRange 8) = t at spec controller frame ⊢
    obtain ⟨-, -, -, tk, -, -, -, -, -, -, -, cm, -⟩ := frame
    obtain ⟨-, closed, next, ia, closes, queue, seqs, owners, built⟩ := spec
    rw [among] at next seqs
    rw [filtered] at owners
    have closed' (a : AccountId) : accountClosed u.cm.tables.contract u.tk.valid
        (reopen.start u.tk.seconds (if c.time.valid then c.time.seconds else 0)) (c.account a) t.ia.accounts[a] := by
      rw [← accounts a]
      exact closed a (List.mem_finRange a)
    refine ⟨⟨closes, queue, next, ?_, ?_, seqs, owners, fun r mem => ?_, fun a _ => ?_⟩, fun a out => ?_⟩
    · rw [ia]
      exact waiting
    · rw [controller]
      exact work
    · obtain ⟨iv, interval, e⟩ := built r mem
      rw [accounts] at interval
      obtain ⟨saved, -, rfl⟩ := Option.map_eq_some_iff.1 interval
      rw [e]
      exact ⟨rfl, rfl, rfl⟩
    · rw [cm, tk]
      exact closed' a
    · have none : (c.account a).interval = none := not_not.1 (mt SavedState.mem_opens.2 out)
      have same := closed' a
      unfold accountClosed at same
      rw [none] at same
      exact same

end

end Sys2Proof.Machine
end

section
/-! The end of a start-up: the PFW input, the links, the mode and the levels (R112, R174, R175, R179). -/

namespace Sys2Proof.Machine

section
variable {s : State}

/-! ## The PFW input -/

theorem firstBoundary_eq_none {l : List CloseEvent} (all : ∀ e ∈ l, e.cause ≠ .boundary) : firstBoundary l = none := by
  induction l with
  | nil => rfl
  | cons e l ih =>
    unfold firstBoundary
    rw [if_neg (all e List.mem_cons_self)]
    exact ih fun x mem => all x (List.mem_cons_of_mem e mem)

theorem Accountant.holdBoundaries_none {ia : Accountant} (all : ∀ e ∈ ia.waiting, e.cause ≠ .boundary) :
    ia.holdBoundaries = ia := by
  unfold Accountant.holdBoundaries
  rw [firstBoundary_eq_none all]

theorem Assembler.dropResults_idle {w : Assembler} (idle : w.processing = none) : w.dropResults = w := by
  unfold Assembler.dropResults
  cases w
  cases idle
  rfl

/-- PFW asserted at the end of the load: the save is called, and nothing is held or in service (R170, R175). -/
theorem State.pfwAsserted_quiet (quiet : s.quiet) (normal : s.sm.state = .normal)
    (waiting : ∀ e ∈ s.ia.waiting, e.cause ≠ .boundary) : s.pfwAsserted = { s with
      sm := { s.sm with state := .saving, deassertHeld := false, saveCalled := true }
      rsc := { s.rsc with saveQueue := some .save }
      cu := s.cu.give s.cm.tables.notice .supply true } := by
  obtain ⟨-, -, -, processing, service⟩ := quiet
  have silent (t : State) (mlc : t.mlc = s.mlc) : t.releaseTimeSet = t := by
    unfold State.releaseTimeSet
    rw [if_neg]
    rintro ⟨serving, -⟩
    exact nomatch serving.symm.trans ((congrArg MsgController.inService mlc).trans service)
  rw [State.pfwAsserted_of_normal normal, silent _ (by simp [State.saving])]
  unfold State.saving
  rw [show ((s.updSm fun m => { m with state := .saving, deassertHeld := false }).updIa Accountant.holdBoundaries) =
    { s with
      sm := { s.sm with state := .saving, deassertHeld := false }, ia := s.ia.holdBoundaries } from rfl,
    Accountant.holdBoundaries_none waiting]
  exact congrArg (fun w : Assembler => { s with
    wa := w
    sm := { s.sm with state := .saving, deassertHeld := false, saveCalled := true }
    rsc := { s.rsc with saveQueue := some .save }
    cu := s.cu.give s.cm.tables.notice .supply true }) (Assembler.dropResults_idle processing)

/-! ## The links -/

theorem Link.reset_offering (freq : FreqClass) (own : LinkTx) :
    ({ Link.reset with
      state := .offering, candidate := none, refused := none, acceptRun := 0, windowRun := 0, windowRunSeq := none
      offerRun := 0, offerRunContent := none, lastOffer := Link.reset.lastOffer, silence := none
      breakHold := none } : Link).due own = { Link.started freq with waiting := [own] } := rfl

/-- A link enters OFFERING at start-up where it is enabled (R112). -/
def State.startLink (s : State) (l : LinkId) : State :=
  if (s.cm.tables.links[l]).enabled then s.enterOffering l none else s

theorem State.startLink_kept (l : LinkId) (s : State) : (s.startLink l).cm = s.cm ∧ (s.startLink l).straps = s.straps ∧
    ∀ k, k ≠ l → (s.startLink l).links[k] = s.links[k] := by
  unfold State.startLink
  split
  · exact ⟨rfl, rfl, fun k other => vector_set_other _ _ other⟩
  · exact ⟨rfl, rfl, fun _ _ => rfl⟩

theorem State.startLink_own {l : LinkId} (reset : s.links[l] = Link.reset) : (s.startLink l).links[l] =
    if (s.cm.tables.links[l]).enabled then { Link.started s.straps.freq with waiting := [s.ownOffer l] }
    else Link.reset := by
  unfold State.startLink
  split
  · refine (vector_set_same _ _ _).trans ?_
    rw [reset]
    exact Link.reset_offering _ _
  · exact reset

theorem State.startLinks_other {ls : List LinkId} {l : LinkId} (absent : l ∉ ls) :
    (s.startLinks ls).links[l] = s.links[l] := by
  induction ls generalizing s with
  | nil => rfl
  | cons k ls ih =>
    obtain ⟨here, later⟩ := not_or.1 (mt List.mem_cons.2 absent)
    exact (ih later).trans ((s.startLink_kept k).2.2 l here)

/-- Each enabled link of a list enters OFFERING with its OFFER due (R112). -/
theorem State.startLinks_links {ls : List LinkId} (distinct : ls.Nodup) {l : LinkId} (mem : l ∈ ls)
    (reset : s.links[l] = Link.reset) : (s.startLinks ls).links[l] =
      if (s.cm.tables.links[l]).enabled then { Link.started s.straps.freq with waiting := [s.ownOffer l] }
      else Link.reset := by
  induction ls generalizing s with
  | nil => cases mem
  | cons k ls ih =>
    obtain ⟨apart, distinct⟩ := List.nodup_cons.1 distinct
    by_cases here : l = k
    · subst here
      exact (State.startLinks_other (s := s.startLink l) apart).trans (State.startLink_own reset)
    · obtain ⟨cm, straps, others⟩ := s.startLink_kept k
      have own : (s.startLink k).ownOffer l = s.ownOffer l := by
        unfold State.ownOffer
        rw [cm, straps]
      refine (ih (s := s.startLink k) distinct ((List.mem_cons.1 mem).resolve_left here)
        ((others l here).trans reset)).trans ?_
      rw [cm, straps, own]

/-! ## The mode -/

theorem State.mem_idleAccounts {a : AccountId} : a ∈ s.idleAccounts ↔ (s.ia.accounts[a]).interval = none := by
  unfold State.idleAccounts
  rw [List.mem_filter, Option.isNone_iff_eq_none]
  exact and_iff_right (List.mem_finRange a)

theorem State.openAll_changes (l : List AccountId) (s : State) : s.openAll l = { s with
    ia := { s.ia with accounts := (s.openAll l).ia.accounts } } := by
  induction l generalizing s with
  | nil => rfl
  | cons a l ih => exact ih (s.openAccount s.tk.seconds a)

/-- The accounts once the device has entered its mode (R26, R179). -/
def State.modeAccounts (s : State) : Vector Account 8 :=
  if s.cm.mode = .metering then (s.openAll s.idleAccounts).ia.accounts else s.ia.accounts

theorem State.modeAccounts_metering (metering : s.cm.mode = .metering) (a : AccountId) :
    s.modeAccounts[a] = if (s.ia.accounts[a]).interval = none then
      (s.ia.accounts[a]).opened s.tk.valid s.tk.seconds else s.ia.accounts[a] := by
  have distinct : s.idleAccounts.Nodup := (List.nodup_finRange 8).filter _
  obtain ⟨outside, inside⟩ := State.openAll_accounts distinct s
  unfold State.modeAccounts
  rw [if_pos metering]
  by_cases idle : (s.ia.accounts[a]).interval = none
  · rw [if_pos idle, inside a (State.mem_idleAccounts.2 idle)]
  · rw [if_neg idle, outside a (mt State.mem_idleAccounts.1 idle)]

theorem State.modeAccounts_commissioning (commissioning : s.cm.mode = .commissioning) :
    s.modeAccounts = s.ia.accounts := by
  unfold State.modeAccounts
  rw [if_neg]
  rw [commissioning]
  exact fun h => nomatch h

theorem State.enterMode_eq (s : State) : s.enterMode = { s with
    ia := { s.ia with
      accounts := s.modeAccounts, nextBoundary := if s.continues then s.ia.nextBoundary else s.boundaryAfresh } } := by
  have opened : (if s.cm.mode = .metering then s.openAll s.idleAccounts else s) = { s with
      ia := { s.ia with accounts := s.modeAccounts } } := by
    unfold State.modeAccounts
    split
    · exact s.openAll_changes _
    · rfl
  unfold State.enterMode
  dsimp only
  rw [opened]
  split
  · rfl
  · rfl

/-! ## The levels -/

/-- A condition unit that has told, and in which every level flag shows its source. -/
def ConditionUnit.Ready (masked : Vector Bool 16) (cu : ConditionUnit) : Prop :=
  cu.Told masked ∧ ∀ i : Fin 16, isPulse i = false → cu.ShowsAt i

theorem ConditionUnit.give_ready {n : NoticeTable} {c : Condition} {v : Bool} {cu : ConditionUnit}
    (ready : cu.Ready n.masked) (level : isPulse c.idx = false) (stays : cu.sources[c.idx] = true → v = true) :
    (cu.give n c v).Ready n.masked := by
  obtain ⟨told, shows⟩ := ready
  obtain ⟨told', own, -, others⟩ := ConditionUnit.give_level told (shows c.idx level) stays
  refine ⟨told', fun i pulse => ?_⟩
  by_cases here : i = c.idx
  · exact here ▸ own
  · exact (others i here).shows (shows i pulse)

/-- A level is given that had not risen; the levels `l` to be given after it have not either. -/
theorem ConditionUnit.give_low {n : NoticeTable} {c : Condition} {v : Bool} {cu : ConditionUnit} {l : List (Fin 16)}
    (ready : cu.Ready n.masked) (low : ∀ i ∈ c.idx :: l, cu.sources[i] = false) (apart : c.idx ∉ l)
    (level : isPulse c.idx = false) : (cu.give n c v).Ready n.masked ∧
      (∀ i ∈ l, (cu.give n c v).sources[i] = false) ∧ (cu.give n c v).sources[c.idx] = v ∧
      ∀ i, i ≠ c.idx → cu.KeepsAt i (cu.give n c v) := by
  have own : cu.sources[c.idx] = false := low _ List.mem_cons_self
  refine ⟨ConditionUnit.give_ready ready level fun high => absurd (own.symm.trans high) (by decide), fun i mem => ?_,
    ConditionUnit.give_source n c v cu, fun i other => ConditionUnit.give_keeps other⟩
  have other : i ≠ c.idx := fun e => apart (e ▸ mem)
  exact (ConditionUnit.give_source_other n v cu other).trans (low i (List.mem_cons_of_mem _ mem))

/-- REGISTER-FLAG given anew where it has risen for marked registers only (R25). -/
theorem State.registerGiven (ready : s.cu.Ready s.cm.tables.notice.masked)
    (marked : s.cu.sources[12] = true → s.ia.marked = true)
    (low : ∀ i ∈ ([4, 5, 7, 14] : List (Fin 16)), s.cu.sources[i] = false) :
    s.giveRegisterFlag.cu.Ready s.cm.tables.notice.masked ∧
      (∀ i ∈ ([4, 5, 7, 14] : List (Fin 16)), s.giveRegisterFlag.cu.sources[i] = false) ∧
      s.giveRegisterFlag.cu.sources[12] = s.ia.marked ∧ ∀ i, i ≠ 12 → s.cu.KeepsAt i s.giveRegisterFlag.cu := by
  refine ⟨ConditionUnit.give_ready ready (c := .registerFlag) rfl marked, fun i mem => ?_,
    ConditionUnit.give_source _ .registerFlag _ _, fun i other => ConditionUnit.give_keeps other⟩
  have other : i ≠ 12 := fun e => absurd (e ▸ mem) (by decide)
  exact (ConditionUnit.give_source_other _ _ _ (c := .registerFlag) other).trans (low i mem)

/-- What the levels at the end of a start-up leave of the condition unit `cu` (R174). -/
structure State.Levelled (s : State) (cu : ConditionUnit) : Prop where
  ready : cu.Ready s.cm.tables.notice.masked
  register : cu.sources[12] = s.ia.marked
  fault : cu.sources[4] = s.points.toList.any fun p => p.fault
  substitution : cu.sources[5] = s.points.toList.any fun p => p.mode != .direct
  breaker : cu.sources[7] = breakerUnknown s.cm.tables.breakers s.tr
  time : cu.sources[14] = !s.tk.valid
  keeps : ∀ i : Fin 16, i ≠ 12 → i ≠ 4 → i ≠ 5 → i ≠ 7 → i ≠ 14 → s.cu.KeepsAt i cu

theorem State.startLevels_levelled (ready : s.cu.Ready s.cm.tables.notice.masked)
    (marked : s.cu.sources[12] = true → s.ia.marked = true)
    (low : ∀ i ∈ ([4, 5, 7, 14] : List (Fin 16)), s.cu.sources[i] = false) : s.Levelled s.startLevels.cu := by
  obtain ⟨ready₁, low₁, register, kept₁⟩ := State.registerGiven ready marked low
  show s.Levelled ((((s.giveRegisterFlag.cu.give s.cm.tables.notice .pointFault
    (s.points.toList.any fun p => p.fault)).give s.cm.tables.notice .substitution
      (s.points.toList.any fun p => p.mode != .direct)).give s.cm.tables.notice .breakerUnknown
        (breakerUnknown s.cm.tables.breakers s.tr)).give s.cm.tables.notice .timeInvalid (!s.tk.valid))
  generalize s.giveRegisterFlag.cu = a at ready₁ low₁ register kept₁ ⊢
  obtain ⟨ready₂, low₂, fault, kept₂⟩ := ConditionUnit.give_low (c := .pointFault)
    (v := s.points.toList.any fun p => p.fault) ready₁ low₁ (by decide) rfl
  generalize a.give s.cm.tables.notice .pointFault (s.points.toList.any fun p => p.fault) = b
    at ready₂ low₂ fault kept₂ ⊢
  obtain ⟨ready₃, low₃, substitution, kept₃⟩ := ConditionUnit.give_low (c := .substitution)
    (v := s.points.toList.any fun p => p.mode != .direct) ready₂ low₂ (by decide) rfl
  generalize b.give s.cm.tables.notice .substitution (s.points.toList.any fun p => p.mode != .direct) = c
    at ready₃ low₃ substitution kept₃ ⊢
  obtain ⟨ready₄, low₄, breaker, kept₄⟩ := ConditionUnit.give_low (c := .breakerUnknown)
    (v := breakerUnknown s.cm.tables.breakers s.tr) ready₃ low₃ (by decide) rfl
  generalize c.give s.cm.tables.notice .breakerUnknown (breakerUnknown s.cm.tables.breakers s.tr) = d
    at ready₄ low₄ breaker kept₄ ⊢
  obtain ⟨ready₅, -, time, kept₅⟩ := ConditionUnit.give_low (c := .timeInvalid) (v := !s.tk.valid) ready₄ low₄
    (by decide) rfl
  generalize d.give s.cm.tables.notice .timeInvalid (!s.tk.valid) = e at ready₅ time kept₅ ⊢
  have late {i : Fin 16} (h4 : i ≠ 4) (h5 : i ≠ 5) (h7 : i ≠ 7) (h14 : i ≠ 14) : a.KeepsAt i e :=
    (((kept₂ i h4).trans (kept₃ i h5)).trans (kept₄ i h7)).trans (kept₅ i h14)
  exact {
    ready := ready₅
    register := (late (i := 12) (by decide) (by decide) (by decide) (by decide)).2.trans register
    fault := (((kept₃ 4 (by decide)).trans (kept₄ 4 (by decide))).trans (kept₅ 4 (by decide))).2.trans fault
    substitution := ((kept₄ 5 (by decide)).trans (kept₅ 5 (by decide))).2.trans substitution
    breaker := (kept₅ 7 (by decide)).2.trans breaker
    time := time
    keeps := fun i h12 h4 h5 h7 h14 => (kept₁ i h12).trans (late h4 h5 h7 h14) }

end

end Sys2Proof.Machine
end

section
/-! The part when a start-up has loaded its store (R146, R147, R152, R177, R178). -/

namespace Sys2Proof.Machine

/-- The store controller after the load of store `st`, with the configuration jobs `jobs` (R146, R147). -/
def Store.controller (st : Store) (jobs : List ConfigJob) : Controller :=
  { saveQueue := if st.consumption st.loadMap = none then some .running else none
    blockQueue := st.rewritten st.loadMap
    recordQueue := st.pending st.loadMap
    configQueue := jobs
    readQueue := none, patrolQueued := false, running := none, preempted := none
    map := st.loadMap
    oldest := st.oldest st.loadMap
    newest := st.newest st.loadMap
    newestSlot := ((st.findLog st.loadMap).map (·.newestSlot)).getD 0
    images := Vector.ofFn fun a => (st.found st.loadMap a).1
    patrolPos := .account 0
    patrolTimer := st.loadManager.tables.patrol
    history := [], alert := false, saveFailed := false, counters := StoreCounters.zero
    consumption := st.consumption st.loadMap
    halted := false }

/-- The interval accountant after the load of store `st` (R147, R178). -/
def Store.accountant (st : Store) : Accountant :=
  { accounts := Vector.ofFn (st.foundAccount st.loadMap)
    nextBoundary := none, pendingBoundary := none, nextSeq := st.nextSeq st.loadMap, waiting := [] }

/-- The part once it has loaded the store of `w` (R146, R147, R152, R177). -/
structure State.Loaded (w t : State) : Prop where
  frame : t = { w.cleared with
    cm := { w.store.loadManager with mode := t.cm.mode, locked := t.cm.locked }
    points := Vector.ofFn fun p => Point.reset w.store.loadManager.stored[p]
    rsc := w.store.controller t.rsc.configQueue
    ia := w.store.accountant
    cu := t.cu }
  forced : w.store.forces w.store.highestGeneration →
    t.cm.mode = .commissioning ∧ t.cm.locked = w.store.loadManager.locked
  free : ¬ w.store.forces w.store.highestGeneration →
    t.cm.mode = ((SaveBlock.saved? w.store.save).map (·.mode)).getD w.store.loadManager.mode ∧
      t.cm.locked = ((SaveBlock.saved? w.store.save).map (·.locked)).getD w.store.loadManager.locked
  jobs : ∀ j ∈ t.rsc.configQueue, t.jobCurrent j
  queues : ∀ x, t.rsc.queues x ↔ w.store.configBlock x = none ∨ (x = .contract ∧
    (t.cm.mode, t.cm.locked) ≠ (w.store.loadManager.mode, w.store.loadManager.locked))
  told : t.cu.Told w.store.loadManager.tables.notice.masked
  reset : ∀ i : Fin 16, i ≠ 11 → i ≠ 13 → ConditionUnit.reset.KeepsAt i t.cu
  repaired : t.cu.flags[11] = true ↔ (∃ x, w.store.configBlock x = none) ∨
    ∃ a : AccountId, w.store.block (w.store.loadMap.blockOf a) = none
  rejected : t.cu.flags[13] = true ↔ ∃ c, SaveBlock.saved? w.store.save = some c ∧
    w.store.highestGeneration < c.generation

theorem ConditionUnit.reset_flag (i : Fin 16) : ConditionUnit.reset.flags[i] = false :=
  Vector.getElem_replicate i.isLt

theorem ConditionUnit.reset_source (i : Fin 16) : ConditionUnit.reset.sources[i] = false :=
  Vector.getElem_replicate i.isLt

section
variable {w s t : State}

/-- The part once the tables and the accounts are loaded, before the mode is settled (R146, R147). -/
structure State.StoreLoaded (w s : State) : Prop where
  frame : s = { w.cleared with
    cm := w.store.loadManager
    points := Vector.ofFn fun p => Point.reset w.store.loadManager.stored[p]
    rsc := w.store.controller s.rsc.configQueue
    ia := w.store.accountant
    cu := s.cu }
  jobs : ∀ j ∈ s.rsc.configQueue, s.jobCurrent j
  queues : ∀ x, s.rsc.queues x ↔ w.store.configBlock x = none
  cu : ConditionUnit.reset.Repaired w.store.loadManager.tables.notice.masked
    ((∃ x, w.store.configBlock x = none) ∨ ∃ a : AccountId, w.store.block (w.store.loadMap.blockOf a) = none) s.cu

theorem State.loadConfig_storeLoaded (w : State) : w.StoreLoaded w.cleared.loadConfig.loadAccounts := by
  have config := State.loadConfig_loaded (s := w.cleared) rfl
  generalize w.cleared.loadConfig = u at config ⊢
  obtain ⟨frame, jobs, queues, cu⟩ := config
  rw [show w.cleared.store = w.store from rfl] at frame queues cu
  have map : u.rsc.map = w.store.loadMap := by rw [frame]
  have store : u.store = w.store := by rw [frame]
  have cm : u.cm = w.store.loadManager := by rw [frame]
  have accounts := u.loadAccounts_loaded (by rw [frame]; rfl) (by rw [frame]; rfl) (by rw [frame]; rfl)
  generalize u.loadAccounts = s at accounts ⊢
  obtain ⟨frame', cu'⟩ := accounts
  rw [store, map] at frame' cu'
  rw [cm] at cu'
  have configs : s.rsc.configQueue = u.rsc.configQueue := by rw [frame']; rfl
  constructor
  case frame =>
    rw [configs]
    refine frame'.trans ?_
    generalize s.cu = cu
    generalize u.rsc.configQueue = queue at frame ⊢
    rw [frame]
    unfold Controller.accountsLoaded Store.controller Store.accountant
    rfl
  case jobs =>
    rw [configs]
    exact fun j mem => (jobs j mem).congr (by rw [frame']) (by rw [frame']; rfl)
  case queues =>
    intro x
    unfold Controller.queues
    rw [configs]
    exact queues x
  case cu => exact cu.trans cu'

/-- The part once its mode is settled (R152, R177). -/
theorem State.StoreLoaded.settled (loaded : w.StoreLoaded s) :
    w.Loaded (s.settleManager (SaveBlock.saved? w.store.save)) := by
  obtain ⟨frame, jobs, queues, cu⟩ := loaded
  have store : s.store = w.store := by rw [frame]; rfl
  have cm : s.cm = w.store.loadManager := by rw [frame]
  have settled := State.settleManager_settled (s := s) (by rw [cm, store]) jobs (by rw [store]; exact queues)
  have forced := State.forced_iff (s := s)
  have settled_forced := State.settled_forced (s := s) (saved := SaveBlock.saved? w.store.save)
  have settled_free := State.settled_free (s := s) (saved := SaveBlock.saved? w.store.save)
  rw [store] at settled forced
  rw [cm] at settled_forced settled_free
  obtain ⟨frame', jobs', queues', told, keeps, flag⟩ := settled
  rw [store] at frame' queues' flag
  rw [cm] at frame' queues' told
  generalize s.settleManager (SaveBlock.saved? w.store.save) = t at frame' jobs' queues' told keeps flag ⊢
  generalize s.settled (SaveBlock.saved? w.store.save) = x at frame' queues' settled_forced settled_free
  have mode : t.cm.mode = x.1 := by rw [frame']
  have locked : t.cm.locked = x.2 := by rw [frame']
  constructor
  case frame =>
    rw [mode, locked]
    refine frame'.trans ?_
    generalize t.cu = c
    generalize t.rsc.configQueue = queue
    rw [frame]
    rfl
  case forced =>
    intro forces
    rw [mode, locked, settled_forced (forced.2 forces)]
    exact ⟨rfl, rfl⟩
  case free =>
    intro free
    rw [mode, locked, settled_free (Bool.eq_false_iff.2 (mt forced.1 free))]
    exact ⟨rfl, rfl⟩
  case jobs => exact jobs'
  case queues =>
    intro y
    rw [mode, locked]
    exact queues' y
  case told => exact told (cu.told (ConditionUnit.reset_told _))
  case reset => exact fun i repair rejected => (cu.keeps i repair).trans (keeps i rejected)
  case repaired =>
    have stands : t.cu.flags[11] = s.cu.flags[11] := (keeps 11 (by decide)).1
    have clear : ConditionUnit.reset.flags[11] = false := ConditionUnit.reset_flag 11
    rw [stands, cu.flag]
    exact or_iff_right (Bool.eq_false_iff.1 clear)
  case rejected =>
    have clear : s.cu.flags[13] = false := (cu.keeps 13 (by decide)).1.trans (ConditionUnit.reset_flag 13)
    exact flag.trans (or_iff_right (Bool.eq_false_iff.1 clear))

end

end Sys2Proof.Machine
end

section
/-! The start-up from the treatment of the saved intervals to its end (R112, R174, R175, R179). -/

namespace Sys2Proof.Machine

/-- The start record of a start-up over store `st` (R174). -/
def Store.startRecord (kind : ResetKind) (outcome : Option SavedOutcome) (st : Store) : StartRecord :=
  { kind := kind, marker := markerFound st.save, intervals := outcome
    savedGeneration := ((SaveBlock.saved? st.save).map (·.generation)).getD 0
    blockGeneration := st.highestGeneration }

/-- The end of the load: the start record, and the PFW input (R174, R175). -/
def State.endLoading (kind : ResetKind) (outcome : Option SavedOutcome) (r : State) : State :=
  if r.pfw then (r.updSm fun m => { m with start := r.store.startRecord kind outcome }).pfwAsserted
  else r.updSm fun m => { m with start := r.store.startRecord kind outcome }

/-- How a start-up over store `st` treats the saved intervals (R177). -/
def State.outcome (s : State) : Option SavedOutcome :=
  (SaveBlock.saved? s.store.save).bind fun c => s.savedOutcome (s.forced (SaveBlock.saved? s.store.save)) c

/-- The part once the saved intervals are treated (R177). -/
def State.resumed (s : State) : State :=
  match SaveBlock.saved? s.store.save with
  | some c => (s.settleManager (SaveBlock.saved? s.store.save)).resumeSaved c s.outcome
  | none => s.settleManager (SaveBlock.saved? s.store.save)

section
variable {w s r t : State} {kind : ResetKind} {outcome : Option SavedOutcome}

theorem State.resumed_store (s : State) : s.resumed.store = s.store := by
  unfold State.resumed
  split <;> simp

theorem State.resumed_none (none : SaveBlock.saved? s.store.save = none) : s.outcome = Option.none ∧
    s.resumed = s.settleManager (SaveBlock.saved? s.store.save) := by
  unfold State.resumed State.outcome
  rw [none]
  exact ⟨rfl, rfl⟩

theorem State.resumed_some {c : SavedState} (some : SaveBlock.saved? s.store.save = some c) :
    s.outcome = s.savedOutcome (s.forced (SaveBlock.saved? s.store.save)) c ∧
      s.resumed = (s.settleManager (SaveBlock.saved? s.store.save)).resumeSaved c s.outcome := by
  unfold State.resumed
  refine ⟨?_, ?_⟩
  · unfold State.outcome
    rw [some]
    rfl
  · rw [some]

/-- The part with the start record given by the save `saved`, before the PFW input (R174). -/
def State.recordStart (kind : ResetKind) (saved : Option SavedState) (outcome : Option SavedOutcome) (r : State) :
    State :=
  r.updSm fun m => { m with
    start :=
      { kind := kind, marker := markerFound r.store.save, intervals := outcome
        savedGeneration := (saved.map (·.generation)).getD 0, blockGeneration := r.store.highestGeneration } }

theorem State.endLoading_of_saved {saved : Option SavedState} (store : SaveBlock.saved? r.store.save = saved) :
    r.endLoading kind outcome = if (r.recordStart kind saved outcome).pfw then
      (r.recordStart kind saved outcome).pfwAsserted else r.recordStart kind saved outcome := by
  subst store
  rfl

theorem State.loadStep_eq (kind : ResetKind) (s : State) : s.loadStep kind =
    s.loadAccounts.resumed.endLoading kind s.loadAccounts.outcome := by
  have store : s.loadAccounts.store = s.store := by simp
  have resumed := s.loadAccounts.resumed_store
  rw [store] at resumed
  cases saved : SaveBlock.saved? s.store.save with
  | none =>
    obtain ⟨outcome, eq⟩ := State.resumed_none (s := s.loadAccounts) (by rw [store]; exact saved)
    rw [store, saved] at eq
    rw [State.endLoading_of_saved (saved := none) (by rw [resumed]; exact saved), outcome, eq]
    unfold State.loadStep
    rw [saved]
    rfl
  | some c =>
    obtain ⟨outcome, eq⟩ := State.resumed_some (s := s.loadAccounts) (by rw [store]; exact saved)
    rw [store, saved] at eq outcome
    rw [State.endLoading_of_saved (saved := some c) (by rw [resumed]; exact saved), eq, outcome]
    unfold State.loadStep
    rw [saved]
    rfl

/-! ## From there to the end -/

/-- The part before its saved intervals are treated has its supply monitor as it was cleared (R174). -/
def State.supplyCleared (r : State) : Prop :=
  r.sm = { r.sm with state := .normal, deassertHeld := false, lastSave := none, saveCalled := false }

/-- What the end of the load leaves (R174, R175). -/
theorem State.endLoading_eq (quiet : r.quiet) (supply : r.supplyCleared)
    (waiting : ∀ e ∈ r.ia.waiting, e.cause ≠ .boundary) : r.endLoading kind outcome = { r with
      sm := ⟨if r.pfw then .saving else .normal, false, none, r.pfw, r.store.startRecord kind outcome⟩
      rsc := { r.rsc with saveQueue := if r.pfw then some .save else r.rsc.saveQueue }
      cu := if r.pfw then r.cu.give r.cm.tables.notice .supply true else r.cu } := by
  have sm : r.sm = ⟨.normal, false, none, false, r.sm.start⟩ := supply
  unfold State.endLoading
  by_cases pfw : r.pfw = true
  · have saving : (⟨if r.pfw then .saving else .normal, false, none, r.pfw, r.store.startRecord kind outcome⟩ :
        SupplyMonitor) = ⟨.saving, false, none, true, r.store.startRecord kind outcome⟩ := by rw [pfw]; rfl
    have normal : r.sm.state = .normal := by rw [sm]
    have unsaved : r.sm.lastSave = none := by rw [sm]
    rw [saving, if_pos pfw, if_pos pfw, if_pos pfw, State.pfwAsserted_quiet (s := r.updSm fun m => { m with
      start := r.store.startRecord kind outcome }) quiet normal waiting, ← unsaved]
    rfl
  · have low : r.pfw = false := Bool.eq_false_iff.2 pfw
    have stands : (⟨if r.pfw then .saving else .normal, false, none, r.pfw, r.store.startRecord kind outcome⟩ :
        SupplyMonitor) = { r.sm with start := r.store.startRecord kind outcome } := by rw [low, sm]; rfl
    rw [stands, if_neg pfw, if_neg pfw, if_neg pfw]
    rfl

theorem State.startLinks_changes (ls : List LinkId) (s : State) : s.startLinks ls = { s with
    links := (s.startLinks ls).links } := by
  induction ls generalizing s with
  | nil => rfl
  | cons l ls ih =>
    have first : s.startLink l = { s with links := (s.startLink l).links } := by
      unfold State.startLink
      split <;> rfl
    have rest := ih (s.startLink l)
    rw [show s.startLinks (l :: ls) = (s.startLink l).startLinks ls from rfl]
    generalize (s.startLink l).startLinks ls = t at rest ⊢
    rw [first] at rest
    exact rest

theorem State.modeAccounts_congr (cm : t.cm.mode = s.cm.mode) (tk : t.tk = s.tk) (accounts : t.ia.accounts = s.ia.accounts) :
    t.modeAccounts = s.modeAccounts := by
  cases mode : s.cm.mode with
  | commissioning =>
    rw [State.modeAccounts_commissioning mode, State.modeAccounts_commissioning (cm.trans mode), accounts]
  | metering =>
    refine Vector.ext fun i hi => ?_
    have own := State.modeAccounts_metering mode ⟨i, hi⟩
    have other := State.modeAccounts_metering (cm.trans mode) ⟨i, hi⟩
    rw [accounts, tk] at other
    exact other.trans own.symm

theorem State.level_changes {c : Condition} {v : Bool} (h : ∃ cu, t = { s with cu := cu }) :
    ∃ cu, t.level c v = { s with cu := cu } := by
  obtain ⟨cu, rfl⟩ := h
  exact ⟨_, rfl⟩

theorem State.startLevels_changes (s : State) : ∃ cu, s.startLevels = { s with cu := cu } :=
  State.level_changes (State.level_changes (State.level_changes (State.level_changes (State.level_changes ⟨s.cu, rfl⟩))))

/-- The part that the treatment of the saved intervals leaves to the rest of a start-up. -/
structure State.Ready (r : State) : Prop where
  quiet : r.quiet
  supply : r.supplyCleared
  waiting : ∀ e ∈ r.ia.waiting, e.cause ≠ .boundary
  links : ∀ l : LinkId, r.links[l] = Link.reset
  cu : r.cu.Ready r.cm.tables.notice.masked
  marked : r.cu.sources[12] = true → r.ia.marked = true
  low : ∀ i ∈ ([4, 5, 7, 14, 15] : List (Fin 16)), r.cu.sources[i] = false

/-- The part at the end of a start-up, its links and its condition unit given (R174, R175, R179). -/
def State.broughtTo (kind : ResetKind) (outcome : Option SavedOutcome) (links : Vector Link 4) (cu : ConditionUnit)
    (r : State) : State :=
  { r with
    sm := ⟨if r.pfw then .saving else .normal, false, none, r.pfw, r.store.startRecord kind outcome⟩
    rsc := { r.rsc with saveQueue := if r.pfw then some .save else r.rsc.saveQueue }
    links := links
    ia := { r.ia with
      accounts := r.modeAccounts
      nextBoundary := if outcome = some .continued ∧ r.openCount ≠ 0 then r.ia.nextBoundary else r.boundaryAfresh }
    cu := cu }

/-- What the rest of a start-up makes of the part (R112, R174, R175, R179). -/
structure State.Brought (kind : ResetKind) (outcome : Option SavedOutcome) (r t : State) : Prop where
  frame : t = r.broughtTo kind outcome t.links t.cu
  links : ∀ l : LinkId, t.links[l] =
    if (r.cm.tables.links[l]).enabled then { Link.started r.straps.freq with waiting := [r.ownOffer l] } else Link.reset
  levels : t.Levelled t.cu
  supply : t.cu.sources[15] = r.pfw
  keeps : ∀ i : Fin 16, i ≠ 12 → i ≠ 4 → i ≠ 5 → i ≠ 7 → i ≠ 14 → i ≠ 15 → r.cu.KeepsAt i t.cu

/-- The condition unit with the PFW input taken (R173, R175). -/
theorem State.supplyGiven (ready : r.cu.Ready r.cm.tables.notice.masked)
    (low : ∀ i ∈ ([4, 5, 7, 14, 15] : List (Fin 16)), r.cu.sources[i] = false) {cu : ConditionUnit}
    (given : cu = if r.pfw then r.cu.give r.cm.tables.notice .supply true else r.cu) :
    cu.Ready r.cm.tables.notice.masked ∧ cu.sources[15] = r.pfw ∧ ∀ i, i ≠ 15 → r.cu.KeepsAt i cu := by
  by_cases pfw : r.pfw = true
  · rw [if_pos pfw] at given
    subst given
    exact ⟨ConditionUnit.give_ready ready (c := .supply) rfl fun _ => rfl,
      (ConditionUnit.give_source _ .supply true r.cu).trans pfw.symm, fun i other => ConditionUnit.give_keeps other⟩
  · rw [if_neg pfw] at given
    subst given
    exact ⟨ready, (low 15 (by decide)).trans (Bool.eq_false_iff.2 pfw).symm, fun i _ => .refl i r.cu⟩

theorem State.modeAccounts_marked (s : State) (ia : Accountant) (accounts : ia.accounts = s.modeAccounts) :
    ia.marked = s.ia.marked := by
  rw [Bool.eq_iff_iff, Accountant.marked_iff, Accountant.marked_iff, accounts]
  refine exists_congr fun a => exists_congr fun i => ?_
  cases mode : s.cm.mode with
  | commissioning => rw [State.modeAccounts_commissioning mode]
  | metering =>
    rw [State.modeAccounts_metering mode]
    split <;> rfl

/-- The part once its device has entered its mode (R112, R175, R179). -/
theorem State.Ready.entered (ready : r.Ready) : ∃ (links : Vector Link 4) (c : ConditionUnit),
    ((r.endLoading kind outcome).startLinks (List.finRange 4)).enterMode = r.broughtTo kind outcome links c ∧
      c = (if r.pfw then r.cu.give r.cm.tables.notice .supply true else r.cu) ∧
      ∀ l : LinkId, links[l] = if (r.cm.tables.links[l]).enabled then
        { Link.started r.straps.freq with waiting := [r.ownOffer l] } else Link.reset := by
  rw [State.endLoading_eq ready.quiet ready.supply ready.waiting]
  generalize given : (if r.pfw then r.cu.give r.cm.tables.notice .supply true else r.cu) = c
  generalize ended : ({ r with
    sm := ⟨if r.pfw then .saving else .normal, false, none, r.pfw, r.store.startRecord kind outcome⟩
    rsc := { r.rsc with saveQueue := if r.pfw then some .save else r.rsc.saveQueue }, cu := c } : State) = e
  have own : ∀ l : LinkId, (e.startLinks (List.finRange 4)).links[l] =
      if (r.cm.tables.links[l]).enabled then { Link.started r.straps.freq with waiting := [r.ownOffer l] }
      else Link.reset := by
    subst ended
    exact fun l => State.startLinks_links (List.nodup_finRange 4) (List.mem_finRange l) (ready.links l)
  have changes := e.startLinks_changes (List.finRange 4)
  generalize e.startLinks (List.finRange 4) = u at own changes ⊢
  generalize u.links = ls at own changes
  refine ⟨ls, c, ?_, rfl, own⟩
  subst ended
  have accounts : u.modeAccounts = r.modeAccounts :=
    State.modeAccounts_congr (by rw [changes]) (by rw [changes]) (by rw [changes])
  have afresh : u.boundaryAfresh = r.boundaryAfresh := by rw [changes]; rfl
  have continues : u.continues = true ↔ outcome = some .continued ∧ r.openCount ≠ 0 := by
    rw [changes]
    unfold State.continues
    rw [Bool.and_eq_true, beq_iff_eq, bne_iff_ne]
    rfl
  rw [u.enterMode_eq, accounts, afresh, if_congr continues rfl rfl]
  subst changes
  rfl

theorem State.Ready.brought (ready : r.Ready) :
    r.Brought kind outcome ((r.endLoading kind outcome).startLinks (List.finRange 4)).enterMode.startLevels := by
  obtain ⟨links, c, entered, given, own⟩ := ready.entered (kind := kind) (outcome := outcome)
  obtain ⟨given, source, kept⟩ := State.supplyGiven ready.cu ready.low given
  rw [entered]
  have marks : (r.broughtTo kind outcome links c).ia.marked = r.ia.marked := State.modeAccounts_marked r _ rfl
  have levelled := State.startLevels_levelled (s := r.broughtTo kind outcome links c) given
    (fun high => marks.trans (ready.marked ((kept 12 (by decide)).2.symm.trans high)))
    (fun i mem => (kept i fun e => absurd (e ▸ mem) (by decide)).2.trans (ready.low i (List.mem_append_left [15] mem)))
  obtain ⟨d, changes⟩ := (r.broughtTo kind outcome links c).startLevels_changes
  rw [changes] at levelled ⊢
  obtain ⟨told, register, fault, substitution, breaker, time, keeps⟩ := levelled
  exact {
    frame := rfl
    links := own
    levels := ⟨told, register, fault, substitution, breaker, time, fun i _ _ _ _ _ => .refl i d⟩
    supply := (keeps 15 (by decide) (by decide) (by decide) (by decide) (by decide)).2.trans source
    keeps := fun i h12 h4 h5 h7 h14 h15 => (kept i h15).trans (keeps i h12 h4 h5 h7 h14) }

end

end Sys2Proof.Machine
end

section
/-! A start-up from its store to its end, part by part: the blocks, the configuration, the store controller and the
conditions (R112, R146, R147, R174, R182). -/

namespace Sys2Proof.Machine

/-- The fields that the treatment of the saved intervals leaves alone. -/
structure State.Kept (u r : State) : Prop where
  powered : r.powered = u.powered
  pfw : r.pfw = u.pfw
  straps : r.straps = u.straps
  tk : r.tk = u.tk
  timeBase : r.timeBase = u.timeBase
  links : r.links = u.links
  points : r.points = u.points
  tr : r.tr = u.tr
  pau : r.pau = u.pau
  store : r.store = u.store
  sm : r.sm = u.sm

/-- A start-up of `w` through its load `u` and its saved intervals `r` to its end `t`. -/
structure State.StartedUp (kind : ResetKind) (outcome : Option SavedOutcome) (w u r t : State) : Prop where
  loaded : w.Loaded u
  resumes : u.Resumes r
  kept : u.Kept r
  brought : r.Brought kind outcome t

section
variable {w u r t : State} {kind : ResetKind} {outcome : Option SavedOutcome}

theorem State.resumeSaved_kept (c : SavedState) (o : Option SavedOutcome) (u : State) : u.Kept (u.resumeSaved c o) := by
  constructor <;> simp

/-! ## The bounds of the log -/

theorem Store.bounds_some {st : Store} {map : StoreMap} {f : FoundLog} (found : st.findLog map = some f) :
    st.oldest map = f.oldest ∧ st.newest map = f.newest := by
  unfold Store.newest Store.oldest
  rw [found]
  exact ⟨rfl, rfl⟩

theorem Store.bounds_none {st : Store} {map : StoreMap} (none : st.findLog map = none) :
    st.newest map + 1 = st.oldest map := by
  have pos := st.oldest_pos map none
  have newest : st.newest map = st.oldest map - 1 := by unfold Store.newest; rw [none]; rfl
  omega

/-- A controller of store `st` has the bounds of the log that the store gives (R147). -/
theorem Store.givesLog_controller (st : Store) (jobs : List ConfigJob) : st.givesLog (st.controller jobs) := by
  refine Store.givesLog_found (fun f found => ?_) fun none => Store.bounds_none none
  obtain ⟨oldest, newest⟩ := Store.bounds_some found
  refine ⟨oldest, newest, ?_⟩
  show ((st.findLog st.loadMap).map (·.newestSlot)).getD 0 = f.newestSlot
  rw [show st.findLog st.loadMap = some f from found]
  rfl

/-! ## The part before the end of its load -/

theorem State.Loaded.rsc (loaded : w.Loaded u) : u.rsc = w.store.controller u.rsc.configQueue :=
  congrArg State.rsc loaded.frame

theorem State.Loaded.cm (loaded : w.Loaded u) :
    u.cm = { w.store.loadManager with mode := u.cm.mode, locked := u.cm.locked } :=
  congrArg State.cm loaded.frame

theorem State.Loaded.ia (loaded : w.Loaded u) : u.ia = w.store.accountant := congrArg State.ia loaded.frame

theorem State.Loaded.quiet (loaded : w.Loaded u) : u.quiet := by
  rw [loaded.frame]
  exact ⟨rfl, rfl, rfl, rfl, rfl⟩

theorem State.Loaded.images (loaded : w.Loaded u) : u.imagesMatch := by
  have accounts (a : AccountId) : (w.store.accountant).accounts[a] = w.store.foundAccount w.store.loadMap a :=
    Vector.getElem_ofFn a.isLt
  have own (a : AccountId) : (Vector.ofFn fun a => (w.store.found w.store.loadMap a).1)[a] =
      (w.store.found w.store.loadMap a).1 := Vector.getElem_ofFn a.isLt
  have account (a : AccountId) : (w.store.found w.store.loadMap a).1.account = a := Store.found_account _ _ a
  unfold State.imagesMatch
  rw [loaded.frame]
  refine ⟨fun a => (own a).trans ?_, fun c mem => ?_, ?_⟩
  · show _ = (⟨a, ((w.store.accountant).accounts[a]).regs, ((w.store.accountant).accounts[a]).residues⟩ : RegContent)
    rw [accounts a]
    exact congrArg (fun b => (⟨b, _, _⟩ : RegContent)) (account a)
  · obtain ⟨a, -, rfl⟩ := List.mem_map.1 mem
    refine Eq.trans ?_ (own _).symm
    rw [account a]
  · refine (congrArg List.Nodup (w.store.rewritten_accounts w.store.loadMap)).mpr ?_
    exact (List.nodup_finRange 8).filter _

theorem State.Loaded.low (loaded : w.Loaded u) (i : Fin 16) (repair : i ≠ 11) (rejected : i ≠ 13) :
    u.cu.flags[i] = false ∧ u.cu.sources[i] = false := by
  obtain ⟨flag, source⟩ := loaded.reset i repair rejected
  exact ⟨flag.trans (ConditionUnit.reset_flag i), source.trans (ConditionUnit.reset_source i)⟩

theorem State.Loaded.masked (loaded : w.Loaded u) :
    u.cm.tables.notice.masked = w.store.loadManager.tables.notice.masked := by
  rw [loaded.frame]

theorem State.Loaded.flags (loaded : w.Loaded u) : u.flagsMarks ∧ u.fatalShown := by
  obtain ⟨flag, source⟩ := loaded.low 12 (by decide) (by decide)
  obtain ⟨fatal, none⟩ := loaded.low 0 (by decide) (by decide)
  have halted : u.rsc.halted = false := by rw [loaded.frame]; rfl
  refine ⟨⟨by rw [loaded.masked]; exact loaded.told, flag.trans source.symm, fun high => ?_⟩, fatal.trans none.symm,
    none.trans halted.symm⟩
  exact absurd (source.symm.trans high) (by decide)

theorem isPulse_eq_false {i : Fin 16} (level : isPulse i = false) : i ≠ 9 ∧ i ≠ 11 ∧ i ≠ 13 := by
  refine ⟨?_, ?_, ?_⟩ <;> (rintro rfl; exact absurd level (by decide))

/-- The part that is handed to the end of the start-up. -/
theorem State.Loaded.ready (loaded : w.Loaded u) (resumes : u.Resumes r) (kept : u.Kept r) : r.Ready := by
  obtain ⟨marks, fatal⟩ := loaded.flags
  obtain ⟨⟨told, register, marked⟩, fatal'⟩ := resumes.flags marks fatal
  have keeps (i : Fin 16) (h0 : i ≠ 0) (h9 : i ≠ 9) (h12 : i ≠ 12) := resumes.keeps marks fatal i h0 h9 h12
  obtain ⟨read, running, preempted, processing, service⟩ := loaded.quiet
  constructor
  case quiet =>
    unfold State.quiet
    rw [resumes.rsc, resumes.wa, resumes.mlc]
    exact ⟨read, running, preempted, processing, service⟩
  case supply =>
    unfold State.supplyCleared
    rw [kept.sm, loaded.frame]
    rfl
  case waiting =>
    refine resumes.waiting fun e mem => ?_
    rw [loaded.frame] at mem
    exact nomatch mem
  case links =>
    intro l
    rw [kept.links, loaded.frame]
    exact Vector.getElem_replicate l.isLt
  case cu =>
    refine ⟨told, fun i level => ?_⟩
    obtain ⟨closed, repair, rejected⟩ := isPulse_eq_false level
    obtain ⟨flag, source⟩ := loaded.low i repair rejected
    by_cases h0 : i = 0
    · exact h0 ▸ fatal'.1
    · by_cases h12 : i = 12
      · exact h12 ▸ register
      · exact (keeps i h0 closed h12).shows (flag.trans source.symm)
  case marked => exact marked
  case low =>
    intro i mem
    have out (j : Fin 16) (absent : j ∉ ([4, 5, 7, 14, 15] : List (Fin 16))) : i ≠ j := fun e => absent (e ▸ mem)
    exact (keeps i (out 0 (by decide)) (out 9 (by decide)) (out 12 (by decide))).2.trans
      (loaded.low i (out 11 (by decide)) (out 13 (by decide))).2

/-! ## The fields of the part that has started -/

section
variable (h : State.StartedUp kind outcome w u r t)
include h

theorem State.StartedUp.cm : t.cm = u.cm := by
  rw [h.brought.frame]
  exact h.resumes.cm

theorem State.StartedUp.store : t.store = w.store := by
  rw [h.brought.frame]
  exact h.kept.store.trans (by rw [h.loaded.frame]; rfl)

theorem State.StartedUp.tk : t.tk = w.tk := by
  rw [h.brought.frame]
  exact h.kept.tk.trans (by rw [h.loaded.frame]; rfl)

theorem State.StartedUp.pfw : t.pfw = w.pfw := by
  rw [h.brought.frame]
  exact h.kept.pfw.trans (by rw [h.loaded.frame]; rfl)

theorem State.StartedUp.points (p : PointId) : t.points[p] = Point.reset t.cm.stored[p] := by
  have points : t.points = Vector.ofFn fun p => Point.reset w.store.loadManager.stored[p] := by
    rw [h.brought.frame]
    exact h.kept.points.trans (by rw [h.loaded.frame])
  have stored : t.cm.stored = w.store.loadManager.stored := by rw [h.cm, h.loaded.frame]
  rw [points, stored]
  exact Vector.getElem_ofFn p.isLt

/-- The store controller of the part that has started (R147). -/
theorem State.StartedUp.rsc : t.rsc = { w.store.controller u.rsc.configQueue with
    blockQueue := r.rsc.blockQueue, recordQueue := r.rsc.recordQueue, images := r.rsc.images, halted := r.rsc.halted
    saveQueue := if w.pfw then some .save else if w.store.consumption w.store.loadMap = none then some .running
      else none } := by
  have pfw : r.pfw = w.pfw := h.kept.pfw.trans (by rw [h.loaded.frame]; rfl)
  have controller := h.loaded.rsc
  have rsc := h.resumes.rsc
  rw [h.brought.frame]
  show { r.rsc with saveQueue := if r.pfw then some .save else r.rsc.saveQueue } = _
  rw [pfw]
  generalize r.rsc = q at rsc ⊢
  rw [controller] at rsc
  rw [rsc]
  rfl

theorem State.StartedUp.generation : t.cm.generation = w.store.highestGeneration := by
  rw [h.cm, h.loaded.cm]
  rfl

/-- The configuration manager of the part that has started (R146, R152, R177, R179). -/
theorem State.StartedUp.managerStarted : t.managerStarted w.store := by
  have generation := h.generation
  have blank := w.store.loadManager_blank
  have queue : t.rsc.configQueue = u.rsc.configQueue := by rw [h.rsc]; rfl
  have map : t.rsc.map = u.rsc.map := by rw [h.rsc, h.loaded.rsc]; rfl
  have tables : t.cm.tables = w.store.loadManager.tables := by rw [h.cm, h.loaded.cm]
  have stored : t.cm.stored = w.store.loadManager.stored := by rw [h.cm, h.loaded.cm]
  refine ⟨?_, ?_, fun x b block => ?_, ?_, fun j mem => ?_, w.store.loadManager.mode, w.store.loadManager.locked,
    w.store.givesMode_load, ?_, fun free => ?_, fun x => ?_⟩
  · rw [h.cm, h.loaded.cm, blank]
  · rw [tables, stored]
    exact w.store.givesTables_load
  · rw [generation]
    exact Store.le_highestGeneration block
  · rw [generation]
    exact w.store.highestGeneration_attained
  · rw [queue] at mem
    exact (h.loaded.jobs j mem).congr h.cm map
  · rw [generation, h.cm]
    exact h.loaded.forced
  · rw [generation] at free
    obtain ⟨mode, locked⟩ := h.loaded.free free
    rw [h.cm, mode, locked]
    cases SaveBlock.saved? w.store.save with
    | none => exact ⟨rfl, rfl⟩
    | some c => exact ⟨rfl, rfl⟩
  · have queued := h.loaded.queues x
    unfold Controller.queues at queued
    rw [queue, h.cm]
    exact queued

/-- The images of the part that has started (R144, R147). -/
theorem State.StartedUp.images : t.imagesMatch ∧ ∀ a, u.queuesBlock a → t.queuesBlock a := by
  obtain ⟨⟨own, queued, distinct⟩, kept⟩ := h.resumes.images h.loaded.images
  have images : t.rsc.images = r.rsc.images := by rw [h.rsc]
  have blocks : t.rsc.blockQueue = r.rsc.blockQueue := by rw [h.rsc]
  have accounts : t.ia.accounts = r.modeAccounts := by rw [h.brought.frame]; rfl
  have registers (a : AccountId) : (r.modeAccounts[a]).regs = (r.ia.accounts[a]).regs ∧
      (r.modeAccounts[a]).residues = (r.ia.accounts[a]).residues := by
    cases mode : r.cm.mode with
    | commissioning => rw [State.modeAccounts_commissioning mode]; exact ⟨rfl, rfl⟩
    | metering =>
      rw [State.modeAccounts_metering mode]
      split <;> exact ⟨rfl, rfl⟩
  unfold State.imagesMatch State.queuesBlock
  rw [images, blocks, accounts]
  refine ⟨⟨fun a => (own a).trans ?_, queued, distinct⟩, kept⟩
  obtain ⟨regs, residues⟩ := registers a
  rw [regs, residues]

/-- The store controller of the part that has started (R131, R146, R147). -/
theorem State.StartedUp.storeStarted : t.storeStarted w.store := by
  have map : t.rsc.map = w.store.loadMap := by rw [h.rsc]; rfl
  obtain ⟨⟨own, queued, -⟩, kept⟩ := h.images
  have timer : t.rsc.patrolTimer = t.cm.tables.patrol := by rw [h.rsc, h.cm, h.loaded.cm]; rfl
  refine ⟨h.store, by rw [map]; exact w.store.givesMap_load, ?_, by rw [h.rsc]; rfl, by rw [h.rsc]; rfl, by rw [h.rsc]; rfl,
    by rw [h.rsc]; rfl, by rw [h.rsc]; rfl, timer, by rw [h.rsc]; rfl, by rw [h.rsc]; rfl, by rw [h.rsc]; rfl,
    by rw [h.rsc]; rfl, own, queued, fun a failed => ?_, ?_⟩
  · have log := w.store.givesLog_controller u.rsc.configQueue
    unfold Store.givesLog at log ⊢
    rw [h.rsc]
    exact log
  · rw [map] at failed
    have mem : u.queuesBlock a := by
      unfold State.queuesBlock
      rw [h.loaded.rsc]
      exact (w.store.rewritten_accounts w.store.loadMap).symm ▸ Store.mem_failedBlocks.2 failed
    obtain ⟨c, queued, account⟩ := List.mem_map.1 (kept a mem)
    exact ⟨c, queued, account⟩
  · rw [h.pfw, h.rsc]
    rfl

/-! ## The conditions of the part that has started -/

theorem State.StartedUp.masked : t.cm.tables.notice.masked = w.store.loadManager.tables.notice.masked := by
  rw [h.cm, h.loaded.masked]

/-- A condition that only the load gives stands as the load left it. -/
theorem State.StartedUp.keeps (i : Fin 16) (mem : i ∉ ([0, 4, 5, 7, 9, 12, 14, 15] : List (Fin 16))) :
    u.cu.KeepsAt i t.cu := by
  obtain ⟨marks, fatal⟩ := h.loaded.flags
  have out (j : Fin 16) (here : j ∈ ([0, 4, 5, 7, 9, 12, 14, 15] : List (Fin 16))) : i ≠ j := fun e => mem (e ▸ here)
  exact (h.resumes.keeps marks fatal i (out 0 (by decide)) (out 9 (by decide)) (out 12 (by decide))).trans
    (h.brought.keeps i (out 12 (by decide)) (out 4 (by decide)) (out 5 (by decide)) (out 7 (by decide))
      (out 14 (by decide)) (out 15 (by decide)))

theorem State.StartedUp.tr : t.tr = Resolver.reset := by
  rw [h.brought.frame]
  exact h.kept.tr.trans (congrArg State.tr h.loaded.frame)

/-- Every used breaker is UNKNOWN after a start-up (R84). -/
theorem State.StartedUp.breakers : breakerUnknown t.cm.tables.breakers t.tr = true ↔
    ∃ b : BreakerId, t.cm.tables.breakers.entries[b] ≠ none := by
  unfold breakerUnknown
  rw [h.tr, List.any_eq_true]
  refine ⟨fun ⟨b, _, used⟩ => ⟨b, ?_⟩, fun ⟨b, used⟩ => ⟨b, List.mem_finRange b, ?_⟩⟩
  · exact Option.isSome_iff_ne_none.1 (Bool.and_eq_true_iff.1 used).1
  · refine Bool.and_eq_true_iff.2 ⟨Option.isSome_iff_ne_none.2 used, ?_⟩
    rw [show Resolver.reset.breakers[b] = Breaker.reset from Vector.getElem_replicate b.isLt]
    rfl

theorem State.StartedUp.noFault : (t.points.toList.any fun p => p.fault) = false := by
  refine Bool.eq_false_iff.2 fun any => ?_
  obtain ⟨p, fault⟩ := vector_any_iff.1 any
  rw [h.points p] at fault
  exact absurd fault (by exact Bool.false_ne_true)

theorem State.StartedUp.conditionsStarted : t.conditionsStarted w.store := by
  obtain ⟨⟨told, shows⟩, register, fault, substitution, breaker, time, -⟩ := h.brought.levels
  obtain ⟨marks, fatal⟩ := h.loaded.flags
  obtain ⟨-, -, halted⟩ := h.resumes.flags marks fatal
  have map : t.rsc.map = w.store.loadMap := by rw [h.rsc]; rfl
  have keep (i : Fin 16) (mem : i ∉ ([0, 4, 5, 7, 9, 12, 14, 15] : List (Fin 16))) := h.keeps i mem
  have low (i : Fin 16) (mem : i ∉ ([0, 4, 5, 7, 9, 12, 14, 15] : List (Fin 16))) (repair : i ≠ 11) (rejected : i ≠ 13) :
      t.cu.flags[i] = false ∧ t.cu.sources[i] = false :=
    ⟨(keep i mem).1.trans (h.loaded.low i repair rejected).1, (keep i mem).2.trans (h.loaded.low i repair rejected).2⟩
  have zero := h.brought.keeps 0 (by decide) (by decide) (by decide) (by decide) (by decide) (by decide)
  have eleven : t.cu.flags[11] = u.cu.flags[11] := (keep 11 (by decide)).1
  have thirteen : t.cu.flags[13] = u.cu.flags[13] := (keep 13 (by decide)).1
  refine ⟨zero.2.trans (halted.trans (by rw [h.rsc])), fault.trans h.noFault, ?_, (low 6 (by decide) (by decide)
    (by decide)).2, ?_, (low 10 (by decide) (by decide) (by decide)).2, ?_, time, ?_, shows, fun i mem => ?_, ?_, ?_,
    told.1, told.2⟩
  · rw [substitution, vector_any_iff]
    simp only [bne_iff_ne]
  · rw [breaker]
    exact h.breakers
  · rw [register]
    exact Accountant.marked_iff
  · exact h.brought.supply.trans (congrArg State.pfw h.brought.frame).symm
  · have out (j : Fin 16) (absent : j ∉ ([1, 2, 3, 8] : List (Fin 16))) : i ≠ j := fun e => absent (e ▸ mem)
    refine (low i (fun other => ?_) (out 11 (by decide)) (out 13 (by decide))).1
    exact (by decide : ∀ j : Fin 16, j ∈ ([1, 2, 3, 8] : List (Fin 16)) →
      j ∉ ([0, 4, 5, 7, 9, 12, 14, 15] : List (Fin 16))) i mem other
  · rw [eleven, map]
    exact h.loaded.repaired
  · rw [thirteen, h.generation]
    exact h.loaded.rejected

end

end

end Sys2Proof.Machine
end

section
/-! The links, the next boundary and the accounts of the part that has started, and the start-up from a store without
a save (R26, R32, R112, R147, R178, R179). -/

namespace Sys2Proof.Machine

section
variable {w u r t : State} {kind : ResetKind} {outcome : Option SavedOutcome}

section
variable (h : State.StartedUp kind outcome w u r t)
include h

theorem State.StartedUp.links (l : LinkId) : t.links[l] = if (t.cm.tables.links[l]).enabled then
    { Link.started w.straps.freq with waiting := [t.ownOffer l] } else Link.reset := by
  have cm : t.cm = r.cm := by rw [h.brought.frame]; rfl
  have straps : t.straps = r.straps := by rw [h.brought.frame]; rfl
  have latched : r.straps = w.straps := h.kept.straps.trans (by rw [h.loaded.frame]; rfl)
  have own : t.ownOffer l = r.ownOffer l := by
    unfold State.ownOffer
    rw [cm, straps]
  rw [h.brought.links l, own, cm, latched]

theorem State.StartedUp.start : t.sm = ⟨if w.pfw then .saving else .normal, false, none, w.pfw,
    w.store.startRecord kind outcome⟩ := by
  have pfw : r.pfw = w.pfw := h.kept.pfw.trans (by rw [h.loaded.frame]; rfl)
  have store : r.store = w.store := h.kept.store.trans (by rw [h.loaded.frame]; rfl)
  rw [h.brought.frame, ← pfw, ← store]
  rfl

/-- The next boundary of the part that has started (R32, R179). -/
theorem State.StartedUp.nextBoundary : t.ia.nextBoundary =
    if outcome = some .continued ∧ r.openCount ≠ 0 then r.ia.nextBoundary else t.boundaryAfresh := by
  have cm : t.cm = r.cm := by rw [h.brought.frame]; rfl
  have tk : t.tk = r.tk := by rw [h.brought.frame]; rfl
  have afresh : t.boundaryAfresh = r.boundaryAfresh := by
    unfold State.boundaryAfresh
    rw [cm, tk]
  rw [afresh, h.brought.frame]
  rfl

/-- In METERING the accounts open that the saved intervals left closed (R26, R179). -/
theorem State.StartedUp.account_metering {a : AccountId} {x : Account} (metering : t.cm.mode = .metering)
    (account : r.ia.accounts[a] = x) :
    t.ia.accounts[a] = if x.interval = none then x.opened t.tk.valid t.tk.seconds else x := by
  have mode : r.cm.mode = .metering := by rw [h.resumes.cm, ← h.cm, metering]
  have tk : t.tk = r.tk := by rw [h.brought.frame]; rfl
  have accounts : t.ia.accounts = r.modeAccounts := by rw [h.brought.frame]; rfl
  rw [accounts, State.modeAccounts_metering mode, account, tk]

theorem State.StartedUp.account_commissioning (commissioning : t.cm.mode = .commissioning) (a : AccountId) :
    t.ia.accounts[a] = r.ia.accounts[a] := by
  have mode : r.cm.mode = .commissioning := by rw [h.resumes.cm, ← h.cm, commissioning]
  have accounts : t.ia.accounts = r.modeAccounts := by rw [h.brought.frame]; rfl
  rw [accounts, State.modeAccounts_commissioning mode]

/-- The rest of the accountant is as the saved intervals left it. -/
theorem State.StartedUp.accountant : t.ia.nextSeq = r.ia.nextSeq ∧ t.ia.waiting = r.ia.waiting ∧
    t.ia.pendingBoundary = none := by
  have pending : r.ia.pendingBoundary = none := h.resumes.pendingBoundary.trans (by rw [h.loaded.ia]; rfl)
  rw [h.brought.frame]
  exact ⟨rfl, rfl, pending⟩

theorem State.StartedUp.map : t.rsc.map = w.store.loadMap := by rw [h.rsc]; rfl

end

/-! ## Without a save -/

theorem State.Loaded.account (loaded : w.Loaded u) (a : AccountId) :
    u.ia.accounts[a] = w.store.foundAccount w.store.loadMap a := by
  rw [loaded.ia]
  exact Vector.getElem_ofFn a.isLt

theorem Store.found_none {st : Store} {map : StoreMap} (none : SaveBlock.saved? st.save = none) (a : AccountId) :
    st.found map a = st.loadAccount map (st.findLog map) Option.none a := by
  unfold Store.found
  rw [none]

theorem Store.pending_none {st : Store} {map : StoreMap} (none : SaveBlock.saved? st.save = none) :
    st.pending map = [] := by
  unfold Store.pending
  rw [none]
  rfl

theorem unclean_iff {b : Option SaveBlock} (unsaved : SaveBlock.saved? b = none) :
    (markerFound b).unclean = decide (b = some .running ∨ b = none) := by
  cases b with
  | none => rfl
  | some b =>
    cases b with
    | saved c => exact nomatch unsaved
    | clean => rfl
    | running => rfl

theorem Store.consumption_none {st : Store} {map : StoreMap} (none : SaveBlock.saved? st.save = none) :
    st.consumption map = Option.none := by
  unfold Store.consumption
  rw [none]
  exact if_neg Bool.false_ne_true

/-- A start-up without a save leaves the accounts as it found them, opened in METERING (R147, R178, R179). -/
theorem State.StartedUp.withoutSave (h : State.StartedUp kind none w u u t)
    (none : SaveBlock.saved? w.store.save = none) : t.startedWithoutSave w.store := by
  have rsc := h.rsc
  rw [h.loaded.rsc] at rsc
  obtain ⟨next, waiting, -⟩ := h.accountant
  rw [h.loaded.ia] at next waiting
  have start := congrArg SupplyMonitor.start h.start
  refine ⟨by rw [rsc]; rfl, ?_, ?_, waiting, ?_, ?_, ?_, ?_, fun a => ?_⟩
  · rw [rsc]
    exact Store.pending_none none
  · rw [rsc]
    exact Store.consumption_none none
  · rw [h.nextBoundary]
    exact if_neg fun both => nomatch both.1
  · rw [next, h.map]
    exact w.store.givesNextSeq_loaded w.store.loadMap
  · rw [start]
    rfl
  · rw [start]
    show ((SaveBlock.saved? w.store.save).map _).getD 0 = 0
    rw [none]
    rfl
  · have registers := Store.givesRegisters_found (st := w.store) (r := t.rsc) a fun f found =>
      (congrArg Controller.oldest rsc).trans (Store.bounds_some (h.map ▸ found)).1
    rw [h.map, ← Store.found_none none] at registers
    have account := h.loaded.account a
    unfold Store.foundAccount at account
    rw [unclean_iff none] at account
    refine ⟨_, _, registers, ?_⟩
    cases mode : t.cm.mode with
    | commissioning => exact (h.account_commissioning mode a).trans account
    | metering => exact (h.account_metering mode account).trans (if_pos rfl)

end

end Sys2Proof.Machine
end

section
/-! The start-up from a store with a save: the saved intervals continued, closed, or closed with none opening (R26,
R40, R147, R177, R179). -/

namespace Sys2Proof.Machine

section
variable {w u r t : State} {kind : ResetKind} {outcome : Option SavedOutcome} {c : SavedState}

/-! ## What the load hands to the treatment of the saved intervals -/

theorem State.Loaded.holdsSaved (loaded : w.Loaded u) (saved : SaveBlock.saved? w.store.save = some c) :
    u.holdsSaved c := by
  have found (a : AccountId) : (w.store.found w.store.loadMap a).1 =
      ⟨a, (c.accounts[a]).regs, (c.accounts[a]).residues⟩ := by
    unfold Store.found
    rw [saved]
    rfl
  have clean : (markerFound w.store.save).unclean = false := by
    cases save : w.store.save with
    | none => exact nomatch (save ▸ saved : SaveBlock.saved? none = some c)
    | some b =>
      cases b with
      | saved d => rfl
      | clean => rfl
      | running => exact nomatch (save ▸ saved : SaveBlock.saved? (some .running) = some c)
  intro a
  rw [loaded.account a]
  unfold Store.foundAccount
  rw [found a, clean]
  rfl

theorem State.Loaded.records (loaded : w.Loaded u) : u.rsc.records = w.store.pending w.store.loadMap := by
  rw [loaded.rsc]
  rfl

theorem State.Loaded.recordQueue (loaded : w.Loaded u) : u.rsc.recordQueue = w.store.pending w.store.loadMap := by
  rw [loaded.rsc]
  rfl

/-- The closes are made at once where the record class has the places for them (R177). -/
theorem State.Loaded.closedSaved (loaded : w.Loaded u) (saved : SaveBlock.saved? w.store.save = some c)
    (reopen : Reopen) (places : (w.store.pending w.store.loadMap).length + c.opens.length ≤ 16)
    (seq : w.store.nextSeq w.store.loadMap + c.opens.length ≤ 4294967296) :
    u.ClosedSaved c (reopen.start w.tk.seconds (if c.time.valid then c.time.seconds else 0)) (u.closeSaved c reopen) := by
  have tk : u.tk = w.tk := by rw [loaded.frame]; rfl
  have waiting : u.ia.waiting = [] := by rw [loaded.ia]; rfl
  have next : u.ia.nextSeq = w.store.nextSeq w.store.loadMap := by rw [loaded.ia]; rfl
  have normal : u.sm.state = .normal := by rw [loaded.frame]; rfl
  have work : u.rsc.halted = false := by rw [loaded.rsc]; rfl
  rw [← tk]
  exact State.closeSaved_closed (loaded.holdsSaved saved) waiting normal work (by rw [loaded.records]; exact places)
    (by rw [next]; exact seq)

/-! ## How the saved intervals are treated -/

/-- The outcome that a start-up of `w` finds for the save `c` (R177). -/
def State.treats (w : State) (c : SavedState) (outcome : Option SavedOutcome) : Prop :=
  ∃ s : State, s.store = w.store ∧ s.tk = w.tk ∧
    outcome = s.savedOutcome (s.forced (SaveBlock.saved? w.store.save)) c

theorem State.treats_iff (treats : w.treats c outcome) :
    (w.store.forces w.store.highestGeneration → outcome = some .forcedClosed) ∧
    (¬ w.store.forces w.store.highestGeneration → c.mode = .commissioning →
      outcome = if c.opens = [] then none else some .forcedClosed) ∧
    (¬ w.store.forces w.store.highestGeneration → c.mode = .metering →
      (c.continues w.tk → outcome = some .continued) ∧ (¬ c.continues w.tk → outcome = some .closed)) := by
  obtain ⟨s, store, tk, rfl⟩ := treats
  have forced := State.forced_iff (s := s)
  rw [store] at forced
  refine ⟨fun forces => ?_, fun free mode => ?_, fun free mode => ?_⟩
  · rw [forced.2 forces]
    exact State.savedOutcome_forced
  · rw [Bool.eq_false_iff.2 (mt forced.1 free)]
    exact State.savedOutcome_commissioning mode
  · rw [Bool.eq_false_iff.2 (mt forced.1 free), ← tk]
    exact State.savedOutcome_metering mode

/-! ## The four ways -/

theorem State.StartedUp.mode (h : State.StartedUp kind outcome w u r t)
    (saved : SaveBlock.saved? w.store.save = some c) :
    (w.store.forces w.store.highestGeneration → t.cm.mode = .commissioning) ∧
      (¬ w.store.forces w.store.highestGeneration → t.cm.mode = c.mode) := by
  rw [h.cm]
  refine ⟨fun forces => (h.loaded.forced forces).1, fun free => ?_⟩
  rw [(h.loaded.free free).1, saved]
  rfl

theorem State.StartedUp.recordQueue (h : State.StartedUp kind outcome w u r t) :
    t.rsc.recordQueue = r.rsc.recordQueue := by rw [h.rsc]

theorem State.StartedUp.nextSeq (h : State.StartedUp kind outcome w u r t) (same : r.ia.nextSeq = u.ia.nextSeq) :
    t.ia.nextSeq = w.store.nextSeq w.store.loadMap := by
  rw [h.accountant.1, same, h.loaded.ia]
  rfl

/-- COMMISSIONING with nothing OPEN in the save (R177). -/
theorem State.StartedUp.savedIdle (h : State.StartedUp kind none w u u t)
    (saved : SaveBlock.saved? w.store.save = some c) (mode : t.cm.mode = .commissioning) :
    t.sm.start.intervals = none ∧ t.rsc.recordQueue = w.store.pending w.store.loadMap ∧
      t.ia.nextSeq = w.store.nextSeq w.store.loadMap ∧ t.ia.nextBoundary = t.boundaryAfresh ∧
      ∀ a : AccountId, t.ia.accounts[a] = { c.account a with interval := none } := by
  refine ⟨by rw [h.start]; rfl, by rw [h.recordQueue, h.loaded.recordQueue], h.nextSeq rfl, ?_, fun a => ?_⟩
  · rw [h.nextBoundary]
    exact if_neg fun both => nomatch both.1
  · rw [h.account_commissioning mode]
    exact h.loaded.holdsSaved saved a

/-- The saved intervals go on (R177, R179). -/
theorem State.StartedUp.savedContinued (same : r = u.resumeSaved c (some .continued))
    (h : State.StartedUp kind (some .continued) w u r t) (saved : SaveBlock.saved? w.store.save = some c)
    (mode : t.cm.mode = .metering) :
    t.sm.start.intervals = some .continued ∧ t.rsc.recordQueue = w.store.pending w.store.loadMap ∧
      t.ia.nextSeq = w.store.nextSeq w.store.loadMap ∧
      t.ia.nextBoundary = (if c.opens = [] then t.boundaryAfresh else c.nextBoundary) ∧
      ∀ a : AccountId, t.ia.accounts[a] = { c.account a with
        interval := some ((c.account a).interval.getD (Interval.fresh t.tk.valid t.tk.seconds false)) } := by
  have holds := h.loaded.holdsSaved saved
  have taken : r = { u with ia := { u.ia.takeSaved c with nextBoundary := c.nextBoundary } } := same
  have opens : r.openCount = c.opens.length := by
    rw [taken]
    exact State.takeSaved_openCount holds
  have account (a : AccountId) : r.ia.accounts[a] = c.account a := by
    rw [taken]
    exact State.takeSaved_account holds a
  refine ⟨by rw [h.start]; rfl, ?_, h.nextSeq (by rw [taken]; rfl), ?_, fun a => ?_⟩
  · rw [h.recordQueue, taken, ← h.loaded.recordQueue]
  · rw [h.nextBoundary, opens]
    by_cases empty : c.opens = []
    · rw [if_pos empty]
      exact if_neg fun both => both.2 (by rw [empty]; rfl)
    · rw [if_neg empty]
      refine (if_pos ⟨rfl, mt List.eq_nil_of_length_eq_zero empty⟩).trans ?_
      rw [taken]
  · rw [h.account_metering mode (account a)]
    cases interval : (c.account a).interval with
    | none => exact if_pos rfl
    | some iv =>
      have whole : c.account a = { c.account a with interval := some iv } := by rw [← interval]
      exact (if_neg (Option.some_ne_none iv)).trans whole

/-- An account that is closed at the count opens there (R26). -/
theorem accountClosed_open {ct : ContractTable} {valid : Bool} {n : Nat} {before after : Account}
    (closed : accountClosed ct valid (some n) before after) (opened : before.interval ≠ none) :
    after.interval ≠ none := by
  obtain ⟨iv, interval⟩ := Option.ne_none_iff_exists'.1 opened
  unfold accountClosed at closed
  rw [interval] at closed
  obtain ⟨-, -, -, fresh⟩ := closed
  rw [fresh]
  exact Option.some_ne_none _

/-- The closes that are made at once stand at the end of the start-up, where the accounts do (R40, R177). -/
theorem State.StartedUp.savedCloses {start : Option Nat} {closes : List IntervalRecord}
    (h : State.StartedUp kind outcome w u r t) (closed : u.ClosedSaved c start r)
    (queue : t.rsc.recordQueue = w.store.pending w.store.loadMap ++ closes)
    (stand : ∀ a ∈ c.opens, t.ia.accounts[a] = r.ia.accounts[a]) :
    t.savedClosed c start (w.store.nextSeq w.store.loadMap) closes := by
  obtain ⟨closes', queue', seq, waiting, halted, seqs, owners, built, closed⟩ := closed.closes
  have same : closes' = closes := by
    rw [← h.recordQueue, queue, h.loaded.recordQueue] at queue'
    exact (List.append_cancel_left queue').symm
  subst same
  have next : u.ia.nextSeq = w.store.nextSeq w.store.loadMap := by rw [h.loaded.ia]; rfl
  obtain ⟨nextSeq, waits, -⟩ := h.accountant
  have cm : t.cm = r.cm := h.cm.trans h.resumes.cm.symm
  have tk : t.tk = r.tk := by rw [h.brought.frame]; rfl
  rw [next] at seq seqs
  refine ⟨nextSeq.trans seq, waits.trans waiting, by rw [h.rsc]; exact halted, seqs, owners, built, fun a mem => ?_⟩
  rw [cm, tk, stand a mem]
  exact closed a mem

/-- The saved intervals are closed, and open afresh at the count (R40, R177, R179). -/
theorem State.StartedUp.savedReopened {closes : List IntervalRecord} (same : r = u.closeSaved c .atCount)
    (h : State.StartedUp kind (some .closed) w u r t) (saved : SaveBlock.saved? w.store.save = some c)
    (mode : t.cm.mode = .metering) (queue : t.rsc.recordQueue = w.store.pending w.store.loadMap ++ closes)
    (places : (w.store.pending w.store.loadMap).length + c.opens.length ≤ 16)
    (seq : w.store.nextSeq w.store.loadMap + c.opens.length ≤ 4294967296) :
    t.savedClosed c (some t.tk.seconds) (w.store.nextSeq w.store.loadMap) closes ∧
      ∀ a : AccountId, a ∉ c.opens → t.ia.accounts[a] = { c.account a with
        interval := some (Interval.fresh t.tk.valid t.tk.seconds false) } := by
  have closed : u.ClosedSaved c (some t.tk.seconds) r := by
    rw [same, h.tk]
    exact h.loaded.closedSaved saved .atCount places seq
  refine ⟨h.savedCloses closed queue fun a mem => ?_, fun a out => ?_⟩
  · obtain ⟨_, _, _, _, _, _, _, _, own⟩ := closed.closes
    exact (h.account_metering mode rfl).trans
      (if_neg (accountClosed_open (own a mem) (SavedState.mem_opens.1 mem)))
  · refine (h.account_metering mode (closed.others a out)).trans (if_pos ?_)
    exact not_not.1 (mt SavedState.mem_opens.2 out)

/-- The saved intervals are closed, and none opens (R40, R177). -/
theorem State.StartedUp.savedEnded {closes : List IntervalRecord} (same : r = u.closeSaved c .nothing)
    (h : State.StartedUp kind (some .forcedClosed) w u r t) (saved : SaveBlock.saved? w.store.save = some c)
    (mode : t.cm.mode = .commissioning) (queue : t.rsc.recordQueue = w.store.pending w.store.loadMap ++ closes)
    (places : (w.store.pending w.store.loadMap).length + c.opens.length ≤ 16)
    (seq : w.store.nextSeq w.store.loadMap + c.opens.length ≤ 4294967296) :
    t.savedClosed c none (w.store.nextSeq w.store.loadMap) closes ∧
      ∀ a : AccountId, a ∉ c.opens → t.ia.accounts[a] = c.account a := by
  have closed : u.ClosedSaved c none r := by
    rw [same]
    exact h.loaded.closedSaved saved .nothing places seq
  exact ⟨h.savedCloses closed queue fun a _ => h.account_commissioning mode a,
    fun a out => (h.account_commissioning mode a).trans (closed.others a out)⟩

/-- Past intervals that did not go on, the next boundary is set afresh (R32). -/
theorem State.StartedUp.boundary {o : SavedOutcome} (h : State.StartedUp kind (some o) w u r t)
    (ended : o ≠ .continued) : t.sm.start.intervals = some o ∧ t.ia.nextBoundary = t.boundaryAfresh := by
  refine ⟨by rw [h.start]; rfl, ?_⟩
  rw [h.nextBoundary]
  exact if_neg fun both => ended (Option.some.inj both.1)

/-! ## The accounts after a start-up from a save -/

theorem Store.consumption_saved {st : Store} {map : StoreMap} (saved : SaveBlock.saved? st.save = some c) :
    st.consumption map = if st.failedBlocks map = [] ∧ st.pending map = [] then none
      else some ⟨st.failedBlocks map, (st.pending map).map (·.seq)⟩ := by
  unfold Store.consumption
  rw [saved]
  by_cases none : st.failedBlocks map = [] ∧ st.pending map = []
  · rw [if_pos none, if_neg]
    rw [none.1, none.2]
    exact Bool.false_ne_true
  · rw [if_neg none, if_pos]
    rw [Option.isSome_some, Bool.true_and, Bool.not_eq_true', ← Bool.not_eq_true, Bool.and_eq_true,
      List.isEmpty_iff, List.isEmpty_iff]
    exact none

/-- A start-up from a save takes the saved accounts up as the outcome says (R147, R177, R179). -/
theorem State.StartedUp.withSave (h : State.StartedUp kind outcome w u (u.resumeSaved c outcome) t)
    (saved : SaveBlock.saved? w.store.save = some c) (treats : w.treats c outcome) : t.startedFromSave w.store c := by
  obtain ⟨closes, records⟩ := h.resumes.records
  have queue : t.rsc.recordQueue = w.store.pending w.store.loadMap ++ closes := by
    rw [h.recordQueue, records, h.loaded.recordQueue]
  have none (alone : t.rsc.recordQueue = w.store.pending w.store.loadMap) : closes = [] :=
    List.append_right_eq_self.1 (queue.symm.trans alone)
  have newest : t.rsc.newest = w.store.newest w.store.loadMap := by rw [h.rsc]; rfl
  have consumption : t.rsc.consumption = w.store.consumption w.store.loadMap := by rw [h.rsc]; rfl
  obtain ⟨forced_mode, manages⟩ := h.mode saved
  obtain ⟨perm, sorted⟩ := w.store.pending_perm w.store.loadMap c saved
  obtain ⟨forces, commissioning, metering⟩ := State.treats_iff treats
  unfold State.startedFromSave
  dsimp only
  rw [h.generation, h.map, newest, consumption, h.tk]
  refine ⟨?_, _, _, closes, w.store.givesNextSeq_loaded w.store.loadMap, perm, sorted, queue,
    Store.consumption_saved saved, ?_, ?_, ?_, ?_⟩
  · rw [h.start]
    show ((SaveBlock.saved? w.store.save).map _).getD 0 = _
    rw [saved]
    rfl
  · intro ended idle
    obtain ⟨free, opens⟩ := not_or.1 ended
    have empty : c.opens = [] := not_not.1 fun some => opens ⟨idle, some⟩
    have outcome_eq := (commissioning free idle).trans (if_pos empty)
    subst outcome_eq
    obtain ⟨start, alone, rest⟩ := State.StartedUp.savedIdle h saved ((manages free).trans idle)
    exact ⟨start, none alone, rest⟩
  · intro ⟨free, on⟩ continues
    have outcome_eq := (metering free on).1 continues
    subst outcome_eq
    obtain ⟨start, alone, rest⟩ := State.StartedUp.savedContinued rfl h saved ((manages free).trans on)
    rw [h.tk] at rest
    exact ⟨start, none alone, rest⟩
  · intro ⟨free, on⟩ stops
    have outcome_eq := (metering free on).2 stops
    subst outcome_eq
    obtain ⟨start, boundary⟩ := h.boundary fun e => nomatch e
    refine ⟨start, boundary, fun places seq => ?_⟩
    have closed := State.StartedUp.savedReopened State.resumeSaved_closed h saved
      ((manages free).trans on) queue places seq
    rw [h.tk] at closed
    exact closed
  · intro ended
    have outcome_eq : outcome = some .forcedClosed := by
      by_cases forced : w.store.forces w.store.highestGeneration
      · exact forces forced
      · obtain ⟨idle, opens⟩ := ended.resolve_left forced
        exact (commissioning forced idle).trans (if_neg opens)
    have off : t.cm.mode = .commissioning := by
      by_cases forced : w.store.forces w.store.highestGeneration
      · exact forced_mode forced
      · exact (manages forced).trans (ended.resolve_left forced).1
    subst outcome_eq
    obtain ⟨start, boundary⟩ := h.boundary fun e => nomatch e
    exact ⟨start, boundary, fun places seq =>
      State.StartedUp.savedEnded State.resumeSaved_forced h saved off queue places seq⟩

end

end Sys2Proof.Machine
end

section
/-! A start-up over its store, whole (R112, R146, R147, R174 to R179). -/

namespace Sys2Proof.Machine

section
variable {w u r t s : State} {kind : ResetKind} {outcome : Option SavedOutcome}

/-- What every start-up leaves, however it treats the saved intervals (R112, R146, R174, R175). -/
theorem State.StartedUp.startedFrom (h : State.StartedUp kind outcome w u r t) (powered : w.powered = true)
    (found : SaveBlock.saved? w.store.save = none → t.startedWithoutSave w.store)
    (taken : ∀ c, SaveBlock.saved? w.store.save = some c → t.startedFromSave w.store c) :
    t.startedFrom kind w.straps w.pfw w.store := by
  have resumes := h.resumes
  have kept := h.kept
  have sm := h.start
  have blank : t.powered = true ∧ t.straps = w.straps ∧ t.pfw = w.pfw ∧ t.timeBase = 0 := by
    rw [h.brought.frame]
    refine ⟨kept.powered.trans ?_, kept.straps.trans ?_, kept.pfw.trans ?_, kept.timeBase.trans ?_⟩ <;>
      rw [h.loaded.frame]
    · exact powered
    · rfl
    · rfl
    · rfl
  have blocks : t.wa = Assembler.reset ∧ t.tr = Resolver.reset ∧ t.mlc = MsgController.reset ∧
      t.pau = Vector.replicate 8 none := by
    refine ⟨?_, h.tr, ?_, ?_⟩ <;> rw [h.brought.frame]
    · exact resumes.wa.trans (by rw [h.loaded.frame]; rfl)
    · exact resumes.mlc.trans (by rw [h.loaded.frame]; rfl)
    · exact kept.pau.trans (by rw [h.loaded.frame]; rfl)
  unfold State.startedFrom
  refine ⟨blank, blocks, h.points, h.links, ⟨?_, ?_, ?_, ?_⟩, h.managerStarted, h.storeStarted, h.conditionsStarted,
    h.accountant.2.2, ?_⟩
  · rw [sm]
  · rw [sm]; rfl
  · rw [sm]; rfl
  · rw [sm, h.generation]; rfl
  · cases saved : SaveBlock.saved? w.store.save with
    | none => exact found saved
    | some c => exact taken c saved

/-- The part from the end of the load to the end of the start-up. -/
theorem State.Loaded.startedUp (loaded : w.Loaded u) (resumes : u.Resumes r) (kept : u.Kept r) :
    State.StartedUp kind outcome w u r
      ((r.endLoading kind outcome).startLinks (List.finRange 4)).enterMode.startLevels :=
  ⟨loaded, resumes, kept, (loaded.ready resumes kept).brought⟩

theorem State.Kept.refl (u : State) : u.Kept u := ⟨rfl, rfl, rfl, rfl, rfl, rfl, rfl, rfl, rfl, rfl, rfl⟩

/-- The start-up of `w` once it has loaded its store (R177, R179). -/
theorem State.StoreLoaded.started (loaded : w.StoreLoaded s) (powered : w.powered = true)
    (ended : t = ((s.resumed.endLoading kind s.outcome).startLinks (List.finRange 4)).enterMode.startLevels) :
    t.startedFrom kind w.straps w.pfw w.store ∧ t.tk = w.tk := by
  have store : s.store = w.store := by rw [loaded.frame]; rfl
  have tk : s.tk = w.tk := by rw [loaded.frame]; rfl
  have settled := loaded.settled
  cases saved : SaveBlock.saved? w.store.save with
  | none =>
    obtain ⟨outcome, resumed⟩ := State.resumed_none (s := s) (by rw [store]; exact saved)
    rw [outcome, resumed, store] at ended
    have started : State.StartedUp kind none w _ _ t := ended ▸ settled.startedUp (.refl _) (.refl _)
    exact ⟨started.startedFrom powered started.withoutSave fun c some => (nomatch saved.symm.trans some), started.tk⟩
  | some c =>
    obtain ⟨outcome, resumed⟩ := State.resumed_some (s := s) (c := c) (by rw [store]; exact saved)
    rw [resumed] at ended
    rw [store] at ended outcome
    have resumes := State.resumeSaved_resumes c s.outcome (u := s.settleManager (SaveBlock.saved? w.store.save))
      (by rw [settled.rsc]; rfl) settled.quiet
    have started : State.StartedUp kind s.outcome w _ _ t :=
      ended ▸ settled.startedUp resumes (State.resumeSaved_kept c s.outcome _)
    refine ⟨started.startedFrom powered (fun none => nomatch saved.symm.trans none) fun d some => ?_, started.tk⟩
    obtain rfl := Option.some.inj (saved.symm.trans some)
    exact started.withSave saved ⟨s, store, tk, outcome⟩

/-- A start-up over the store that decay left (R146, R147, R174 to R179). -/
theorem State.startUp_started (kind : ResetKind) (decayed : List StoreUnit) (s : State) (powered : s.powered = true) :
    (s.startUp kind decayed).startedFrom kind s.straps s.pfw (decayed.foldl Store.decay s.store) ∧
      (s.startUp kind decayed).tk = s.tk := by
  have loaded := State.loadConfig_storeLoaded (s.updStore fun st => decayed.foldl Store.decay st)
  refine loaded.started powered ?_
  unfold State.startUp
  dsimp only
  rw [State.loadStep_eq]

end

end Sys2Proof.Machine
end

section
/-! The three resets (R140, R148, R168, R180, R181). -/

namespace Sys2Proof.Machine

section
variable {s : State}

/-! ## Power-on and the pin -/

/-- Settles O19: both resets start up over the store that the interrupted write left. -/
theorem powerOnAndPinReset : Obligations.PowerOnAndPinReset := by
  intro straps left decayed s interrupted store
  have left_store : store = decayed.foldl Store.decay (s.interrupt left).store :=
    congrArg (List.foldl Store.decay · decayed) (s.interrupt_store left).symm
  have pfw : (s.interrupt left).pfw = s.pfw := by simp
  have tk : (s.interrupt left).tk = s.tk := by simp
  have up : (s.interrupt left).powered = s.powered := by simp
  rw [left_store, ← pfw, ← tk, ← up]
  refine ⟨⟨_, rfl, State.startUp_started .powerOn decayed _ rfl⟩, fun powered => ⟨_, if_neg ?_,
    State.startUp_started .pin decayed { s.interrupt left with straps := straps } powered⟩⟩
  rw [← up, powered]
  decide

/-! ## The soft reset -/

/-- The marker that a soft reset writes: CLEAN, or RUNNING where the next start-up has to know of a failed save or
of a gap (R140, R178, R181). -/
theorem State.saveContent_clean (s : State) : s.saveContent .clean =
    if s.rsc.saveFailed = true ∨ ∃ a : AccountId, (s.ia.accounts[a]).gapMark = true then .running else .clean :=
  if_congr (by rw [Bool.or_eq_true, vector_any_iff]) rfl rfl

theorem State.writeClean_store (normal : s.sm.state = .normal) (marker : AttemptResult) :
    (s.writeClean marker).store =
      { s.store with save := if marker = .verified then some (s.saveContent .clean) else none } := by
  unfold State.writeClean
  rw [if_pos normal]
  cases marker with
  | verified => rfl
  | mismatch left => rfl

theorem State.writeClean_outside (outside : s.sm.state ≠ .normal) (marker : AttemptResult) :
    s.writeClean marker = s := if_neg outside

/-- The part with its store as a soft reset leaves it to the start-up (R148, R181). -/
def State.resetWritten (marker : AttemptResult) (s : State) : State :=
  if s.rsc.halted then s.interrupt (leftBy marker) else s.writeClean marker

theorem State.resetWritten_kept (marker : AttemptResult) (s : State) :
    (s.resetWritten marker).powered = s.powered ∧ (s.resetWritten marker).straps = s.straps ∧
      (s.resetWritten marker).pfw = s.pfw ∧ (s.resetWritten marker).tk = s.tk := by
  unfold State.resetWritten
  split <;> simp

theorem State.resetWritten_working (marker : AttemptResult) (work : s.rsc.halted = false) :
    (s.resetWritten marker).store = if s.sm.state ≠ .normal then s.store else
      { s.store with save := if marker = .verified then some (s.saveContent .clean) else none } := by
  unfold State.resetWritten
  rw [if_neg (by rw [work]; decide)]
  by_cases normal : s.sm.state = .normal
  · rw [if_neg (not_not.2 normal), State.writeClean_store normal]
  · rw [if_pos normal, State.writeClean_outside normal]

theorem State.resetWritten_halted (halted : s.rsc.halted = true) (marker : AttemptResult) :
    s.resetWritten marker = s.interrupt (leftBy marker) := if_pos halted

/-- A reset that can proceed does, after the replies that wait to be sent (R181, R189). -/
theorem exec_softResetProceed {marker : AttemptResult} {decayed : List StoreUnit} (powered : s.powered = true)
    (reset : s.mlc.resetTaken = true)
    (finished : s.rsc.halted = true ∨ (s.rsc.idle = true ∧ s.ia.waiting = [])) :
    exec (.softResetProceed marker decayed) s =
      .next (((s.advance (s.sendTime s.mlc.replies)).resetWritten marker).startUp .soft decayed) := by
  have proceeds : s.resetCanProceed = true := by
    unfold State.resetCanProceed
    rw [powered, reset]
    rcases finished with halted | ⟨idle, waiting⟩
    · rw [halted]; rfl
    · rw [idle, waiting]; exact Bool.or_true _
  exact if_neg (by rw [proceeds]; decide)

/-- Notices do not wait for a reset to proceed (R189). -/
theorem MsgController.replies_notices {m : MsgController} (notices : ∀ f ∈ m.tx, f[2]? = some 0x82) :
    m.replies = [] := by
  unfold MsgController.replies
  rw [List.reverse_eq_nil_iff, List.dropWhile_eq_nil_iff]
  exact fun f mem => beq_iff_eq.2 (notices f (List.mem_reverse.1 mem))

theorem State.sendTime_nil (s : State) : s.sendTime [] = 0 := by
  unfold State.sendTime
  cases s.straps.rate <;> simp [Rate.speed]

/-- Settles O20: the start-up is over the store as the CLEAN write, or the write that was cut off, left it. -/
theorem softResetProceeds : Obligations.SoftResetProceeds := by
  intro marker decayed s powered reset finished
  dsimp only
  generalize moved : s.advance (s.sendTime s.mlc.replies) = u
  obtain ⟨up, pfw, straps, -, -, -, -, store, -, sm, -⟩ := s.advance_frame (s.sendTime s.mlc.replies)
  have rsc := State.advance_rsc (dt := s.sendTime s.mlc.replies) powered
  have accounts := s.advance_accounts (s.sendTime s.mlc.replies)
  have tk := s.advance_tk (s.sendTime s.mlc.replies)
  rw [moved] at up pfw straps store sm rsc accounts tk
  obtain ⟨up', straps', pfw', tk'⟩ := u.resetWritten_kept marker
  obtain ⟨started, count⟩ := State.startUp_started .soft decayed (u.resetWritten marker)
    (up'.trans (up.trans powered))
  rw [straps', straps, pfw', pfw] at started
  rw [tk', tk] at count
  refine ⟨_, (exec_softResetProceed powered reset finished).trans (by rw [moved]), ?_, fun seconds millis notices => ?_⟩
  · refine (congrArg (fun st => (State.startUp .soft decayed (u.resetWritten marker)).startedFrom .soft s.straps s.pfw
      (decayed.foldl Store.decay st)) ?_).mp started
    by_cases halted : s.rsc.halted = true
    · rw [if_pos halted, State.resetWritten_halted (by rw [rsc]; exact halted), u.interrupt_store, rsc, store]
      cases s.rsc.running <;> cases marker <;> rfl
    · have work : u.rsc.halted = false := by rw [rsc]; exact Bool.eq_false_iff.2 halted
      rw [if_neg halted, State.resetWritten_working marker work, State.saveContent_clean, rsc, accounts, sm, store]
  · rw [MsgController.replies_notices notices, State.sendTime_nil] at count
    rw [count, Timekeeper.advance_of_lt (by omega)]
    have sec : (s.tk.seconds * 1000 + s.tk.millis + 0) / 1000 = s.tk.seconds := by omega
    have mil : (s.tk.seconds * 1000 + s.tk.millis + 0) % 1000 = s.tk.millis := by omega
    rw [sec, mil]

end

end Sys2Proof.Machine
end
